-- ==== Sys2Proof/Word.lean ====
section
/-! DEFINITION. The plainest types of the model: bytes, minutes, milliseconds, columns, positions and slots. -/

namespace Sys2Proof

/-- One byte of a line, of a fob record or of a reply. -/
abbrev Byte := BitVec 8

/-- A branch minute (00_scope.md, Conventions): the seconds count divided by 60. -/
abbrev Minute := Nat

/-- Milliseconds of the part's own uptime (00_scope.md, Conventions). -/
abbrev Ms := Nat

/-- A column; column number c of the manual (1 to 16) is the index c − 1 (R1). -/
abbrev ColId := Fin 16

/-- A position in a column, from the top; position p of the manual (1 to 24) is the index p − 1 (R1). -/
abbrev PosId := Fin 24

/-- A slot of the cabinet, named by its column and its position (R1). -/
structure SlotId where
  col : ColId
  pos : PosId
deriving DecidableEq, Repr

end Sys2Proof
end

