-- ==== Sys2Proof/Config.lean ====
section
/-! DEFINITION. What the design fixes: the capacities of the collections, the times of the part, the battery
thresholds; and the values the manual leaves free. -/

namespace Sys2Proof.Config

/-- The fleet table holds up to 512 vehicle records (R40). -/
abbrev fleetCapacity : Nat := 512
/-- The contract table holds up to 384 open contracts (R80). -/
abbrev contractCapacity : Nat := 384
/-- The closed-contract ring holds 64 closing records (R92). -/
abbrev ringCapacity : Nat := 64
/-- The release queue holds up to 16 live requests (R56). -/
abbrev queueCapacity : Nat := 16
/-- The ended list keeps the 16 requests that ended most recently (R57). -/
abbrev endedCapacity : Nat := 16
/-- The chute log holds at most 96 entries (R110). -/
abbrev chuteCapacity : Nat := 96
/-- The in-chute count is at most 64 (R110). -/
abbrev inChuteBound : Nat := 64
/-- The alarm list holds up to 48 records (R134). -/
abbrev alarmCapacity : Nat := 48
/-- The notice queue holds up to 32 notices (R166). -/
abbrev noticeCapacity : Nat := 32
/-- A FETCH NOTICES reply carries at most 6 notices (R167). -/
abbrev fetchLimit : Nat := 6
/-- A reply body has at most 240 bytes (R167, R173); a longer body length abandons a frame (R162). -/
abbrev bodyLimit : Nat := 240

/-- The qualification time of a presence change in MAINS (R5). -/
abbrev qualifyMains : Ms := 150
/-- The qualification time of a presence change in RESERVE and LOW_RESERVE (R5). -/
abbrev qualifyReserve : Ms := 1000
/-- The strike confirmation, the closing confirmation and the closed time of a driven latch (R12, R13). -/
abbrev latchConfirm : Ms := 500
/-- The open time of an uncommanded open (R14). -/
abbrev uncommanded : Ms := 1000
/-- The period of the probe of a LOST column (R21). -/
abbrev probePeriod : Ms := 5000
/-- The longest a read attempt lasts (R24). -/
abbrev attemptTime : Ms := 40
/-- The attempts of one read (R24). -/
abbrev attempts : Nat := 3
/-- The period of the audit tick (R37). -/
abbrev auditPeriod : Ms := 5000
/-- The LOCATE timer (R53). -/
abbrev locateTime : Ms := 30000
/-- The longest drive of the pocket (R106). -/
abbrev pocketDrive : Ms := 2000
/-- The period of the drives of a pocket that does not empty (R106). -/
abbrev pocketPeriod : Ms := 5000
/-- The longest strike window: the strike history keeps the charges of the last 5,000 ms (R63). -/
abbrev historyTime : Ms := 5000
/-- The mains-absent timing (R150). -/
abbrev mainsAbsent : Ms := 200
/-- The mains-present timing (R150). -/
abbrev mainsPresent : Ms := 5000
/-- The battery timing (R149). -/
abbrev batteryTime : Ms := 2000
/-- The hold timer: ten minutes of uptime (R170). -/
abbrev holdTime : Ms := 600000
/-- The part begins to send a reply within this time of the request's last byte (R165). -/
abbrev replyWithin : Ms := 20

/-- The low threshold at the battery sense input, in millivolts (R149). -/
abbrev batteryLow : Nat := 2100
/-- The low threshold plus the hysteresis of 0.15 V, in millivolts (R149). -/
abbrev batteryHigh : Nat := 2250
/-- A due minute lies at most 131,400 minutes ahead (R83, R87). -/
abbrev dueHorizon : Minute := 131400
/-- The greatest late charge (R125). -/
abbrev chargeCap : Nat := 16777215
/-- The greatest number of billable hours (R124). -/
abbrev hoursCap : Nat := 65535
/-- The last value of the seconds count (R117). -/
abbrev lastSecond : Nat := 4294967295

/-- FREE VALUE (log entry 3): which of several timed events that fall due together is handled first. The manual
lets either come first (R116, R119, R150, R170); the constant has no body, so no proof can lean on a choice. -/
opaque tieBreak : Nat → Nat

/-- FREE VALUE (log entry 8): what the branch clock's count reads before the clock check of a start-up that finds it
stopped (R118, R154); a function of what the count would be had it run on. The manual gives no value for it. -/
opaque stoppedCount : BitVec 32 → BitVec 32

/-- FREE VALUE (log entry 15): how long after a request the part begins to send its reply; held within the 20 ms of
R165 where it is used. The manual gives no value within them. -/
opaque replyWait : Nat → Ms

end Sys2Proof.Config
end

