-- ==== Sys2Proof/Syntax.lean ====
section
/-! DEFINITION. The commands the part takes: one constructor of `Instr` for each row of spec/opcode_table.json.
A request carries the fields of its body at the widths of Table 11.2 (R172); an event carries what the outside
shows the part at that moment. -/

namespace Sys2Proof

/-- The two serial lines (00_scope.md). -/
inductive Line where
  | branch
  | service
deriving DecidableEq, Repr

/-- What a valid frame addressed to the part says besides its kind and its fields (R162, R163). -/
structure ReqHdr where
  /-- the line the frame came on -/
  line : Line
  /-- a broadcast: address byte 0 on the branch line -/
  broadcast : Bool
  /-- the transaction tag byte -/
  tag : Byte
  /-- the body length of the frame; the typed fields of a command mean something only when it is the length
  Table 11.2 gives for the kind (R172) -/
  bodyLen : Nat
deriving DecidableEq, Repr

/-- What the outside shows the part at a start-up: which column ports are answered by a board, and the strap pins
(R18, R154 steps 1 and 2). -/
structure StartInputs where
  /-- bit c − 1: the board of column c answers the probe -/
  answers : BitVec 16
  /-- the three address straps; the unit address is the value plus 1 (R163) -/
  straps : BitVec 3
  /-- the baud strap: open selects 115,200 baud, tied low 57,600 (00_scope.md) -/
  baudOpen : Bool
deriving DecidableEq, Repr

/-- The commands of spec/opcode_table.json, in the table's order. -/
inductive Instr where
  /-- IDENTIFY (R171) -/
  | identify (h : ReqHdr)
  /-- STATUS (R169) -/
  | status (h : ReqHdr)
  /-- FETCH NOTICES (R167) -/
  | fetchNotices (h : ReqHdr)
  /-- READ SLOT (R164, Note 1) -/
  | readSlot (h : ReqHdr) (first : BitVec 16) (count : Byte)
  /-- READ VEHICLE (R54) -/
  | readVehicle (h : ReqHdr) (unit : BitVec 24) (tagId : BitVec 32)
  /-- READ CONTRACT (R93) -/
  | readContract (h : ReqHdr) (contract : BitVec 32)
  /-- LIST DUE (R94) -/
  | listDue (h : ReqHdr) (start : BitVec 16)
  /-- LIST CLOSED (R95) -/
  | listClosed (h : ReqHdr) (sequence : BitVec 32)
  /-- LIST CHUTE (R114) -/
  | listChute (h : ReqHdr) (start : Byte)
  /-- LIST ALARMS (R144) -/
  | listAlarms (h : ReqHdr) (start : BitVec 16)
  /-- READ SETTINGS (R120) -/
  | readSettings (h : ReqHdr)
  /-- SET CLOCK (R119) -/
  | setClock (h : ReqHdr) (seconds : BitVec 32)
  /-- CONFIGURE (R121) -/
  | configure (h : ReqHdr) (grace prewarn : Byte) (t2 t3 : BitVec 16) (window : Byte) (aging : BitVec 16) (audit : Byte)
  /-- ENROL VEHICLE (R45) -/
  | enrolVehicle (h : ReqHdr) (unit : BitVec 24) (tagId : BitVec 32) (home : BitVec 16)
  /-- RETIRE VEHICLE (R48) -/
  | retireVehicle (h : ReqHdr) (unit : BitVec 24)
  /-- SET HOME SLOT (R49) -/
  | setHomeSlot (h : ReqHdr) (unit : BitVec 24) (slot : BitVec 16)
  /-- HOLD VEHICLE (R50) -/
  | holdVehicle (h : ReqHdr) (unit : BitVec 24)
  /-- UNHOLD VEHICLE (R51) -/
  | unholdVehicle (h : ReqHdr) (unit : BitVec 24)
  /-- ACCOUNT VEHICLE (R52) -/
  | accountVehicle (h : ReqHdr) (unit : BitVec 24)
  /-- LOCATE (R53) -/
  | locate (h : ReqHdr) (unit : BitVec 24) (slot : BitVec 16)
  /-- OPEN CONTRACT (R83, R84) -/
  | openContract (h : ReqHdr) (contract : BitVec 32) (unit : BitVec 24) (cls : Byte) (due : BitVec 32)
      (hourRate : BitVec 16) (dayRate : BitVec 32) (grace : Byte)
  /-- EXTEND CONTRACT (R87, R88) -/
  | extendContract (h : ReqHdr) (contract : BitVec 32) (due : BitVec 32)
  /-- CLOSE CONTRACT (R90) -/
  | closeContract (h : ReqHdr) (contract : BitVec 32) (reason : Byte)
  /-- RELEASE (R58, R59) -/
  | release (h : ReqHdr) (kind : Byte) (unit : BitVec 24) (slot : BitVec 16)
  /-- CANCEL RELEASE (R72) -/
  | cancelRelease (h : ReqHdr) (number : Byte)
  /-- SLOT SERVICE with setting off, or with a setting that is neither off nor on (R147) -/
  | slotServiceOff (h : ReqHdr) (slot : BitVec 16) (setting : Byte)
  /-- SLOT SERVICE with setting on (R148) -/
  | slotServiceOn (h : ReqHdr) (slot : BitVec 16)
  /-- CHUTE EMPTIED (R113) -/
  | chuteEmptied (h : ReqHdr)
  /-- ACK ALARM for one number, or with an ALL mark that is neither 0 nor 1 (R140, R172) -/
  | ackAlarm (h : ReqHdr) (number : BitVec 16) (mark : Byte)
  /-- ACK ALARM with ALL mark 1 (R141, R172) -/
  | ackAlarmAll (h : ReqHdr) (number : BitVec 16)
  /-- RESTART (R156), with what the start-up that follows finds outside -/
  | restart (h : ReqHdr) (inputs : StartInputs)
  /-- SERVICE HOLD with setting on (R170) -/
  | serviceHoldOn (h : ReqHdr)
  /-- SERVICE HOLD with setting off, or with a setting that is neither (R170) -/
  | serviceHoldOff (h : ReqHdr) (setting : Byte)
  /-- FACTORY CLEAR (R161), with what the start-up that follows finds outside -/
  | factoryClear (h : ReqHdr) (inputs : StartInputs)
  /-- a valid frame addressed to the part whose kind byte names no request kind (R164) -/
  | unknownKind (h : ReqHdr) (kind : Byte)
  /-- a complete frame whose CRC differs (R162) -/
  | frameDiscarded (line : Line)
  /-- a byte gap over 5 ms or a missing stop bit (R162) -/
  | frameGapTimeout (line : Line)
  /-- a valid frame not addressed to the part, or a broadcast not taken (R163, R164) -/
  | frameIgnored (line : Line)
  /-- a request addressed to the part that completes while its line's buffer is occupied (R163) -/
  | lineOverrun (line : Line)
  /-- the last byte of a reply has been sent (R163) -/
  | replySent (line : Line)
  /-- a slot's presence contact is seen at a level (R4) -/
  | presenceContactChange (slot : SlotId) (present : Bool)
  /-- a candidate has held for the qualification time (R5) -/
  | candidateQualified (slot : SlotId)
  /-- a latch sense report (R12, R13, R14) -/
  | latchSenseChange (slot : SlotId) (isOpen : Bool)
  /-- 500 ms in STRIKING without open sense (R12) -/
  | strikeConfirmTimeout (slot : SlotId)
  /-- closed sense for 500 ms in HELD_OPEN (R12) -/
  | heldOpenClosedTimeout (slot : SlotId)
  /-- 500 ms in CLOSING without closed sense (R13) -/
  | closingConfirmTimeout (slot : SlotId)
  /-- open sense for 1 s in CLOSED (R14) -/
  | uncommandedOpen (slot : SlotId)
  /-- the board of a column has given no answer for 1 s (R20) -/
  | boardSilenceTimeout (col : ColId)
  /-- a LOST column probes its port (R21) -/
  | columnProbe (col : ColId) (answered : Bool)
  /-- an attempt of a column's reader ends with the bytes it received (R23, R24) -/
  | readAttemptEnd (col : ColId) (bytes : List Byte)
  /-- the audit tick of a column (R38) -/
  | auditTick (col : ColId)
  /-- a strike charge leaves the window of the mode in force (R63) -/
  | strikeChargeExpiry
  /-- a WAITING STANDARD request reaches the aging time (R64) -/
  | agingReached (number : Nat)
  /-- the take deadline of an OPEN release (R71) -/
  | takeDeadline (number : Nat)
  /-- a LOCATE timer runs out (R53) -/
  | locateTimerExpiry (slot : SlotId)
  /-- the mouth sensor reports a fob in the read pocket (R106) -/
  | dropDetected
  /-- an attempt of the mouth reader ends with the bytes it received (R106) -/
  | chuteReadAttemptEnd (bytes : List Byte)
  /-- the pocket reports empty (R106) -/
  | pocketEmpty
  /-- the pocket still holds a fob after 2 s of drive (R106) -/
  | pocketDriveTimeout
  /-- the pocket is driven again (R106) -/
  | pocketRetry
  /-- the seconds count reaches a minute boundary (R117, R129) -/
  | minuteBoundary
  /-- one examination of the sweep in progress (R130) -/
  | sweepExamination
  /-- the mains-present input changes (R150) -/
  | mainsInputChange (present : Bool)
  /-- mains absent for 200 ms in MAINS (R150) -/
  | mainsAbsentQualified
  /-- mains present for 5 s in a reserve mode (R150) -/
  | mainsPresentQualified
  /-- the battery sense input takes a new reading, in millivolts (R149) -/
  | batterySenseChange (millivolts : Nat)
  /-- battery sense has stayed in its band for 2 s (R149) -/
  | batteryStateQualified
  /-- the main supply falls below 3.0 V (R152) -/
  | supplyStop
  /-- the main supply rises above 3.1 V (R152, R154); whether the clock's backup supply failed meanwhile (R118) -/
  | powerOn (inputs : StartInputs) (backupFailed : Bool)
  /-- steps 7 to 9 of start-up (R154); the bytes of up to three attempts of the mouth reader, for a fob found
  in the pocket that no entry names (R115) -/
  | startupCompletion (attempts : List (List Byte))
  /-- the hold timer runs out (R170) -/
  | serviceHoldTimeout
  /-- a 0x7E byte received while hunting (R162) -/
  | syncByteBeginsFrame (line : Line)
  /-- a length byte above 240 (R162) -/
  | frameLengthAbandoned (line : Line)
deriving DecidableEq, Repr

end Sys2Proof
end

