-- ==== Sys2Proof/Machine/State.lean ====
section
/-! DEFINITION. The state of the part, as plain data: the records of its ten blocks (00_scope.md, Block overview),
its input and output pins, and the queue of the commands that wait. Field by field as the rules cited name them. -/

namespace Sys2Proof.Machine

/-! ## Fleet table (R40) -/

/-- The out reason of a vehicle that is OUT (R40). -/
inductive OutReason where
  | contract
  | movement
  | staff
deriving DecidableEq, Repr

/-- The status of a vehicle, with the field that is present in that status alone (R40, R41). -/
inductive VehicleStatus where
  /-- IN, with the slot that holds the fob -/
  | inSlot (slot : SlotId)
  /-- OUT, with the out reason -/
  | out (reason : OutReason)
  /-- DROPPED, with the number of the chute entry -/
  | dropped (entry : Nat)
  | stray
  | away
deriving DecidableEq, Repr

/-- The source of a hold (R50). -/
inductive HoldSource where
  | staff
  | escalation
deriving DecidableEq, Repr

/-- A vehicle record (R40). -/
structure Vehicle where
  unit : Nat
  tag : Nat
  status : VehicleStatus
  home : Option SlotId
  hold : Option HoldSource
  contract : Option Nat
  request : Option Nat
  lastChange : Minute
deriving DecidableEq, Repr

/-! ## Custody table (R1) -/

/-- The release kinds that a RELEASING record carries (R1). -/
inductive VehicleKind where
  | contract
  | movement
  | staffVehicle
deriving DecidableEq, Repr

/-- The reason of a FOREIGN record (R1). -/
inductive ForeignReason where
  | unknown
  | duplicate
  | wrongKind
  | retired
deriving DecidableEq, Repr

/-- The five states of a slot record, each with the fields present in it (R1). -/
inductive Custody where
  | empty
  | unread (arrival : Minute)
  | held (tag : Nat) (unit : Nat) (arrival : Minute) (auditFailed : Bool)
  | foreign (tag : Nat) (reason : ForeignReason) (arrival : Minute)
  | releasing (tag : Nat) (unit : Nat) (arrival : Minute) (kind : VehicleKind) (auditFailed : Bool)
deriving DecidableEq, Repr

/-- A slot record: its state and the three flags present in all states (R1, R2). -/
structure SlotRecord where
  custody : Custody
  outOfService : Bool
  latchFault : Bool
  unreachable : Bool
deriving DecidableEq, Repr

/-! ## Column engines -/

/-- The latch states (R11), each with the uptime from which its supervision counts. -/
inductive Latch where
  /-- CLOSED; the uptime of the first open report seen, while sense reports open (R14) -/
  | closed (openSince : Option Ms)
  /-- STRIKING since the strike command (R12) -/
  | striking (since : Ms)
  /-- HELD_OPEN; the uptime from which sense has reported closed, while it does (R12) -/
  | heldOpen (closedSince : Option Ms)
  /-- CLOSING since the drive stopped (R13) -/
  | closing (since : Ms)
deriving DecidableEq, Repr

/-- What the column engine keeps of one slot, all of it volatile, and the slot's two input pins. -/
structure SlotEngine where
  /-- input pin: the presence contact is at present level -/
  contact : Bool
  /-- input pin: the latch sense reports open -/
  senseOpen : Bool
  /-- the qualified level, true for PRESENT, where the slot has one (R4) -/
  qualified : Option Bool
  /-- the uptime at which the standing candidate was first seen (R4) -/
  candidate : Option Ms
  /-- the latch state, where the latch has one (R11) -/
  latch : Option Latch
  /-- the uptime at which the running LOCATE timer runs out (R53) -/
  locateUntil : Option Ms
deriving DecidableEq, Repr

/-- A slot: its retained record and its volatile engine state. -/
structure Slot where
  record : SlotRecord
  engine : SlotEngine
deriving DecidableEq, Repr

/-- The states of a column engine (R18). -/
inductive EngineState where
  | stopped
  | reconciling
  | running
  | lost
deriving DecidableEq, Repr

/-- The purposes of a read request (R25). -/
inductive Purpose where
  | arrival
  | recheck
  | verify
  | audit
deriving DecidableEq, Repr

/-- A request on a read list; its place in the list is its placement order (R25). -/
structure ReadRequest where
  pos : PosId
  purpose : Purpose
deriving DecidableEq, Repr

/-- The read in progress of a column reader (R24, R26). -/
structure Read where
  pos : PosId
  /-- the purpose its request had when the read started -/
  purpose : Purpose
  /-- the purposes placed for it while it was in progress -/
  also : List Purpose
  /-- the attempt in progress, 1 to 3 -/
  attempt : Nat
  /-- the uptime at which the attempt in progress started -/
  since : Ms
deriving DecidableEq, Repr

/-- A column engine. -/
structure Column where
  engine : EngineState
  /-- the column is in the fitted set; retained (R18) -/
  fitted : Bool
  slots : Vector Slot 24
  /-- the read list in placement order (R25) -/
  readList : List ReadRequest
  /-- the read in progress (R24) -/
  reader : Option Read
  /-- the audit pointer (R38) -/
  auditPointer : PosId
  /-- the uptime of the next audit tick, while the audit timer runs (R37) -/
  auditNext : Option Ms
  /-- the uptime of the next probe, while LOST (R21) -/
  nextProbe : Ms
  /-- the positions whose reconciliation read has not ended yet (R158) -/
  unreconciled : List PosId
  /-- the reconciliation minute of the column (R158) -/
  reconMinute : Minute
deriving DecidableEq, Repr

/-! ## Release scheduler (R55) -/

/-- What a release request is for: its kind and the fields present for that kind (R55). -/
inductive Target where
  | contract (unit : Nat) (number : Nat)
  | movement (unit : Nat)
  | staffVehicle (unit : Nat)
  | staffSlot
deriving DecidableEq, Repr

/-- The class of a release request (R55). -/
inductive ReleaseClass where
  | staff
  | priority
  | standard
deriving DecidableEq, Repr

/-- The state of a release request, with the fields present in it (R55). -/
inductive ReleasePhase where
  | waiting
  | verifying (selected : Ms)
  | opened (selected strike deadline : Ms) (passed : Bool)
deriving DecidableEq, Repr

/-- A release request (R55). -/
structure Release where
  number : Nat
  target : Target
  slot : SlotId
  cls : ReleaseClass
  origin : Line
  submit : Ms
  phase : ReleasePhase
  /-- the model's mark: the aging event of this request has been handled (log entry 5) -/
  aged : Bool
deriving DecidableEq, Repr

/-- The ten outcomes (R55, Note 3). -/
inductive ReleaseOutcome where
  | taken
  | notTaken
  | cancelled
  | held
  | vehicleGone
  | mismatch
  | unverified
  | latchFault
  | columnLost
  | power
deriving DecidableEq, Repr

/-- A charge of the strike history (R63). -/
structure Strike where
  charged : Ms
  /-- the model's mark: the moment at which it left the window of the mode in force has been handled (log entry 5) -/
  left : Bool
deriving DecidableEq, Repr

/-- The release scheduler's state (R56, R57, R63), all of it volatile (R78). -/
structure Scheduler where
  queue : List Release
  lastNumber : Nat
  ended : List (Nat × ReleaseOutcome)
  strikes : List Strike
deriving DecidableEq, Repr

/-! ## Contract table (R79) -/

/-- The renter class (R79). -/
inductive RenterClass where
  | standard
  | priority
deriving DecidableEq, Repr

/-- The lateness levels, lowest first (R123). -/
inductive Level where
  | current
  | dueSoon
  | grace
  | late
  | overdue
  | unreturned
deriving DecidableEq, Repr

/-- The state of a contract, with the fields present in it (R79). -/
inductive ContractState where
  /-- PENDING, with its release request while that is live -/
  | pending (request : Option Nat)
  /-- ACTIVE, with its take minute and its level -/
  | active (take : Minute) (level : Level)
deriving DecidableEq, Repr

/-- A contract record (R79). -/
structure Contract where
  number : Nat
  unit : Nat
  cls : RenterClass
  due : Minute
  grace : Option Nat
  hourRate : Nat
  dayRate : Nat
  openMinute : Minute
  state : ContractState
  charge : Nat
  capped : Bool
  hours : Nat
  mark : Option Nat
deriving DecidableEq, Repr

/-- The manual reasons of a closing (R92). -/
inductive ManualReason where
  | keyLost
  | returnedElsewhere
deriving DecidableEq, Repr

/-- The path of a closing, with the field present for it (R92). -/
inductive ClosePath where
  | slot (slot : SlotId)
  | chute (entry : Nat)
  | manual (reason : ManualReason)
deriving DecidableEq, Repr

/-- A closing record (R92). -/
structure ClosingRecord where
  sequence : Nat
  number : Nat
  unit : Nat
  cls : RenterClass
  take : Minute
  due : Minute
  returned : Minute
  path : ClosePath
  level : Level
  hours : Nat
  charge : Nat
  capped : Bool
deriving DecidableEq, Repr

/-- The contract table, the closing sequence number and the closed-contract ring, retained (R80, R91, R92). The due
list is not kept apart: it follows from the ACTIVE records (R153). -/
structure ContractTable where
  contracts : List Contract
  closingSeq : Nat
  ring : List ClosingRecord
deriving DecidableEq, Repr

/-! ## Chute unit (R104) -/

/-- The kind of a chute entry, with the fields present for it (R105). -/
inductive EntryKind where
  | named (tag : Nat) (unit : Nat)
  | unknown (tag : Nat)
  | unread
  | conflict (tag : Nat)
deriving DecidableEq, Repr

/-- The place of a chute entry (R105). -/
inductive EntryPlace where
  | inChute
  | takenOut
deriving DecidableEq, Repr

/-- A chute log entry (R105). -/
structure ChuteEntry where
  number : Nat
  dropMinute : Minute
  kind : EntryKind
  place : EntryPlace
deriving DecidableEq, Repr

/-- The drop in progress (R104, R106). -/
structure Drop where
  /-- its detection minute -/
  detected : Minute
  /-- the attempt of the mouth reader and the uptime at which it started, until the read has ended -/
  reading : Option (Nat × Ms)
deriving DecidableEq, Repr

/-- The drive of the pocket (R106). -/
structure PocketDrive where
  /-- the uptime at which the latest drive began -/
  since : Ms
  /-- the pocket is driven now -/
  driven : Bool
deriving DecidableEq, Repr

/-- The chute unit's state (R104). -/
structure Chute where
  log : List ChuteEntry
  lastEntry : Nat
  pocketEntry : Option Nat
  flapLocked : Bool
  drop : Option Drop
  drive : Option PocketDrive
  /-- input pin: the read pocket holds a fob -/
  pocketFob : Bool
deriving DecidableEq, Repr

/-! ## Lateness engine (R117) -/

/-- The state of the branch clock (R117). -/
inductive ClockState where
  | unset
  | suspect
  | set
deriving DecidableEq, Repr

/-- The settings record (R120); the take window and the aging time in seconds. -/
structure Settings where
  grace : Nat
  prewarn : Nat
  t2 : Nat
  t3 : Nat
  window : Nat
  aging : Nat
  audit : Bool
deriving DecidableEq, Repr

/-- The sweep in progress (R129, R130, R131). -/
structure Sweep where
  minute : Minute
  full : Bool
deriving DecidableEq, Repr

/-- The lateness engine's state (R117, R118, R120, R128, R129, R131). -/
structure Lateness where
  /-- the branch clock's count of seconds -/
  count : BitVec 32
  clock : ClockState
  retainedMinute : Minute
  /-- the model's own: milliseconds run since the count last advanced (log entry 4) -/
  subMs : Ms
  settings : Settings
  sweepNumber : Nat
  sweep : Option Sweep
  latestSweep : Option Minute
  pendingBoundary : Bool
  fullWalk : Bool
deriving DecidableEq, Repr

/-! ## Alarm unit (R134) -/

/-- The kinds of alarm (R136). -/
inductive AlarmKind where
  | forcedRemoval
  | fobUnknown
  | fobDuplicate
  | fobUnread
  | fobSwap
  | latchFault
  | overdue
  | unreturned
  | chuteFull
  | chuteUnread
  | columnLost
  | supplyReserve
  | supplyLow
  | clockSuspect
deriving DecidableEq, Repr

/-- The subject of an alarm record: its type and its identifier (R134). -/
inductive Subject where
  | slot (slot : SlotId)
  | vehicle (unit : Nat)
  | contract (number : Nat)
  | entry (number : Nat)
  | chute
  | column (col : ColId)
  | supply
  | clock
deriving DecidableEq, Repr

/-- The state of an alarm record, with the cleared minute where it is present (R134). -/
inductive AlarmState where
  | activeUnacked
  | activeAcked
  | clearedUnacked (minute : Minute)
deriving DecidableEq, Repr

/-- An alarm record (R134). Its audible mark is fixed by its kind (R136): see `AlarmKind.audible`. -/
structure Alarm where
  number : Nat
  kind : AlarmKind
  subject : Subject
  raised : Minute
  state : AlarmState
deriving DecidableEq, Repr

/-- The alarm unit's state (R134, R135, R138, R146). -/
structure AlarmUnit where
  list : List Alarm
  lastNumber : Nat
  overflow : Bool
  /-- output pin: the buzzer drive is held low -/
  buzzer : Bool
  /-- output pin: the staff lamp drive is held low -/
  staffLamp : Bool
deriving DecidableEq, Repr

/-! ## Supply monitor (R149) -/

/-- The supply modes (R149). -/
inductive Mode where
  | mains
  | reserve
  | lowReserve
deriving DecidableEq, Repr

/-- The causes of a start-up (R157). -/
inductive Cause where
  | powerOn
  | restart
  | factoryClear
deriving DecidableEq, Repr

/-- Whether the part is halted (R152), in start-up (R155) or has ended it. -/
inductive Phase where
  | halted
  | starting (cause : Cause)
  | ready
deriving DecidableEq, Repr

/-- The supply monitor's state (R149, R150, R152) and its input pins. -/
structure Supply where
  phase : Phase
  mode : Mode
  batteryIsLow : Bool
  /-- the uptime from which the mains-present input has been away from the level of the mode in force -/
  mainsSince : Option Ms
  /-- the uptime from which battery sense has been in the qualifying band -/
  batterySince : Option Ms
  /-- input pin: the mains-present input is high -/
  mainsPin : Bool
  /-- input pin: the battery sense input, in millivolts -/
  batteryPin : Nat
  /-- releases settled as taken in this start-up (R157) -/
  settledTaken : Nat
  /-- releases settled with outcome POWER in this start-up (R157) -/
  settledPower : Nat
deriving DecidableEq, Repr

/-! ## Notices (R166) -/

/-- The fields of a notice, by its kind (R166 and the rules named there; Notice table of 11.3). -/
inductive NoticeBody where
  | releaseEnded (request : Option Nat) (target : Target) (slot : Option SlotId) (outcome : ReleaseOutcome)
  | contractClosed (record : ClosingRecord)
  | arrival (slot : SlotId) (unit : Nat) (minute : Minute) (before : VehicleStatus)
  | misplaced (slot : SlotId) (unit home : Nat) (minute : Minute)
  | chuteDrop (entry : Nat) (minute : Minute) (kind : EntryKind) (closing : Option Nat)
  | levelChanged (contract : Nat) (before : Option Level) (after : Level) (charge : Nat)
  | alarmRaised (number : Nat) (kind : AlarmKind) (subject : Subject) (raised : Minute)
  | alarmCleared (number : Nat) (kind : AlarmKind) (subject : Subject) (cleared : Minute) (removed : Bool)
  | supplyChanged (before after : Mode)
  | reconciled (cause : Cause) (mode : Mode) (clock : ClockState) (fitted lost : BitVec 16) (taken power : Nat)
deriving DecidableEq, Repr

/-- A notice (R166). -/
structure Notice where
  number : Nat
  minute : Minute
  body : NoticeBody
deriving DecidableEq, Repr

/-! ## Replies (R165) -/

/-- The details of WRONG_STATE (R165, Note 1). -/
inductive Detail where
  | none
  | notIn
  | slotEmpty
  | slotBound
  | slotOutOfService
  | slotUnreachable
  | pending
  | releaseLive
  | columnBusy
  | latchOpen
  | noServiceHold
deriving DecidableEq, Repr

/-- The six since-last-read flags (R169). -/
structure Flags where
  supplyChanged : Bool
  noticesLost : Bool
  lineOverrun : Bool
  alarmRaised : Bool
  reconciled : Bool
  alarmOverflow : Bool
deriving DecidableEq, Repr

/-- The fields of a STATUS reply (R169). -/
structure StatusReport where
  mode : Mode
  ready : Bool
  hold : Bool
  clock : ClockState
  live : Nat
  opened : Nat
  contracts : Nat
  alarms : Nat
  inChute : Nat
  notices : Nat
  flags : Flags
deriving DecidableEq, Repr

/-- The reply fields of DONE, by request kind (Table 11.2). -/
inductive ReplyData where
  | bare
  | identify (unit : Nat) (baudOpen : Bool) (fitted : BitVec 16) (slotCount : Nat)
  | status (report : StatusReport)
  | notices (remaining : Nat) (taken : List Notice)
  | slots (first : Nat) (records : List SlotRecord)
  | vehicle (record : Vehicle)
  | contract (record : Contract) (duePosition : Option Nat)
  | due (total : Nat) (records : List Contract)
  | closed (total : Nat) (oldest newest first : Option Nat) (records : List ClosingRecord)
  | chute (total inChute : Nat) (locked drop : Bool) (records : List ChuteEntry)
  | alarms (total : Nat) (overflow : Bool) (records : List Alarm)
  | settings (settings : Settings) (count : BitVec 32) (clock : ClockState) (sweepNumber : Nat)
      (latest : Option Minute) (inSweep : Bool)
  | clock (count : BitVec 32)
  | configured (settings : Settings)
  | enrolled (status : VehicleStatus)
  | located (slot : SlotId)
  | extended (active : Option (Level × Nat))
  | closing (sequence : Nat)
  | slotService (record : SlotRecord)
  | emptied (removed marked : Nat)
  | ackedOne (after : Option AlarmState)
  | ackedAll (acknowledged removed left : Nat)
  | hold (standing : Bool)
deriving DecidableEq, Repr

/-- A reply: its status and what is carried with it (R165). -/
inductive Reply where
  | done (data : ReplyData)
  | accepted (request : Nat)
  | unknownKind
  | badLength
  | badField (index : Nat)
  | notFound
  | duplicate
  | tableFull
  | queueFull
  | wrongState (detail : Detail)
  | onHold
  | starting
  | serviceHold
  | reservePower
  | clockUnset
  | tooLate (outcome : ReleaseOutcome)
  | notPermitted
deriving DecidableEq, Repr

/-- A reply as it goes out on its line: the address, the kind and the tag of its frame, and the reply (R165). -/
structure SentReply where
  address : Byte
  kind : Byte
  tag : Byte
  reply : Reply
deriving DecidableEq, Repr

/-! ## Line controller (R162 to R170) -/

/-- One serial line. -/
structure LineState where
  /-- the receiver is inside a frame; otherwise it hunts (R162) -/
  inFrame : Bool
  /-- the receive buffer: the request it holds (R163) -/
  buffer : Option Instr
  /-- output: the reply last sent on the line -/
  reply : Option SentReply
  /-- the uptime from which the part sends the reply to the request that the buffer holds (R163, R165) -/
  sendFrom : Option Ms
deriving DecidableEq, Repr

/-- The line controller's state (R163, R166, R168, R169, R170). -/
structure LineController where
  branch : LineState
  service : LineState
  notices : List Notice
  counter : Nat
  flags : Flags
  /-- the service hold stands; the uptime at which the hold timer runs out -/
  holdUntil : Option Ms
  /-- output pin: the attention line is held low -/
  attention : Bool
  /-- the unit address read from the straps at start-up (R163) -/
  unitAddress : Nat
  /-- the baud strap read at start-up (R162) -/
  baudOpen : Bool
deriving DecidableEq, Repr

/-! ## The part and the machine -/

/-- The part: everything but the queue of commands that wait. -/
structure Part where
  /-- milliseconds since the first step of start-up (R153) -/
  uptime : Ms
  columns : Vector Column 16
  fleet : List Vehicle
  sched : Scheduler
  book : ContractTable
  chute : Chute
  late : Lateness
  alarm : AlarmUnit
  supply : Supply
  lines : LineController
  /-- the model's own: how many free choices have been made (log entries 3 and 15) -/
  choices : Nat
deriving DecidableEq, Repr

/-- The machine: the part, and the commands that wait, first in, first out. -/
structure State where
  part : Part
  pending : List Instr
deriving DecidableEq, Repr

/-- No meaning of this model stops in a fault: the spec names no event that stops the part but the loss of its
supply, which is a state of the part (`Phase.halted`). The inductive is closed and empty. -/
inductive Fault where
deriving DecidableEq, Repr

/-- The refusals. -/
inductive Refusal where
  /-- raised by an arm of `exec` whose command has no meaning yet (safe); no arm of this model raises it -/
  | notModelled (mnemonic : String)
deriving DecidableEq, Repr

/-! ## Values after manufacture and after reset -/

/-- The slot record FACTORY CLEAR writes (R3). -/
def SlotRecord.cleared : SlotRecord :=
  { custody := .empty, outOfService := false, latchFault := false, unreachable := false }

/-- A slot of a column that no engine watches, its pins at rest: contact absent, sense closed (log entry 2). -/
def SlotEngine.unwatched : SlotEngine :=
  { contact := false, senseOpen := false, qualified := none, candidate := none, latch := none, locateUntil := none }

/-- A STOPPED column of the first start-up: its slots EMPTY and unreachable (R18), the audit pointer at position 24
(R38), the lists empty (R25). -/
def Column.atReset : Column :=
  { engine := .stopped, fitted := false
    slots := Vector.replicate 24 { record := { SlotRecord.cleared with unreachable := true }, engine := .unwatched }
    readList := [], reader := none, auditPointer := 23, auditNext := none, nextProbe := 0
    unreconciled := [], reconMinute := 0 }

/-- The default settings (R120). -/
def Settings.defaults : Settings :=
  { grace := 29, prewarn := 60, t2 := 360, t3 := 2880, window := 20, aging := 60, audit := true }

/-- All flags clear (R169). -/
def Flags.clear : Flags :=
  { supplyChanged := false, noticesLost := false, lineOverrun := false, alarmRaised := false, reconciled := false
    alarmOverflow := false }

/-- A line whose receiver hunts and whose buffer is empty (R163). -/
def LineState.idle : LineState := { inFrame := false, buffer := none, reply := none, sendFrom := none }

/-- The part as it leaves manufacture, just powered on with cause POWER_ON and steps 1 to 6 of its start-up made, no
column port answered, mains present, battery adequate and the straps tied low (log entries 1 and 2). -/
def Part.atReset : Part :=
  { uptime := 0
    columns := Vector.replicate 16 Column.atReset
    fleet := []
    sched := { queue := [], lastNumber := 0, ended := [], strikes := [] }
    book := { contracts := [], closingSeq := 0, ring := [] }
    chute := { log := [], lastEntry := 0, pocketEntry := none, flapLocked := true, drop := none, drive := none
               pocketFob := false }
    late := { count := 0, clock := .unset, retainedMinute := 0, subMs := 0, settings := Settings.defaults
              sweepNumber := 0, sweep := none, latestSweep := none, pendingBoundary := false, fullWalk := true }
    alarm := { list := [], lastNumber := 0, overflow := false, buzzer := false, staffLamp := false }
    supply := { phase := .starting .powerOn, mode := .mains, batteryIsLow := false, mainsSince := none
                batterySince := none, mainsPin := true, batteryPin := 3000, settledTaken := 0, settledPower := 0 }
    lines := { branch := .idle, service := .idle, notices := [], counter := 0, flags := Flags.clear
               holdUntil := none, attention := false, unitAddress := 1, baudOpen := false }
    choices := 0 }

/-- The machine right after reset: the part at its first start-up, no command waiting. -/
def State.reset : State := { part := Part.atReset, pending := [] }

end Sys2Proof.Machine
end

