-- ==== Sys2Proof/Machine/Ops.lean ====
section
/-! DEFINITION. The named operations over the part's plain state: slots and columns, vehicle records, the numbering
of requests, alarms, entries and notices, and the passing of time. -/

namespace Sys2Proof.Machine

/-! ## Slots and columns (R1) -/

/-- The slot number (c − 1) × 24 + p of column c and position p (R1). -/
def slotNumber (s : SlotId) : Nat := 24 * s.col.val + s.pos.val + 1

/-- The slot of a slot number, for the numbers 1 to 384 (R1). -/
def slotOfNumber (n : Nat) : Option SlotId :=
  if h : 1 ≤ n ∧ n ≤ 384 then some { col := ⟨(n - 1) / 24, by omega⟩, pos := ⟨(n - 1) % 24, by omega⟩ } else none

/-- The positions of a column in order, 1 to 24. -/
def allPos : List PosId := List.finRange 24

/-- The columns in order, 1 to 16. -/
def allCols : List ColId := List.finRange 16

def Part.column (p : Part) (c : ColId) : Column := p.columns[c]

def Part.updColumn (p : Part) (c : ColId) (f : Column → Column) : Part :=
  { p with columns := p.columns.set c (f p.columns[c]) }

def Column.updSlot (col : Column) (i : PosId) (f : Slot → Slot) : Column :=
  { col with slots := col.slots.set i (f col.slots[i]) }

def Part.slot (p : Part) (s : SlotId) : Slot := (p.column s.col).slots[s.pos]

def Part.updSlot (p : Part) (s : SlotId) (f : Slot → Slot) : Part :=
  p.updColumn s.col fun col => col.updSlot s.pos f

/-- The slot record of a slot (R1). -/
def Part.record (p : Part) (s : SlotId) : SlotRecord := (p.slot s).record

def Part.updRecord (p : Part) (s : SlotId) (f : SlotRecord → SlotRecord) : Part :=
  p.updSlot s fun x => { x with record := f x.record }

/-- What the column engine keeps of a slot. -/
def Part.engine (p : Part) (s : SlotId) : SlotEngine := (p.slot s).engine

def Part.updEngine (p : Part) (s : SlotId) (f : SlotEngine → SlotEngine) : Part :=
  p.updSlot s fun x => { x with engine := f x.engine }

def Part.custody (p : Part) (s : SlotId) : Custody := (p.record s).custody

def Part.setCustody (p : Part) (s : SlotId) (k : Custody) : Part :=
  p.updRecord s fun r => { r with custody := k }

/-- Every slot of a column changed alike. -/
def Column.mapSlots (col : Column) (f : Slot → Slot) : Column :=
  allPos.foldl (fun col i => col.updSlot i f) col

/-- Every slot of the cabinet with what the part keeps of it, in slot number order. -/
def Part.slotList (p : Part) : List (SlotId × Slot) :=
  (allCols.zip p.columns.toList).flatMap fun (c, col) =>
    (allPos.zip col.slots.toList).map fun (i, x) => ({ col := c, pos := i }, x)

/-- A column engine watches its slots while it is RUNNING or RECONCILING (R4, R11, R25). -/
def EngineState.watches : EngineState → Bool
  | .running => true
  | .reconciling => true
  | .stopped => false
  | .lost => false

/-! ## Phase of the part -/

/-- The part is halted (R152). -/
def Part.halted (p : Part) : Bool := p.supply.phase == .halted

/-- Start-up has ended (R155). -/
def Part.isReady (p : Part) : Bool := p.supply.phase == .ready

/-- Start-up is in progress (R155). -/
def Part.inStartUp (p : Part) : Bool := !p.halted && !p.isReady

/-- The branch minute of a seconds count (R117). -/
def minuteOf (count : BitVec 32) : Minute := count.toNat / 60

/-- The current branch minute, read from the branch clock in whatever state it is (R117). -/
def Part.minute (p : Part) : Minute := minuteOf p.late.count

/-! ## Numbers assigned in turn -/

/-- The number after n, going on from the greatest to 1 (R57, R105, R135, R166, R91). -/
def wrapNext (greatest n : Nat) : Nat := if greatest ≤ n then 1 else n + 1

/-- The first number after `last` that is not in `used`, looked for in at most fuel + 1 steps. -/
def freeNumber (greatest : Nat) (used : List Nat) : Nat → Nat → Nat
  | 0, last => wrapNext greatest last
  | fuel + 1, last =>
    let n := wrapNext greatest last
    if n ∈ used then freeNumber greatest used fuel n else n

/-! ## Vehicle records (R40) -/

/-- The vehicle of a unit number (R40). -/
def Part.findUnit (p : Part) (unit : Nat) : Option Vehicle := p.fleet.find? (·.unit == unit)

/-- The vehicle of a tag ID (R40). -/
def Part.findTag (p : Part) (tag : Nat) : Option Vehicle := p.fleet.find? (·.tag == tag)

/-- The vehicle that names a slot as its home slot (R49). -/
def Part.findHome (p : Part) (s : SlotId) : Option Vehicle := p.fleet.find? (·.home == some s)

def Part.updVehicle (p : Part) (unit : Nat) (f : Vehicle → Vehicle) : Part :=
  { p with fleet := p.fleet.map fun v => if v.unit = unit then f v else v }

/-- A change of status; the last-change minute is set to the current minute (R41). -/
def Part.setStatus (p : Part) (unit : Nat) (st : VehicleStatus) : Part :=
  p.updVehicle unit fun v => { v with status := st, lastChange := p.minute }

/-- The out reason of a release kind (R40, Note 2). -/
def VehicleKind.outReason : VehicleKind → OutReason
  | .contract => .contract
  | .movement => .movement
  | .staffVehicle => .staff

/-! ## Release requests (R55) -/

/-- The vehicle of a request, for all kinds but STAFF_SLOT (R55). -/
def Target.unit : Target → Option Nat
  | .contract u _ => some u
  | .movement u => some u
  | .staffVehicle u => some u
  | .staffSlot => none

/-- The kind a RELEASING record keeps of a request; none for STAFF_SLOT (R10). -/
def Target.vehicleKind : Target → Option VehicleKind
  | .contract _ _ => some .contract
  | .movement _ => some .movement
  | .staffVehicle _ => some .staffVehicle
  | .staffSlot => none

/-- The contract number of a request of kind CONTRACT (R55). -/
def Target.contractNumber : Target → Option Nat
  | .contract _ n => some n
  | .movement _ => none
  | .staffVehicle _ => none
  | .staffSlot => none

/-- A request is VERIFYING or OPEN (R61). -/
def Release.inFlight (r : Release) : Bool :=
  match r.phase with
  | .waiting => false
  | .verifying _ => true
  | .opened _ _ _ _ => true

def Release.isWaiting (r : Release) : Bool :=
  match r.phase with
  | .waiting => true
  | .verifying _ => false
  | .opened _ _ _ _ => false

def Release.isVerifying (r : Release) : Bool :=
  match r.phase with
  | .waiting => false
  | .verifying _ => true
  | .opened _ _ _ _ => false

def Release.isOpen (r : Release) : Bool :=
  match r.phase with
  | .waiting => false
  | .verifying _ => false
  | .opened _ _ _ _ => true

def Part.findRelease (p : Part) (number : Nat) : Option Release := p.sched.queue.find? (·.number == number)

/-- The OPEN release on a slot, if one is. -/
def Part.openOn (p : Part) (s : SlotId) : Option Release := p.sched.queue.find? fun r => r.isOpen && r.slot == s

/-- The VERIFYING release on a slot, if one is. -/
def Part.verifyingOn (p : Part) (s : SlotId) : Option Release :=
  p.sched.queue.find? fun r => r.isVerifying && r.slot == s

def Part.updRelease (p : Part) (number : Nat) (f : Release → Release) : Part :=
  { p with sched := { p.sched with queue := p.sched.queue.map fun r => if r.number = number then f r else r } }

/-! ## Time -/

/-- How many seconds the count can still advance before its next minute boundary is due (R117). -/
def secondsToSpare (count : BitVec 32) : Nat :=
  min (59 - count.toNat % 60) (Config.lastSecond - count.toNat)

/-- `dt` milliseconds pass. The uptime advances and strike charges older than the longest window leave the history
(R63); the branch clock's count advances with it, but the step to a minute boundary is left to the command
MINUTE_BOUNDARY (R117, log entry 4). While the part is halted only the count runs, on its backup cell (R118). -/
def Part.elapse (p : Part) (dt : Ms) : Part :=
  let total := p.late.subMs + dt
  if p.halted then
    { p with late := { p.late with count := p.late.count + BitVec.ofNat 32 (total / 1000), subMs := total % 1000 } }
  else
    let seconds := min (total / 1000) (secondsToSpare p.late.count)
    { p with
      uptime := p.uptime + dt
      sched := { p.sched with
        strikes := p.sched.strikes.filter fun k => !k.left || decide (p.uptime + dt < k.charged + Config.historyTime) }
      late := { p.late with
        count := p.late.count + BitVec.ofNat 32 seconds
        subMs := total - 1000 * seconds } }

/-- A timed event has come: the time still missing to its moment passes (log entry 4). -/
def Part.advanceTo (p : Part) (t : Ms) : Part :=
  if t ≤ p.uptime then p else p.elapse (t - p.uptime)

/-- The qualification time of the supply mode in force (R5). -/
def Mode.qualifyTime : Mode → Ms
  | .mains => Config.qualifyMains
  | .reserve => Config.qualifyReserve
  | .lowReserve => Config.qualifyReserve

/-! ## Meanings of commands -/

/-- A step that leaves the queue alone and changes the part by `f`. -/
def State.onPart (f : Part → Part) (s : State) : Host.Outcome State Fault Refusal :=
  .next { s with part := f s.part }

/-- An event that may not concern the part as it stands: then nothing happens (log entry 6). -/
def State.event (f : Part → Option Part) (s : State) : Host.Outcome State Fault Refusal :=
  match f s.part with
  | none => .next s
  | some p => .next { s with part := p }

end Sys2Proof.Machine
end

