-- ==== Sys2Proof/Machine/Flags.lean ====
section
/-! DEFINITION. The since-last-read flags (R169) and the decision of the staff drives and of the attention line
(R146, R168). -/

namespace Sys2Proof.Machine

def Part.setFlags (p : Part) (f : Flags → Flags) : Part :=
  { p with lines := { p.lines with flags := f p.lines.flags } }

/-- A SUPPLY_CHANGED flag (R151 step 2). -/
def Part.flagSupplyChanged (p : Part) : Part := p.setFlags fun f => { f with supplyChanged := true }
/-- A LINE_OVERRUN flag (R163). -/
def Part.flagLineOverrun (p : Part) : Part := p.setFlags fun f => { f with lineOverrun := true }
/-- An ALARM_RAISED flag (R145). -/
def Part.flagAlarmRaised (p : Part) : Part := p.setFlags fun f => { f with alarmRaised := true }
/-- A RECONCILED flag (R157). -/
def Part.flagReconciled (p : Part) : Part := p.setFlags fun f => { f with reconciled := true }
/-- An ALARM_OVERFLOW flag (R138, R145). -/
def Part.flagAlarmOverflow (p : Part) : Part := p.setFlags fun f => { f with alarmOverflow := true }

/-- The flags byte of STATUS: SUPPLY_CHANGED in bit 0 and the others in bits 1 to 5 (Table 11.2, Note 1). -/
def Flags.toByte (f : Flags) : Byte :=
  BitVec.ofNat 8 (f.supplyChanged.toNat + 2 * f.noticesLost.toNat + 4 * f.lineOverrun.toNat + 8 * f.alarmRaised.toNat
    + 16 * f.reconciled.toNat + 32 * f.alarmOverflow.toNat)

/-- The slot flags byte: out-of-service in bit 0, latch-fault 1, unreachable 2, audit-failed 3 (11.3, Note 1). -/
def SlotRecord.flagsByte (r : SlotRecord) : Byte :=
  let auditFailed : Bool := match r.custody with
    | .held _ _ _ f => f
    | .releasing _ _ _ _ f => f
    | .empty => false
    | .unread _ => false
    | .foreign _ _ _ => false
  BitVec.ofNat 8 (r.outOfService.toNat + 2 * r.latchFault.toNat + 4 * r.unreachable.toNat + 8 * auditFailed.toNat)

/-- Kinds that are audible (R136). -/
def AlarmKind.audible : AlarmKind → Bool
  | .forcedRemoval => true
  | .fobUnknown => false
  | .fobDuplicate => true
  | .fobUnread => false
  | .fobSwap => true
  | .latchFault => true
  | .overdue => false
  | .unreturned => true
  | .chuteFull => false
  | .chuteUnread => false
  | .columnLost => true
  | .supplyReserve => false
  | .supplyLow => true
  | .clockSuspect => false

/-- A record is unacknowledged while ACTIVE_UNACKED or CLEARED_UNACKED (R134, Note 1). -/
def AlarmState.unacked : AlarmState → Bool
  | .activeUnacked => true
  | .activeAcked => false
  | .clearedUnacked _ => true

/-- The buzzer sounds while an audible record is ACTIVE_UNACKED or the overflow condition stands (R146). -/
def AlarmUnit.wantsBuzzer (a : AlarmUnit) : Bool :=
  a.overflow || a.list.any fun r => r.kind.audible && r.state == .activeUnacked

/-- The staff lamp is lit while a record is unacknowledged or the overflow condition stands (R146). -/
def AlarmUnit.wantsLamp (a : AlarmUnit) : Bool := a.overflow || a.list.any fun r => r.state.unacked

/-- The drives decided afresh from the alarm list, and the attention line from the notice queue and the staff lamp
(R146, R168); at a stop they are released (R152). -/
def Part.decideDrives (p : Part) : Part :=
  let lamp := !p.halted && p.alarm.wantsLamp
  { p with
    alarm := { p.alarm with buzzer := !p.halted && p.alarm.wantsBuzzer, staffLamp := lamp }
    lines := { p.lines with attention := !p.halted && (lamp || !p.lines.notices.isEmpty) } }

end Sys2Proof.Machine
end

