-- ==== Sys2Proof/Machine/Fob.lean ====
section
/-! DEFINITION. Bytes most significant first, the CRC-8 of a fob record and the CRC-16 of a frame (R23, R162), and the
classification of a read attempt (R22, R23, R24). -/

namespace Sys2Proof.Machine

/-- The number that bytes sent most significant first carry (00_scope.md, Byte order). -/
def numberOf (bytes : List Byte) : Nat := bytes.foldl (fun n b => 256 * n + b.toNat) 0

/-- A number in k bytes, most significant first (00_scope.md, Byte order). -/
def bytesOf : Nat → Nat → List Byte
  | 0, _ => []
  | k + 1, n => BitVec.ofNat 8 (n / 256 ^ k) :: bytesOf k n

/-- One bit of the CRC-8: generator x^8 + x^2 + x + 1, most significant bit first (R23). -/
def crc8Bit (reg : BitVec 8) : BitVec 8 := if reg.msb then (reg <<< 1) ^^^ 0x07#8 else reg <<< 1

/-- A value passed eight times through a function. -/
def eightTimes {α : Type} (f : α → α) (x : α) : α := f (f (f (f (f (f (f (f x)))))))

/-- The CRC-8 register after the bytes, from 0 (R23). -/
def crc8 (bytes : List Byte) : BitVec 8 := bytes.foldl (fun reg b => eightTimes crc8Bit (reg ^^^ b)) 0#8

/-- One bit of the CRC-16: generator 0x1021, most significant bit first (R162). -/
def crc16Bit (reg : BitVec 16) : BitVec 16 := if reg.msb then (reg <<< 1) ^^^ 0x1021#16 else reg <<< 1

/-- The CRC-16 register after the bytes, from 0xFFFF (R162). -/
def crc16 (bytes : List Byte) : BitVec 16 :=
  bytes.foldl (fun reg b => eightTimes crc16Bit (reg ^^^ ((b.setWidth 16 : BitVec 16) <<< (8 : Nat)))) 0xFFFF#16

/-- A valid tag ID: neither 0 nor 4,294,967,295 (00_scope.md, Tag IDs; R22). -/
def validTag (tag : Nat) : Bool := decide (1 ≤ tag ∧ tag ≤ 4294967294)

/-- The result of one attempt of a read (R23). -/
inductive AttemptResult where
  | noResponse
  | badCheck
  | good (tag kind : Nat)
deriving DecidableEq, Repr

/-- The classification of an attempt by the bytes received in it; bytes after the sixth are disregarded (R23). -/
def classify (bytes : List Byte) : AttemptResult :=
  match bytes with
  | b1 :: b2 :: b3 :: b4 :: kind :: check :: _ =>
    let tag := numberOf [b1, b2, b3, b4]
    if crc8 [b1, b2, b3, b4, kind] = check ∧ validTag tag = true then .good tag kind.toNat else .badCheck
  | _ => .noResponse

/-- The outcome of a read (R24). -/
inductive ReadOutcome where
  | unreadable
  | good (tag kind : Nat)
deriving DecidableEq, Repr

/-- The outcome of a read whose attempts received these bytes: GOOD at the first GOOD attempt, UNREADABLE after three
that are not (R24, R106). -/
def readOutcomeOf (attempts : List (List Byte)) : ReadOutcome :=
  let rec go : Nat → List (List Byte) → ReadOutcome
    | 0, _ => .unreadable
    | _, [] => .unreadable
    | n + 1, bytes :: rest =>
      match classify bytes with
      | .good tag kind => .good tag kind
      | .noResponse => go n rest
      | .badCheck => go n rest
  go Config.attempts attempts

end Sys2Proof.Machine
end

