-- ==== Sys2Proof/Machine/Layout.lean ====
section
/-! DEFINITION. The bytes of records, notices, replies and frames (R162, R165, R172, R173, Tables 11.2 and 11.3). The
State keeps replies and notices as data; these functions say what stands on the lines for them. -/

namespace Sys2Proof.Machine

/-! ## Code points (11.3) -/

def flagByte (b : Bool) : Byte := if b then 1#8 else 0#8

/-- The absent value of code fields (R173). -/
def absentCode : Byte := 0xFF#8

def Custody.code : Custody → Byte
  | .empty => 0#8
  | .unread _ => 1#8
  | .held _ _ _ _ => 2#8
  | .foreign _ _ _ => 3#8
  | .releasing _ _ _ _ _ => 4#8

def ForeignReason.code : ForeignReason → Byte
  | .unknown => 1#8
  | .duplicate => 2#8
  | .wrongKind => 3#8
  | .retired => 4#8

def VehicleStatus.code : VehicleStatus → Byte
  | .inSlot _ => 1#8
  | .out _ => 2#8
  | .dropped _ => 3#8
  | .stray => 4#8
  | .away => 5#8

def OutReason.code : OutReason → Byte
  | .contract => 1#8
  | .movement => 2#8
  | .staff => 3#8

def VehicleKind.code : VehicleKind → Byte
  | .contract => 1#8
  | .movement => 2#8
  | .staffVehicle => 3#8

def Target.code : Target → Byte
  | .contract _ _ => 1#8
  | .movement _ => 2#8
  | .staffVehicle _ => 3#8
  | .staffSlot => 4#8

def RenterClass.code : RenterClass → Byte
  | .standard => 1#8
  | .priority => 2#8

def ReleaseOutcome.code : ReleaseOutcome → Byte
  | .taken => 1#8
  | .notTaken => 2#8
  | .cancelled => 3#8
  | .held => 4#8
  | .vehicleGone => 5#8
  | .mismatch => 6#8
  | .unverified => 7#8
  | .latchFault => 8#8
  | .columnLost => 9#8
  | .power => 10#8

def ContractState.code : ContractState → Byte
  | .pending _ => 1#8
  | .active _ _ => 2#8

def Level.code : Level → Byte
  | .current => 0#8
  | .dueSoon => 1#8
  | .grace => 2#8
  | .late => 3#8
  | .overdue => 4#8
  | .unreturned => 5#8

def ClosePath.code : ClosePath → Nat
  | .slot _ => 1
  | .chute _ => 2
  | .manual _ => 3

def ManualReason.code : ManualReason → Nat
  | .keyLost => 1
  | .returnedElsewhere => 2

def EntryKind.code : EntryKind → Byte
  | .named _ _ => 1#8
  | .unknown _ => 2#8
  | .unread => 3#8
  | .conflict _ => 4#8

def EntryPlace.code : EntryPlace → Byte
  | .inChute => 1#8
  | .takenOut => 2#8

def AlarmKind.code : AlarmKind → Byte
  | .forcedRemoval => 1#8
  | .fobUnknown => 2#8
  | .fobDuplicate => 3#8
  | .fobUnread => 4#8
  | .fobSwap => 5#8
  | .latchFault => 6#8
  | .overdue => 7#8
  | .unreturned => 8#8
  | .chuteFull => 9#8
  | .chuteUnread => 10#8
  | .columnLost => 11#8
  | .supplyReserve => 12#8
  | .supplyLow => 13#8
  | .clockSuspect => 14#8

def Subject.code : Subject → Byte
  | .slot _ => 1#8
  | .vehicle _ => 2#8
  | .contract _ => 3#8
  | .entry _ => 4#8
  | .chute => 5#8
  | .column _ => 6#8
  | .supply => 7#8
  | .clock => 8#8

/-- The subject identifier; 0 for the chute, the supply and the clock (11.3). -/
def Subject.identifier : Subject → Nat
  | .slot s => slotNumber s
  | .vehicle u => u
  | .contract n => n
  | .entry n => n
  | .chute => 0
  | .column c => c.val + 1
  | .supply => 0
  | .clock => 0

def AlarmState.code : AlarmState → Byte
  | .activeUnacked => 0#8
  | .activeAcked => 1#8
  | .clearedUnacked _ => 2#8

def Mode.code : Mode → Byte
  | .mains => 1#8
  | .reserve => 2#8
  | .lowReserve => 3#8

def ClockState.code : ClockState → Byte
  | .unset => 0#8
  | .suspect => 1#8
  | .set => 2#8

def Cause.code : Cause → Byte
  | .powerOn => 1#8
  | .restart => 2#8
  | .factoryClear => 3#8

def Detail.code : Detail → Byte
  | .none => 0#8
  | .notIn => 1#8
  | .slotEmpty => 2#8
  | .slotBound => 3#8
  | .slotOutOfService => 4#8
  | .slotUnreachable => 5#8
  | .pending => 6#8
  | .releaseLive => 7#8
  | .columnBusy => 8#8
  | .latchOpen => 9#8
  | .noServiceHold => 10#8

/-- The hold field of a vehicle record: 0 none, 1 STAFF, 2 ESCALATION (11.3). -/
def holdCode : Option HoldSource → Byte
  | none => 0#8
  | some .staff => 1#8
  | some .escalation => 2#8

/-! ## Fields (R173) -/

/-- A number in k bytes whose absent value is 0: unit, slot, tag, contract, request, entry, sequence (R173). -/
def zeroField (k : Nat) (n : Option Nat) : List Byte := bytesOf k (n.getD 0)

/-- A branch minute; absent 0xFFFFFFFF (R173). -/
def minuteField (m : Option Minute) : List Byte := bytesOf 4 (m.getD 0xFFFFFFFF)

/-- A code byte; absent 0xFF (R173). -/
def codeField (c : Option Byte) : List Byte := [c.getD absentCode]

/-- A sweep mark: a presence byte and two bytes (R173). -/
def markField : Option Nat → List Byte
  | none => [0#8, 0#8, 0#8]
  | some n => 1#8 :: bytesOf 2 n

def slotBytes (s : Option SlotId) : List Byte := zeroField 2 (s.map slotNumber)

/-! ## Records (11.3) -/

/-- Slot record, 14 bytes. -/
def SlotRecord.bytes (r : SlotRecord) : List Byte :=
  r.custody.code :: match r.custody with
    | .empty => codeField none ++ zeroField 4 none ++ zeroField 3 none ++ minuteField none ++ [r.flagsByte]
    | .unread m => codeField none ++ zeroField 4 none ++ zeroField 3 none ++ minuteField (some m) ++ [r.flagsByte]
    | .held t u m _ => codeField none ++ bytesOf 4 t ++ bytesOf 3 u ++ minuteField (some m) ++ [r.flagsByte]
    | .foreign t q m =>
      codeField (some q.code) ++ bytesOf 4 t ++ zeroField 3 none ++ minuteField (some m) ++ [r.flagsByte]
    | .releasing t u m k _ =>
      codeField (some k.code) ++ bytesOf 4 t ++ bytesOf 3 u ++ minuteField (some m) ++ [r.flagsByte]

/-- The out reason of a status, where it has one. -/
def VehicleStatus.outReason? : VehicleStatus → Option OutReason
  | .out r => some r
  | .inSlot _ => none
  | .dropped _ => none
  | .stray => none
  | .away => none

def VehicleStatus.slot? : VehicleStatus → Option SlotId
  | .inSlot s => some s
  | .out _ => none
  | .dropped _ => none
  | .stray => none
  | .away => none

def VehicleStatus.entry? : VehicleStatus → Option Nat
  | .dropped n => some n
  | .inSlot _ => none
  | .out _ => none
  | .stray => none
  | .away => none

/-- Vehicle record, 25 bytes. -/
def Vehicle.bytes (v : Vehicle) : List Byte :=
  bytesOf 3 v.unit ++ bytesOf 4 v.tag ++ [v.status.code] ++ codeField (v.status.outReason?.map OutReason.code)
    ++ slotBytes v.status.slot? ++ slotBytes v.home ++ [holdCode v.hold] ++ zeroField 4 v.contract
    ++ zeroField 1 v.request ++ zeroField 2 v.status.entry? ++ minuteField (some v.lastChange)

def ContractState.request? : ContractState → Option Nat
  | .pending r => r
  | .active _ _ => none

def ContractState.take? : ContractState → Option Minute
  | .pending _ => none
  | .active t _ => some t

def ContractState.level? : ContractState → Option Level
  | .pending _ => none
  | .active _ l => some l

/-- Contract record, 41 bytes, with its position in the due list, 0 if PENDING. -/
def Contract.bytes (c : Contract) (duePosition : Option Nat) : List Byte :=
  bytesOf 4 c.number ++ bytesOf 3 c.unit ++ [c.cls.code, c.state.code] ++ zeroField 1 c.state.request?
    ++ minuteField (some c.due) ++ codeField (c.grace.map (BitVec.ofNat 8)) ++ bytesOf 2 c.hourRate
    ++ bytesOf 4 c.dayRate ++ minuteField (some c.openMinute) ++ minuteField c.state.take?
    ++ codeField (c.state.level?.map Level.code) ++ bytesOf 3 c.charge ++ [flagByte c.capped] ++ bytesOf 2 c.hours
    ++ markField c.mark ++ bytesOf 2 (duePosition.getD 0)

/-- Due entry, 16 bytes. -/
def Contract.dueBytes (c : Contract) : List Byte :=
  bytesOf 4 c.number ++ bytesOf 3 c.unit ++ minuteField (some c.due) ++ codeField (c.state.level?.map Level.code)
    ++ bytesOf 3 c.charge ++ [flagByte c.capped]

/-- The place of a closing: slot, entry or reason code (11.3). -/
def ClosePath.place : ClosePath → Nat
  | .slot s => slotNumber s
  | .chute n => n
  | .manual r => r.code

/-- The closing form byte: level, path, renter class and capped mark (11.3, Note 2). -/
def ClosingRecord.form (r : ClosingRecord) : Byte :=
  BitVec.ofNat 8 (r.level.code.toNat + 16 * r.path.code + 64 * (if r.cls = .priority then 1 else 0)
    + 128 * r.capped.toNat)

/-- Closing record without its sequence number, 27 bytes. -/
def ClosingRecord.bytes (r : ClosingRecord) : List Byte :=
  bytesOf 4 r.number ++ bytesOf 3 r.unit ++ minuteField (some r.take) ++ minuteField (some r.due)
    ++ minuteField (some r.returned) ++ bytesOf 2 r.path.place ++ [r.form] ++ bytesOf 2 r.hours ++ bytesOf 3 r.charge

def EntryKind.tag? : EntryKind → Option Nat
  | .named t _ => some t
  | .unknown t => some t
  | .unread => none
  | .conflict t => some t

def EntryKind.unit? : EntryKind → Option Nat
  | .named _ u => some u
  | .unknown _ => none
  | .unread => none
  | .conflict _ => none

/-- Chute entry, 15 bytes. -/
def ChuteEntry.bytes (e : ChuteEntry) : List Byte :=
  bytesOf 2 e.number ++ minuteField (some e.dropMinute) ++ zeroField 4 e.kind.tag? ++ zeroField 3 e.kind.unit?
    ++ [e.kind.code, e.place.code]

def AlarmState.cleared? : AlarmState → Option Minute
  | .activeUnacked => none
  | .activeAcked => none
  | .clearedUnacked m => some m

/-- Alarm record, 18 bytes. -/
def Alarm.bytes (a : Alarm) : List Byte :=
  bytesOf 2 a.number ++ [a.kind.code, a.subject.code] ++ bytesOf 4 a.subject.identifier ++ minuteField (some a.raised)
    ++ minuteField a.state.cleared? ++ [a.state.code, flagByte a.kind.audible]

/-- The settings, 10 bytes in the order of CONFIGURE (Table 11.2). -/
def Settings.bytes (s : Settings) : List Byte :=
  bytesOf 1 s.grace ++ bytesOf 1 s.prewarn ++ bytesOf 2 s.t2 ++ bytesOf 2 s.t3 ++ bytesOf 1 s.window
    ++ bytesOf 2 s.aging ++ [flagByte s.audit]

/-! ## Notices (11.3) -/

def NoticeBody.code : NoticeBody → Byte
  | .releaseEnded _ _ _ _ => 1#8
  | .contractClosed _ => 2#8
  | .arrival _ _ _ _ => 3#8
  | .misplaced _ _ _ _ => 4#8
  | .chuteDrop _ _ _ _ => 5#8
  | .levelChanged _ _ _ _ => 6#8
  | .alarmRaised _ _ _ _ => 7#8
  | .alarmCleared _ _ _ _ _ => 8#8
  | .supplyChanged _ _ => 9#8
  | .reconciled _ _ _ _ _ _ _ => 10#8

def NoticeBody.fields : NoticeBody → List Byte
  | .releaseEnded request target slot outcome =>
    zeroField 1 request ++ [target.code] ++ slotBytes slot ++ zeroField 3 target.unit ++ [outcome.code]
      ++ zeroField 4 target.contractNumber
  | .contractClosed r => bytesOf 4 r.sequence ++ r.bytes
  | .arrival slot unit minute before =>
    slotBytes (some slot) ++ bytesOf 3 unit ++ minuteField (some minute) ++ [before.code]
      ++ codeField (before.outReason?.map OutReason.code)
  | .misplaced slot unit home minute =>
    slotBytes (some slot) ++ bytesOf 3 unit ++ bytesOf 3 home ++ minuteField (some minute)
  | .chuteDrop entry minute kind closing =>
    bytesOf 2 entry ++ minuteField (some minute) ++ [kind.code] ++ zeroField 4 kind.tag? ++ zeroField 3 kind.unit?
      ++ zeroField 4 closing
  | .levelChanged contract before after charge =>
    bytesOf 4 contract ++ codeField (before.map Level.code) ++ [after.code] ++ bytesOf 3 charge
  | .alarmRaised number kind subject raised =>
    bytesOf 2 number ++ [kind.code, subject.code] ++ bytesOf 4 subject.identifier ++ minuteField (some raised)
      ++ [flagByte kind.audible]
  | .alarmCleared number kind subject cleared removed =>
    bytesOf 2 number ++ [kind.code, subject.code] ++ bytesOf 4 subject.identifier ++ minuteField (some cleared)
      ++ [flagByte removed]
  | .supplyChanged before after => [before.code, after.code]
  | .reconciled cause mode clock fitted lost taken power =>
    [cause.code, mode.code, clock.code] ++ bytesOf 2 fitted.toNat ++ bytesOf 2 lost.toNat ++ bytesOf 1 taken
      ++ bytesOf 1 power

/-- A notice in a FETCH NOTICES reply: its length byte and that many bytes (R173). -/
def Notice.bytes (n : Notice) : List Byte :=
  let body := bytesOf 2 n.number ++ [n.body.code] ++ minuteField (some n.minute) ++ n.body.fields
  BitVec.ofNat 8 body.length :: body

/-! ## Replies (R165, Table 11.2) -/

def Reply.status : Reply → Byte
  | .done _ => 0x00#8
  | .accepted _ => 0x01#8
  | .unknownKind => 0x10#8
  | .badLength => 0x11#8
  | .badField _ => 0x12#8
  | .notFound => 0x13#8
  | .duplicate => 0x14#8
  | .tableFull => 0x15#8
  | .queueFull => 0x16#8
  | .wrongState _ => 0x17#8
  | .onHold => 0x18#8
  | .starting => 0x19#8
  | .serviceHold => 0x1A#8
  | .reservePower => 0x1B#8
  | .clockUnset => 0x1C#8
  | .tooLate _ => 0x1D#8
  | .notPermitted => 0x1E#8

/-- The Pelbrava vendor code, the family and part names padded to 8 bytes, and the revision (R171, Table 11.2). -/
def identity : List Byte :=
  [0x3A#8, 0x71#8] ++ [0x55#8, 0x6E#8, 0x6A#8, 0x65#8, 0x70#8, 0x74#8, 0x61#8, 0#8]
    ++ [0x4B#8, 0x43#8, 0x33#8, 0x38#8, 0x34#8, 0#8, 0#8, 0#8] ++ [3#8]

/-- The fields of a STATUS reply (R169). -/
def StatusReport.bytes (r : StatusReport) : List Byte :=
  [r.mode.code, flagByte r.ready, flagByte r.hold, r.clock.code] ++ bytesOf 1 r.live ++ bytesOf 1 r.opened
    ++ bytesOf 2 r.contracts ++ bytesOf 1 r.alarms ++ bytesOf 1 r.inChute ++ bytesOf 1 r.notices ++ [r.flags.toByte]

/-- The reply fields of DONE after the status (Table 11.2). -/
def ReplyData.bytes : ReplyData → List Byte
  | .bare => []
  | .identify unit baudOpen fitted slotCount =>
    identity ++ bytesOf 1 unit ++ [flagByte baudOpen] ++ bytesOf 2 fitted.toNat ++ bytesOf 2 slotCount
  | .status r => r.bytes
  | .notices remaining taken => bytesOf 1 remaining ++ bytesOf 1 taken.length ++ taken.flatMap Notice.bytes
  | .slots first records => bytesOf 2 first ++ bytesOf 1 records.length ++ records.flatMap SlotRecord.bytes
  | .vehicle v => v.bytes
  | .contract c position => c.bytes position
  | .due total records => bytesOf 2 total ++ bytesOf 1 records.length ++ records.flatMap Contract.dueBytes
  | .closed total oldest newest first records =>
    bytesOf 1 total ++ zeroField 4 oldest ++ zeroField 4 newest ++ zeroField 4 first ++ bytesOf 1 records.length
      ++ records.flatMap ClosingRecord.bytes
  | .chute total inChute locked drop records =>
    bytesOf 1 total ++ bytesOf 1 inChute ++ [flagByte locked, flagByte drop] ++ bytesOf 1 records.length
      ++ records.flatMap ChuteEntry.bytes
  | .alarms total overflow records =>
    bytesOf 1 total ++ [flagByte overflow] ++ bytesOf 1 records.length ++ records.flatMap Alarm.bytes
  | .settings s count state sweep latest inSweep =>
    s.bytes ++ bytesOf 4 count.toNat ++ [state.code] ++ bytesOf 2 sweep ++ minuteField latest ++ [flagByte inSweep]
  | .clock count => bytesOf 4 count.toNat
  | .configured s => s.bytes
  | .enrolled st => [st.code] ++ slotBytes st.slot? ++ zeroField 2 st.entry?
  | .located s => slotBytes (some s)
  | .extended none => [1#8, absentCode] ++ bytesOf 3 0
  | .extended (some (level, charge)) => [2#8, level.code] ++ bytesOf 3 charge
  | .closing sequence => bytesOf 4 sequence
  | .slotService r => [r.custody.code, r.flagsByte]
  | .emptied removed marked => bytesOf 1 removed ++ bytesOf 1 marked
  | .ackedOne st => codeField (st.map AlarmState.code)
  | .ackedAll acknowledged removed left => bytesOf 1 acknowledged ++ bytesOf 1 removed ++ bytesOf 1 left
  | .hold standing => [flagByte standing]

/-- A reply body: the status byte and what is carried with it (11.1). -/
def Reply.bytes (r : Reply) : List Byte :=
  r.status :: match r with
    | .done data => data.bytes
    | .accepted n => bytesOf 1 n
    | .badField i => bytesOf 1 i
    | .wrongState d => [d.code]
    | .tooLate o => [o.code]
    | .unknownKind => []
    | .badLength => []
    | .notFound => []
    | .duplicate => []
    | .tableFull => []
    | .queueFull => []
    | .onHold => []
    | .starting => []
    | .serviceHold => []
    | .reservePower => []
    | .clockUnset => []
    | .notPermitted => []

/-! ## Frames (R162) -/

/-- A frame: sync, address, length, kind, tag, body and the CRC-16 of all after the sync, in the order sent (R162). -/
def frameOf (address kind tag : Byte) (body : List Byte) : List Byte :=
  let checked := [address, BitVec.ofNat 8 body.length, kind, tag] ++ body
  0x7E#8 :: (checked ++ bytesOf 2 (crc16 checked).toNat)

/-- The bytes of a reply on its line (R165). -/
def SentReply.bytes (r : SentReply) : List Byte := frameOf r.address r.kind r.tag r.reply.bytes

end Sys2Proof.Machine
end

