-- ==== Sys2Proof/Decode.lean ====
section
/-! DEFINITION. Frames as bytes (R162, R163, R172): which command a frame received on a line is, and the frame that
carries a request. The opcode table gives its rows no bits, so no word of it spells a command. -/

namespace Sys2Proof

open Sys2Proof.Machine (numberOf bytesOf crc16 frameOf)

/-- A number field of a request body: the `k` bytes at an offset, most significant first (R172). -/
def readField (w : Nat) (offset k : Nat) (body : List Byte) : BitVec w :=
  BitVec.ofNat w (numberOf ((body.drop offset).take k))

/-- A number field as it is sent in `k` bytes (R172). -/
def writeField {w : Nat} (k : Nat) (v : BitVec w) : List Byte := bytesOf k v.toNat

/-- The request a frame carries, decoded by fixed position (R172, Table 11.2). A kind byte that names no request kind
gives UNKNOWN KIND. What a start-up that follows a RESTART or a FACTORY CLEAR finds outside is no part of the frame. -/
def decodeRequest (h : ReqHdr) (inputs : StartInputs) (kind : Byte) (b : List Byte) : Instr :=
  match kind.toNat with
  | 0x01 => .identify h
  | 0x02 => .status h
  | 0x03 => .fetchNotices h
  | 0x04 => .readSlot h (readField 16 0 2 b) (readField 8 2 1 b)
  | 0x05 => .readVehicle h (readField 24 0 3 b) (readField 32 3 4 b)
  | 0x06 => .readContract h (readField 32 0 4 b)
  | 0x07 => .listDue h (readField 16 0 2 b)
  | 0x08 => .listClosed h (readField 32 0 4 b)
  | 0x09 => .listChute h (readField 8 0 1 b)
  | 0x0A => .listAlarms h (readField 16 0 2 b)
  | 0x0B => .readSettings h
  | 0x10 => .setClock h (readField 32 0 4 b)
  | 0x11 => .configure h (readField 8 0 1 b) (readField 8 1 1 b) (readField 16 2 2 b) (readField 16 4 2 b)
      (readField 8 6 1 b) (readField 16 7 2 b) (readField 8 9 1 b)
  | 0x12 => .enrolVehicle h (readField 24 0 3 b) (readField 32 3 4 b) (readField 16 7 2 b)
  | 0x13 => .retireVehicle h (readField 24 0 3 b)
  | 0x14 => .setHomeSlot h (readField 24 0 3 b) (readField 16 3 2 b)
  | 0x15 => .holdVehicle h (readField 24 0 3 b)
  | 0x16 => .unholdVehicle h (readField 24 0 3 b)
  | 0x17 => .accountVehicle h (readField 24 0 3 b)
  | 0x18 => .locate h (readField 24 0 3 b) (readField 16 3 2 b)
  | 0x20 => .openContract h (readField 32 0 4 b) (readField 24 4 3 b) (readField 8 7 1 b) (readField 32 8 4 b)
      (readField 16 12 2 b) (readField 32 14 4 b) (readField 8 18 1 b)
  | 0x21 => .extendContract h (readField 32 0 4 b) (readField 32 4 4 b)
  | 0x22 => .closeContract h (readField 32 0 4 b) (readField 8 4 1 b)
  | 0x23 => .release h (readField 8 0 1 b) (readField 24 1 3 b) (readField 16 4 2 b)
  | 0x24 => .cancelRelease h (readField 8 0 1 b)
  | 0x25 =>
    let setting := readField 8 2 1 b
    if setting = 1#8 then .slotServiceOn h (readField 16 0 2 b) else .slotServiceOff h (readField 16 0 2 b) setting
  | 0x26 => .chuteEmptied h
  | 0x27 =>
    let mark := readField 8 2 1 b
    if mark = 1#8 then .ackAlarmAll h (readField 16 0 2 b) else .ackAlarm h (readField 16 0 2 b) mark
  | 0x28 => .restart h inputs
  | 0x30 =>
    let setting := readField 8 0 1 b
    if setting = 1#8 then .serviceHoldOn h else .serviceHoldOff h setting
  | 0x31 => .factoryClear h inputs
  | _ => .unknownKind h kind

/-- A broadcast of this kind and body length is taken further: SET CLOCK, CONFIGURE and RESTART (R164, R172). -/
def broadcastTaken (kind : Byte) (length : Nat) : Bool :=
  (kind == 0x10#8 && length == 4) || (kind == 0x11#8 && length == 10) || (kind == 0x28#8 && length == 0)

/-- What an address byte on a line means (R163). -/
inductive Addressing where
  | unicast
  | broadcast
  | ignored
deriving DecidableEq, Repr

/-- The table of R163, for a part of this unit address. -/
def addressing (unit : Nat) (line : Line) (address : Byte) : Addressing :=
  match line with
  | .branch => if address.toNat = unit then .unicast else if address = 0#8 then .broadcast else .ignored
  | .service => if address = 1#8 then .unicast else .ignored

/-- The command of a valid frame (R163, R164). -/
def validFrame (unit : Nat) (inputs : StartInputs) (line : Line) (address kind tag : Byte) (body : List Byte) :
    Instr :=
  let h (broadcast : Bool) : ReqHdr := { line := line, broadcast := broadcast, tag := tag, bodyLen := body.length }
  match addressing unit line address with
  | .unicast => decodeRequest (h false) inputs kind body
  | .broadcast =>
    if broadcastTaken kind body.length then decodeRequest (h true) inputs kind body else .frameIgnored line
  | .ignored => .frameIgnored line

/-- The command of a complete frame, from the bytes after its 0x7E (R162): discarded where the CRC received differs from
the CRC computed, or where there is none. -/
def completeFrame (unit : Nat) (inputs : StartInputs) (line : Line) (bytes : List Byte) : Instr :=
  match bytes with
  | address :: length :: kind :: tag :: rest =>
    let body := rest.take length.toNat
    if numberOf (rest.drop length.toNat) = (crc16 ([address, length, kind, tag] ++ body)).toNat then
      validFrame unit inputs line address kind tag body
    else .frameDiscarded line
  | _ => .frameDiscarded line

/-- What the receiver of a line has taken of a frame (R162): nothing while it hunts, else the bytes after the 0x7E. -/
abbrev Receiver := Option (List Byte)

/-- How many bytes a frame has after its 0x7E: the four of its head, its body and its CRC (R162). -/
def frameRest (got : List Byte) : Nat :=
  match got with
  | _ :: length :: _ => length.toNat + 6
  | _ => 6

/-- A frame whose length byte is above 240 (R162); the frame is abandoned at that byte. -/
def lengthExceeded (got : List Byte) : Bool :=
  match got with
  | [_, length] => decide (Config.bodyLimit < length.toNat)
  | _ => false

/-- One byte at the receiver of a line (R162): while hunting a 0x7E begins a frame and other bytes are passed over;
inside a frame the byte is taken, and the frame is abandoned at a length above 240 or complete at its last CRC byte. The
command the byte makes, if any. -/
def receiveByte (unit : Nat) (inputs : StartInputs) (line : Line) (r : Receiver) (b : Byte) :
    Receiver × Option Instr :=
  match r with
  | none => if b = 0x7E#8 then (some [], some (.syncByteBeginsFrame line)) else (none, none)
  | some got =>
    let got := got ++ [b]
    if lengthExceeded got then (none, some (.frameLengthAbandoned line))
    else if got.length < frameRest got then (some got, none)
    else (none, some (completeFrame unit inputs line got))

/-- The commands that a run of bytes without a gap makes at the receiver of a line, in their order, and the receiver
after it (R162): the hunt goes on at the byte after a frame, whatever became of the frame. -/
def receive (unit : Nat) (inputs : StartInputs) (line : Line) : Receiver → List Byte → Receiver × List Instr
  | r, [] => (r, [])
  | r, b :: rest =>
    let one := receiveByte unit inputs line r b
    let more := receive unit inputs line one.1 rest
    (more.1, one.2.toList ++ more.2)

/-- The commands that a run of bytes makes on a hunting line, a gap of more than 5 ms following it: the gap abandons the
frame in progress (R162). -/
def commandsOfBytes (unit : Nat) (inputs : StartInputs) (line : Line) (bytes : List Byte) : List Instr :=
  let last := receive unit inputs line none bytes
  last.2 ++ match last.1 with
    | none => []
    | some _ => [.frameGapTimeout line]

/-- The kind byte and the body of a request (Table 11.2); none for the commands that no request frame carries. -/
def encodeRequest : Instr → Option (ReqHdr × Byte × List Byte)
  | .identify h => some (h, 0x01#8, [])
  | .status h => some (h, 0x02#8, [])
  | .fetchNotices h => some (h, 0x03#8, [])
  | .readSlot h first count => some (h, 0x04#8, writeField 2 first ++ writeField 1 count)
  | .readVehicle h unit tag => some (h, 0x05#8, writeField 3 unit ++ writeField 4 tag)
  | .readContract h contract => some (h, 0x06#8, writeField 4 contract)
  | .listDue h start => some (h, 0x07#8, writeField 2 start)
  | .listClosed h sequence => some (h, 0x08#8, writeField 4 sequence)
  | .listChute h start => some (h, 0x09#8, writeField 1 start)
  | .listAlarms h start => some (h, 0x0A#8, writeField 2 start)
  | .readSettings h => some (h, 0x0B#8, [])
  | .setClock h seconds => some (h, 0x10#8, writeField 4 seconds)
  | .configure h grace prewarn t2 t3 window aging audit =>
    some (h, 0x11#8, writeField 1 grace ++ writeField 1 prewarn ++ writeField 2 t2 ++ writeField 2 t3
      ++ writeField 1 window ++ writeField 2 aging ++ writeField 1 audit)
  | .enrolVehicle h unit tag home => some (h, 0x12#8, writeField 3 unit ++ writeField 4 tag ++ writeField 2 home)
  | .retireVehicle h unit => some (h, 0x13#8, writeField 3 unit)
  | .setHomeSlot h unit slot => some (h, 0x14#8, writeField 3 unit ++ writeField 2 slot)
  | .holdVehicle h unit => some (h, 0x15#8, writeField 3 unit)
  | .unholdVehicle h unit => some (h, 0x16#8, writeField 3 unit)
  | .accountVehicle h unit => some (h, 0x17#8, writeField 3 unit)
  | .locate h unit slot => some (h, 0x18#8, writeField 3 unit ++ writeField 2 slot)
  | .openContract h contract unit cls due hourRate dayRate grace =>
    some (h, 0x20#8, writeField 4 contract ++ writeField 3 unit ++ writeField 1 cls ++ writeField 4 due
      ++ writeField 2 hourRate ++ writeField 4 dayRate ++ writeField 1 grace)
  | .extendContract h contract due => some (h, 0x21#8, writeField 4 contract ++ writeField 4 due)
  | .closeContract h contract reason => some (h, 0x22#8, writeField 4 contract ++ writeField 1 reason)
  | .release h kind unit slot => some (h, 0x23#8, writeField 1 kind ++ writeField 3 unit ++ writeField 2 slot)
  | .cancelRelease h number => some (h, 0x24#8, writeField 1 number)
  | .slotServiceOff h slot setting => some (h, 0x25#8, writeField 2 slot ++ writeField 1 setting)
  | .slotServiceOn h slot => some (h, 0x25#8, writeField 2 slot ++ [1#8])
  | .chuteEmptied h => some (h, 0x26#8, [])
  | .ackAlarm h number mark => some (h, 0x27#8, writeField 2 number ++ writeField 1 mark)
  | .ackAlarmAll h number => some (h, 0x27#8, writeField 2 number ++ [1#8])
  | .restart h _ => some (h, 0x28#8, [])
  | .serviceHoldOn h => some (h, 0x30#8, [1#8])
  | .serviceHoldOff h setting => some (h, 0x30#8, writeField 1 setting)
  | .factoryClear h _ => some (h, 0x31#8, [])
  | .unknownKind _ _ => none
  | .frameDiscarded _ => none
  | .frameGapTimeout _ => none
  | .frameIgnored _ => none
  | .lineOverrun _ => none
  | .replySent _ => none
  | .presenceContactChange _ _ => none
  | .candidateQualified _ => none
  | .latchSenseChange _ _ => none
  | .strikeConfirmTimeout _ => none
  | .heldOpenClosedTimeout _ => none
  | .closingConfirmTimeout _ => none
  | .uncommandedOpen _ => none
  | .boardSilenceTimeout _ => none
  | .columnProbe _ _ => none
  | .readAttemptEnd _ _ => none
  | .auditTick _ => none
  | .strikeChargeExpiry => none
  | .agingReached _ => none
  | .takeDeadline _ => none
  | .locateTimerExpiry _ => none
  | .dropDetected => none
  | .chuteReadAttemptEnd _ => none
  | .pocketEmpty => none
  | .pocketDriveTimeout => none
  | .pocketRetry => none
  | .minuteBoundary => none
  | .sweepExamination => none
  | .mainsInputChange _ => none
  | .mainsAbsentQualified => none
  | .mainsPresentQualified => none
  | .batterySenseChange _ => none
  | .batteryStateQualified => none
  | .supplyStop => none
  | .powerOn _ _ => none
  | .startupCompletion _ => none
  | .serviceHoldTimeout => none
  | .syncByteBeginsFrame _ => none
  | .frameLengthAbandoned _ => none

/-- What a command finds outside at the start-up that follows it, where one does. -/
def Instr.inputs (c : Instr) (otherwise : StartInputs) : StartInputs :=
  match c with
  | .restart _ inputs => inputs
  | .factoryClear _ inputs => inputs
  | _ => otherwise

/-- The address byte of a request frame for a part of this unit address (R163). -/
def requestAddress (unit : Nat) (h : ReqHdr) : Byte :=
  match h.line with
  | .branch => if h.broadcast then 0#8 else BitVec.ofNat 8 unit
  | .service => 1#8

/-- The frame that carries a request to a part of this unit address (R162, R172). -/
def encodeFrame (unit : Nat) (c : Instr) : Option (List Byte) :=
  (encodeRequest c).map fun x => frameOf (requestAddress unit x.1) x.2.1 x.1.tag x.2.2

/-- The command that a word of the opcode table spells: none, since the table gives no row a bit. -/
def decodeTableWord (_nbits _w : Nat) : Option Instr := none

end Sys2Proof
end

