-- ==== Sys2Proof/Machine/Operands.lean ====
section
/-! DEFINITION. The fields of requests: the ranges of the numbers (R44, R58, R83, R147) and what the code bytes name
(Code points of 11.3). -/

namespace Sys2Proof.Machine

/-- A unit number is 1 to 999,999 (00_scope.md, Unit numbers; R44). -/
def validUnit (unit : BitVec 24) : Bool := decide (1 ≤ unit.toNat ∧ unit.toNat ≤ 999999)

/-- A slot number is 1 to 384 (00_scope.md, Slot numbers; R44). -/
def validSlot (slot : BitVec 16) : Bool := decide (1 ≤ slot.toNat ∧ slot.toNat ≤ 384)

/-- A contract number is 1 to 4,294,967,294 (00_scope.md, Contract numbers; R83). -/
def validContract (number : BitVec 32) : Bool := decide (1 ≤ number.toNat ∧ number.toNat ≤ 4294967294)

/-- A day rate is 0 to 1,000,000 cents (R79, R83). -/
def validDayRate (rate : BitVec 32) : Bool := decide (rate.toNat ≤ 1000000)

/-- The slot of a slot field; none for 0 and for numbers above 384 (R1, R173). -/
def slotField (slot : BitVec 16) : Option SlotId := slotOfNumber slot.toNat

/-- Exactly one of two selector fields is non-zero (R172). -/
def oneSelector (a b : Nat) : Bool := (a == 0) != (b == 0)

/-- The renter class of a class byte; STAFF is no renter class (R79, R83). -/
def renterClass (code : Byte) : Option RenterClass :=
  if code = 1#8 then some .standard else if code = 2#8 then some .priority else none

/-- The reason of a CLOSE CONTRACT (R90). -/
def manualReason (code : Byte) : Option ManualReason :=
  if code = 1#8 then some .keyLost else if code = 2#8 then some .returnedElsewhere else none

/-- The kinds RELEASE may name (R58). -/
inductive ReleaseKind where
  | movement
  | staffVehicle
  | staffSlot
deriving DecidableEq, Repr

/-- The kind of a RELEASE; CONTRACT and every other code is refused (R58). -/
def releaseKind (code : Byte) : Option ReleaseKind :=
  if code = 2#8 then some .movement
  else if code = 3#8 then some .staffVehicle
  else if code = 4#8 then some .staffSlot
  else none

/-- A grace byte: 0xFF is absent, and 181 to 254 are held at 180 (R84; Table 11.2, Note 3; R173). -/
def graceField (grace : Byte) : Option Nat := if grace = 0xFF#8 then none else some (min grace.toNat 180)

/-- A due minute that may be given: after the current minute, at most 131,400 minutes ahead (R83, R87). -/
def dueAhead (due now : Minute) : Bool := decide (now < due ∧ due ≤ now + Config.dueHorizon)

/-- A value raised to the lower bound of a range or held at its upper bound (R121). -/
def clamp (low high n : Nat) : Nat := min (max n low) high

/-- The settings a CONFIGURE leaves: each value clamped to its range, in order (R121). -/
def clampedSettings (grace prewarn : Byte) (t2 t3 : BitVec 16) (window : Byte) (aging : BitVec 16) (audit : Bool) :
    Settings :=
  let g := min grace.toNat 180
  let u := clamp (g + 1) 10080 t2.toNat
  { grace := g
    prewarn := min prewarn.toNat 240
    t2 := u
    t3 := clamp (u + 1) 20160 t3.toNat
    window := clamp 5 60 window.toNat
    aging := clamp 10 600 aging.toNat
    audit := audit }

end Sys2Proof.Machine
end

