-- ==== Sys2Proof/Machine/Alarms.lean ====
section
/-! DEFINITION. The notice queue (R166) and the alarm list: raises, ends of conditions and acknowledgements
(R135 to R141, R145). -/

namespace Sys2Proof.Machine

/-- A notice is made: it takes the next number, and is added at the end of the queue, or discarded with NOTICES_LOST
set where the queue is full (R166). -/
def Part.notice (p : Part) (body : NoticeBody) : Part :=
  let n := wrapNext 65535 p.lines.counter
  if p.lines.notices.length < Config.noticeCapacity then
    { p with lines := { p.lines with
        counter := n, notices := p.lines.notices ++ [{ number := n, minute := p.minute, body := body }] } }
  else
    { p with lines := { p.lines with counter := n, flags := { p.lines.flags with noticesLost := true } } }

/-- The alarms that mark a thing that happened: their condition ends when the record is acknowledged (R136). -/
def isEventAlarm : AlarmKind → Subject → Bool
  | .forcedRemoval, .slot _ => true
  | .fobSwap, _ => true
  | _, _ => false

/-- The record for a kind and a subject (R134). -/
def Part.findAlarm (p : Part) (k : AlarmKind) (x : Subject) : Option Alarm :=
  p.alarm.list.find? fun a => a.kind == k && a.subject == x

def Part.updAlarm (p : Part) (number : Nat) (f : Alarm → Alarm) : Part :=
  { p with alarm := { p.alarm with list := p.alarm.list.map fun a => if a.number = number then f a else a } }

/-- A record leaves the list, which clears the overflow condition (R138). -/
def Part.removeAlarm (p : Part) (number : Nat) : Part :=
  { p with alarm := { p.alarm with list := p.alarm.list.filter fun a => a.number != number, overflow := false } }

/-- The notice and the flag of a raise that is recorded (R145). -/
def Part.announceRaise (p : Part) (number : Nat) (k : AlarmKind) (x : Subject) : Part :=
  (p.notice (.alarmRaised number k x p.minute)).flagAlarmRaised

/-- A record is made at the end of the list with the next free number (R135, R137). -/
def Part.makeAlarm (p : Part) (k : AlarmKind) (x : Subject) : Part :=
  let used := p.alarm.list.map (·.number)
  let n := freeNumber 65535 used used.length p.alarm.lastNumber
  let record : Alarm := { number := n, kind := k, subject := x, raised := p.minute, state := .activeUnacked }
  Part.announceRaise { p with alarm := { p.alarm with lastNumber := n, list := p.alarm.list ++ [record] } } n k x

/-- The earliest-made CLEARED_UNACKED record (R138). -/
def Part.firstCleared (p : Part) : Option Alarm :=
  p.alarm.list.find? fun a => match a.state with
    | .clearedUnacked _ => true
    | .activeUnacked => false
    | .activeAcked => false

/-- A raise of kind k for subject x at the current minute (R137, R138). -/
def Part.raise (p : Part) (k : AlarmKind) (x : Subject) : Part :=
  match p.findAlarm k x with
  | some a =>
    match a.state with
    | .activeUnacked => p
    | .activeAcked => p
    | .clearedUnacked _ =>
      (p.updAlarm a.number fun a => { a with state := .activeUnacked, raised := p.minute }).announceRaise a.number k x
  | none =>
    if p.alarm.list.length < Config.alarmCapacity then p.makeAlarm k x
    else
      match p.firstCleared with
      | some old => (p.removeAlarm old.number).makeAlarm k x
      | none => Part.flagAlarmOverflow { p with alarm := { p.alarm with overflow := true } }

/-- An end of the condition of kind k for subject x at the current minute (R139). -/
def Part.endCondition (p : Part) (k : AlarmKind) (x : Subject) : Part :=
  match p.findAlarm k x with
  | none => p
  | some a =>
    match a.state with
    | .activeUnacked =>
      (p.updAlarm a.number fun a => { a with state := .clearedUnacked p.minute }).notice
        (.alarmCleared a.number k x p.minute false)
    | .activeAcked => (p.removeAlarm a.number).notice (.alarmCleared a.number k x p.minute true)
    | .clearedUnacked _ => p

/-- What an acknowledgement does to a record: its state after, or none where it is removed (R140). -/
def Alarm.acked (a : Alarm) : Option AlarmState :=
  match a.state with
  | .activeUnacked => if isEventAlarm a.kind a.subject then none else some .activeAcked
  | .activeAcked => some .activeAcked
  | .clearedUnacked _ => none

/-- One record is acknowledged (R140). -/
def Part.ackAlarm (p : Part) (a : Alarm) : Part :=
  match a.acked with
  | none => p.removeAlarm a.number
  | some st => p.updAlarm a.number fun a => { a with state := st }

/-- Every record is acknowledged in list order (R141). -/
def Part.ackAll (p : Part) : Part := p.alarm.list.foldl Part.ackAlarm p

/-- The FOB_UNKNOWN and FOB_DUPLICATE conditions of a slot end, in this order (R8, R9, R30, R34). -/
def Part.endForeignConditions (p : Part) (s : SlotId) : Part :=
  (p.endCondition .fobUnknown (.slot s)).endCondition .fobDuplicate (.slot s)

end Sys2Proof.Machine
end

