-- ==== Sys2Proof/Machine/Lateness.lean ====
section
/-! DEFINITION. The evaluation of a contract (R122 to R125), what follows it (R126, R127), the due list (R82), the
contract's life from PENDING to its closing record (R84, R85, R89, R91), and the minute sweep (R128 to R131). -/

namespace Sys2Proof.Machine

/-! ## Evaluation -/

/-- The result of an evaluation (R125, stage 7). -/
structure Evaluation where
  level : Level
  hours : Nat
  charge : Nat
  capped : Bool
deriving DecidableEq, Repr

/-- The effective grace: the override if present, otherwise the default grace; T2 − 1 where that is not less than T2
(R122). -/
def effectiveGrace (st : Settings) (override : Option Nat) : Nat :=
  let g := override.getD st.grace
  if g < st.t2 then g else st.t2 - 1

/-- The lateness S = N − D, an exact signed integer (R123). -/
def latenessOf (due now : Minute) : Int := (now : Int) - (due : Int)

/-- The level of a lateness, by the first row that holds (R123). -/
def levelOf (st : Settings) (grace : Nat) (s : Int) : Level :=
  if s < -(st.prewarn : Int) then .current
  else if s ≤ 0 then .dueSoon
  else if s ≤ (grace : Int) then .grace
  else if s < (st.t2 : Int) then .late
  else if s < (st.t3 : Int) then .overdue
  else .unreturned

/-- The levels in their order, from 0 (R123). -/
def Level.rank : Level → Nat
  | .current => 0
  | .dueSoon => 1
  | .grace => 2
  | .late => 3
  | .overdue => 4
  | .unreturned => 5

/-- The billable hours before they are held (R124). -/
def rawHours (level : Level) (s : Int) : Nat := if level.rank < Level.late.rank then 0 else (s.toNat + 59) / 60

/-- The charge before it is held: whole days and a part-day that never costs more than a day (R125). -/
def rawCharge (hourRate dayRate hours : Nat) : Nat :=
  hours / 24 * dayRate + min (hours % 24 * hourRate) dayRate

/-- The evaluation of a contract at minute `now` under the settings (R122 to R125). -/
def evaluate (st : Settings) (c : Contract) (now : Minute) : Evaluation :=
  let s := latenessOf c.due now
  let level := levelOf st (effectiveGrace st c.grace) s
  let raw := rawHours level s
  let hours := min raw Config.hoursCap
  let cost := rawCharge c.hourRate c.dayRate hours
  { level := level
    hours := hours
    charge := min cost Config.chargeCap
    capped := decide (Config.hoursCap < raw ∨ Config.chargeCap < cost) }

/-- The write-back of an evaluation into the record of a contract taken at minute `take` (R125, stage 7). -/
def Contract.withEvaluation (c : Contract) (take : Minute) (e : Evaluation) : Contract :=
  { c with state := .active take e.level, hours := e.hours, charge := e.charge, capped := e.capped }

/-! ## The contract table and the due list -/

def Part.findContract (p : Part) (number : Nat) : Option Contract := p.book.contracts.find? (·.number == number)

def Part.updContract (p : Part) (number : Nat) (f : Contract → Contract) : Part :=
  { p with book := { p.book with contracts := p.book.contracts.map fun c => if c.number = number then f c else c } }

def Part.dropContract (p : Part) (number : Nat) : Part :=
  { p with book := { p.book with contracts := p.book.contracts.filter fun c => c.number != number } }

def Contract.isActive (c : Contract) : Bool :=
  match c.state with
  | .active _ _ => true
  | .pending _ => false

/-- The level of an ACTIVE contract; absent while PENDING (R79). -/
def Contract.level (c : Contract) : Option Level :=
  match c.state with
  | .active _ level => some level
  | .pending _ => none

/-- The order of the due list: due minute first, contract number among equals (R82). -/
def Contract.before (a b : Contract) : Bool :=
  decide (a.due < b.due ∨ (a.due = b.due ∧ a.number ≤ b.number))

/-- A contract put at its place in the order of the due list (R82). -/
def insertDue (c : Contract) : List Contract → List Contract
  | [] => [c]
  | d :: rest => if c.before d then c :: d :: rest else d :: insertDue c rest

/-- The due list: every ACTIVE contract, in due order (R82, R153). -/
def ContractTable.dueList (b : ContractTable) : List Contract :=
  (b.contracts.filter Contract.isActive).foldr insertDue []

/-! ## Level changes -/

/-- An absent old level counts as lower than CURRENT (R127). -/
def reaches (threshold : Level) (level : Option Level) : Bool :=
  match level with
  | none => false
  | some l => decide (threshold.rank ≤ l.rank)

/-- The escalation hold, set where the vehicle carries no hold (R51). -/
def Part.escalate (p : Part) (unit : Nat) : Part :=
  p.updVehicle unit fun v => { v with hold := some (v.hold.getD .escalation) }

/-- The alarm of a threshold follows a level change across it (R127 steps 2 and 3). -/
def Part.followThreshold (p : Part) (threshold : Level) (kind : AlarmKind) (number : Nat)
    (old : Option Level) (new : Level) : Part :=
  match reaches threshold old, reaches threshold (some new) with
  | false, true => p.raise kind (.contract number)
  | true, false => p.endCondition kind (.contract number)
  | false, false => p
  | true, true => p

/-- A level change of a contract is handled: the LEVEL_CHANGED notice, the OVERDUE and UNRETURNED alarms and the
escalation hold, in this order (R127). -/
def Part.levelChange (p : Part) (c : Contract) (old : Option Level) (new : Level) (charge : Nat) : Part :=
  let p := p.notice (.levelChanged c.number old new charge)
  let p := p.followThreshold .overdue .overdue c.number old new
  let p := p.followThreshold .unreturned .unreturned c.number old new
  if reaches .unreturned (some new) && !reaches .unreturned old then p.escalate c.unit else p

/-- An ACTIVE contract is evaluated at `now`, marked with the current sweep number, and its level change, if there is
one, is handled: a sweep examination or an extension (R126, R128). -/
def Part.examine (p : Part) (number : Nat) (now : Minute) : Part :=
  match p.findContract number with
  | none => p
  | some c =>
    match c.state with
    | .pending _ => p
    | .active take old =>
      let e := evaluate p.late.settings c now
      let p := p.updContract number fun c =>
        { c.withEvaluation take e with mark := some p.late.sweepNumber }
      if e.level = old then p else p.levelChange c (some old) e.level e.charge

/-! ## PENDING to ACTIVE, deletion and closing -/

/-- A PENDING contract becomes ACTIVE at its take minute (R85): it is evaluated there and marked, and its level is
handled as a change from an absent level, without a LEVEL_CHANGED notice where it is CURRENT. -/
def Part.activateContract (p : Part) (number : Nat) (take : Minute) : Part :=
  match p.findContract number with
  | none => p
  | some c =>
    match c.state with
    | .active _ _ => p
    | .pending _ =>
      let e := evaluate p.late.settings c take
      let p := p.updContract number fun c => { c.withEvaluation take e with mark := some p.late.sweepNumber }
      if e.level = .current then p else p.levelChange c none e.level e.charge

/-- The open contract link of a vehicle is dropped (R42). -/
def Part.dropContractLink (p : Part) (unit : Nat) : Part :=
  p.updVehicle unit fun v => { v with contract := none }

/-- A PENDING contract is deleted: no closing record, no sequence number, no notice, no alarm change (R84). -/
def Part.deleteContract (p : Part) (number : Nat) : Part :=
  match p.findContract number with
  | none => p
  | some c => if c.isActive then p else (p.dropContract number).dropContractLink c.unit

/-- The closing record of a contract taken at minute `take`, closed at `returned` with the evaluation `e` (R92). -/
def closingRecord (c : Contract) (sequence : Nat) (take returned : Minute) (path : ClosePath) (e : Evaluation) :
    ClosingRecord :=
  { sequence := sequence, number := c.number, unit := c.unit, cls := c.cls, take := take, due := c.due
    returned := returned, path := path, level := e.level, hours := e.hours, charge := e.charge, capped := e.capped }

/-- A record joins the ring at its end; the oldest of 65 leaves it (R92). -/
def pushRing (ring : List ClosingRecord) (r : ClosingRecord) : List ClosingRecord :=
  (ring ++ [r]).drop (ring.length + 1 - Config.ringCapacity)

/-- The closing of an ACTIVE contract with the return minute `returned`, in the order of R89. -/
def Part.closeContract (p : Part) (number : Nat) (returned : Minute) (path : ClosePath) : Part :=
  match p.findContract number with
  | none => p
  | some c =>
    match c.state with
    | .pending _ => p
    | .active take _ =>
      let e := evaluate p.late.settings c returned
      let sequence := wrapNext 4294967295 p.book.closingSeq
      let r := closingRecord c sequence take returned path e
      let p := { p with book := { p.book with closingSeq := sequence, ring := pushRing p.book.ring r } }
      let p := (p.dropContract number).dropContractLink c.unit
      let p := p.endCondition .overdue (.contract number)
      let p := p.endCondition .unreturned (.contract number)
      p.notice (.contractClosed r)

/-! ## The minute sweep -/

/-- A sweep begins with the given sweep minute (R128, R129, R131). -/
def Part.beginSweep (p : Part) (minute : Minute) : Part :=
  { p with late := { p.late with
      sweepNumber := (p.late.sweepNumber + 1) % 65536
      sweep := some { minute := minute, full := p.late.fullWalk }
      latestSweep := some minute
      fullWalk := false } }

/-- A sweep ends; with a pending boundary noted a new one begins at once (R129). -/
def Part.endSweep (p : Part) : Part :=
  if p.late.pendingBoundary then
    Part.beginSweep { p with late := { p.late with pendingBoundary := false } } p.minute
  else { p with late := { p.late with sweep := none } }

/-- The next contract of the sweep: the first of the due list not examined for the current sweep number (R130). -/
def Part.sweepCandidate (p : Part) : Option Contract :=
  p.book.dueList.find? fun c => c.mark != some p.late.sweepNumber

/-- One examination of the sweep in progress (R130). -/
def Part.sweepStep (p : Part) : Option Part :=
  match p.late.sweep with
  | none => none
  | some sw =>
    some <| match p.sweepCandidate with
    | none => p.endSweep
    | some c =>
      if !sw.full && decide (sw.minute + p.late.settings.prewarn < c.due) then p.endSweep
      else p.examine c.number sw.minute

/-- The count steps to a minute boundary (R117, R118, R129): the retained minute is written; where start-up has
ended and the clock is SET or SUSPECT a sweep begins, or a pending boundary is noted behind the one in progress. -/
def Part.boundary (p : Part) : Part :=
  let missing := (secondsToSpare p.late.count + 1) * 1000 - p.late.subMs
  let p := p.elapse missing
  let count := p.late.count + 1
  let p := { p with late := { p.late with
    count := count, subMs := p.late.subMs - 1000, retainedMinute := minuteOf count } }
  if p.isReady && p.late.clock != .unset then
    match p.late.sweep with
    | none => p.beginSweep p.minute
    | some _ => { p with late := { p.late with pendingBoundary := true } }
  else p

end Sys2Proof.Machine
end

