-- ==== Sys2Proof/Machine/Drops.lean ====
section
/-! DEFINITION. The chute log, the in-chute count, the flap lock (R104, R105, R110 to R113) and the handling of one
drop (R107 to R109). -/

namespace Sys2Proof.Machine

def ChuteEntry.isInChute (e : ChuteEntry) : Bool := e.place == .inChute

/-- The in-chute count: the entries whose place is IN_CHUTE (R104). -/
def Chute.inChute (c : Chute) : Nat := (c.log.filter ChuteEntry.isInChute).length

/-- Either bound of the chute is reached (R110). -/
def Chute.bounded (c : Chute) : Bool :=
  decide (Config.chuteCapacity ≤ c.log.length ∨ Config.inChuteBound ≤ c.inChute)

/-- The flap lock is decided from the log, and CHUTE_FULL follows a change of it (R110, R111). -/
def Part.decideFlap (p : Part) : Part :=
  match p.chute.flapLocked, p.chute.bounded with
  | false, true => Part.raise { p with chute := { p.chute with flapLocked := true } } .chuteFull .chute
  | true, false => Part.endCondition { p with chute := { p.chute with flapLocked := false } } .chuteFull .chute
  | false, false => p
  | true, true => p

/-- The flap decision of the chute check: CHUTE_FULL is raised if a bound is reached, and ends if neither is
(R115). -/
def Part.checkFlap (p : Part) : Part :=
  let locked := p.chute.bounded
  let p := { p with chute := { p.chute with flapLocked := locked } }
  if locked then p.raise .chuteFull .chute else p.endCondition .chuteFull .chute

/-- An entry leaves the log, and the flap lock is decided (R100, R112); before the chute check of a start-up the lock
stays as it is, undriven and so LOCKED, and is decided at the check (R104, R115, R155; log entry 11). -/
def Part.removeEntry (p : Part) (number : Nat) : Part :=
  let p := { p with chute := { p.chute with log := p.chute.log.filter fun e => e.number != number } }
  if p.isReady then p.decideFlap else p

def Part.updEntry (p : Part) (number : Nat) (f : ChuteEntry → ChuteEntry) : Part :=
  { p with chute := { p.chute with log := p.chute.log.map fun e => if e.number = number then f e else e } }

/-- The kind of the entry a drop's outcome gives, by the first row of R107 that matches. -/
def Part.entryKind (p : Part) : ReadOutcome → EntryKind
  | .unreadable => .unread
  | .good tag kind =>
    if kind != 1 then .unread
    else match p.findTag tag with
      | none => .unknown tag
      | some v => match v.status with
        | .inSlot _ => .conflict tag
        | .dropped _ => .conflict tag
        | .out _ => .named tag v.unit
        | .stray => .named tag v.unit
        | .away => .named tag v.unit

/-- The vehicle of a NAMED entry becomes DROPPED, with the effect its status before gives (R108). -/
def Part.dropVehicle (p : Part) (unit entry : Nat) (detected : Minute) : Part :=
  match p.findUnit unit with
  | none => p
  | some v =>
    let p := p.setStatus unit (.dropped entry)
    match v.status with
    | .out .contract => match v.contract with
      | some n => p.closeContract n detected (.chute entry)
      | none => p
    | .stray => p.endCondition .forcedRemoval (.vehicle unit)
    | .out .movement => p
    | .out .staff => p
    | .away => p
    | .inSlot _ => p
    | .dropped _ => p

/-- The alarm of the row of R107. -/
def Part.raiseForEntry (p : Part) (entry : Nat) : EntryKind → Part
  | .unread => p.raise .chuteUnread .chute
  | .conflict _ => p.raise .fobDuplicate (.entry entry)
  | .named _ _ => p
  | .unknown _ => p

/-- The handling of one drop from the end of its read, in the order of R109. -/
def Part.handleDrop (p : Part) (detected : Minute) (outcome : ReadOutcome) : Part :=
  let used := p.chute.log.map (·.number)
  let n := freeNumber 65535 used used.length p.chute.lastEntry
  let kind := p.entryKind outcome
  let entry : ChuteEntry := { number := n, dropMinute := detected, kind := kind, place := .inChute }
  let p := { p with chute := { p.chute with lastEntry := n, pocketEntry := some n, log := p.chute.log ++ [entry] } }
  let before := p.book.closingSeq
  let p := match kind with
    | .named _ unit => p.dropVehicle unit n detected
    | .unknown _ => p
    | .unread => p
    | .conflict _ => p
  let closing := if p.book.closingSeq = before then none else some p.book.closingSeq
  let p := (p.raiseForEntry n kind).decideFlap
  let p := p.notice (.chuteDrop n detected kind closing)
  { p with chute := { p.chute with
      drop := some { detected := detected, reading := none }
      drive := some { since := p.uptime, driven := true } } }

/-- An entry names no vehicle: CHUTE EMPTIED removes it (R113). -/
def ChuteEntry.unnamed (e : ChuteEntry) : Bool :=
  match e.kind with
  | .named _ _ => false
  | .unknown _ => true
  | .unread => true
  | .conflict _ => true

/-- The FOB_DUPLICATE condition of a CONFLICT entry that is removed ends (R112, R113). -/
def Part.endEntryCondition (p : Part) (e : ChuteEntry) : Part :=
  match e.kind with
  | .conflict _ => p.endCondition .fobDuplicate (.entry e.number)
  | .named _ _ => p
  | .unknown _ => p
  | .unread => p

/-- An entry given place TAKEN_OUT (R113 step 2). -/
def ChuteEntry.takenOut (e : ChuteEntry) : ChuteEntry := { e with place := .takenOut }

/-- The effects of CHUTE EMPTIED, in the order of R113. In which order the FOB_DUPLICATE conditions of several removed
CONFLICT entries end is left open: the model takes log order (DESIGN CHOICE, log entry 33). -/
def Part.emptyChute (p : Part) : Part :=
  let gone := p.chute.log.filter ChuteEntry.unnamed
  let p := { p with chute := { p.chute with log := p.chute.log.filter fun e => !e.unnamed } }
  let p := gone.foldl Part.endEntryCondition p
  let p := { p with chute := { p.chute with log := p.chute.log.map ChuteEntry.takenOut } }
  (p.endCondition .chuteUnread .chute).decideFlap

end Sys2Proof.Machine
end

