-- ==== Sys2Proof/Machine/Latches.lean ====
section
/-! DEFINITION. Latch commands and sense reports (R11 to R14). -/

namespace Sys2Proof.Machine

/-- A latch is STRIKING, HELD_OPEN or CLOSING (R61). -/
def Latch.busy : Latch → Bool
  | .closed _ => false
  | .striking _ => true
  | .heldOpen _ => true
  | .closing _ => true

/-- The latch is driven (R11): output of the column engine. -/
def Latch.driven : Latch → Bool
  | .closed _ => false
  | .striking _ => true
  | .heldOpen _ => true
  | .closing _ => false

/-- The latch a strike command leaves of a latch in CLOSED (R12). -/
def Latch.struck (now : Ms) : Latch → Latch
  | .closed _ => .striking now
  | .striking t => .striking t
  | .heldOpen t => .heldOpen t
  | .closing t => .closing t

/-- The latch a stop command leaves (R12). -/
def Latch.stopped (now : Ms) : Latch → Latch
  | .closed t => .closed t
  | .striking _ => .closing now
  | .heldOpen _ => .closing now
  | .closing t => .closing t

/-- The latch after a sense report (R12, R13, R14). -/
def Latch.sensed (now : Ms) (isOpen : Bool) : Latch → Latch
  | .closed t => .closed (if isOpen then some (t.getD now) else none)
  | .striking t => if isOpen then .heldOpen none else .striking t
  | .heldOpen t => .heldOpen (if isOpen then none else some (t.getD now))
  | .closing t => if isOpen then .closing t else .closed none

def Part.updLatch (p : Part) (s : SlotId) (f : Latch → Latch) : Part :=
  p.updEngine s fun e => { e with latch := e.latch.map f }

/-- The strike command (R12). -/
def Part.strike (p : Part) (s : SlotId) : Part := p.updLatch s (Latch.struck p.uptime)

/-- The stop command (R12). -/
def Part.stopLatch (p : Part) (s : SlotId) : Part := p.updLatch s (Latch.stopped p.uptime)

/-- The latch of a slot put under supervision in CLOSED, with the sense as it reads at that moment; a slot with its
latch-fault flag set has no latch state (R11). -/
def Slot.closeLatch (now : Ms) (x : Slot) : Slot :=
  let latch := if x.record.latchFault then none
    else some (Latch.closed (if x.engine.senseOpen then some now else none))
  { x with engine := { x.engine with latch := latch } }

/-- Some latch of the column is STRIKING, HELD_OPEN or CLOSING (R61). -/
def Column.latchBusy (col : Column) : Bool :=
  col.slots.toList.any fun x => x.engine.latch.any Latch.busy

end Sys2Proof.Machine
end

