-- ==== Sys2Proof/Machine/Readers.lean ====
section
/-! DEFINITION. The read list of a column and its reader (R25 to R28), and the audit timer and pointer
(R37 to R39). -/

namespace Sys2Proof.Machine

/-- The precedence of a purpose (R25). -/
def Purpose.precedence : Purpose → Nat
  | .arrival => 2
  | .recheck => 2
  | .verify => 1
  | .audit => 0

/-- A request of purpose x entered in a read list: added at the end, raised to x with a new placement order, or
served by the request that stands (R26). -/
def enterRequest (list : List ReadRequest) (pos : PosId) (x : Purpose) : List ReadRequest :=
  match list.find? (·.pos == pos) with
  | none => list ++ [{ pos := pos, purpose := x }]
  | some r =>
    if r.purpose.precedence < x.precedence then
      list.filter (fun r => r.pos != pos) ++ [{ pos := pos, purpose := x }]
    else list

/-- A request of purpose x is placed for a position of a column: a read in progress serves it, else the list takes
it (R26). A column that is STOPPED or LOST has no read list (R25). -/
def Column.place (col : Column) (pos : PosId) (x : Purpose) : Column :=
  if col.engine.watches then
    match col.reader with
    | some rd =>
      if rd.pos = pos then { col with reader := some { rd with also := rd.also ++ [x] } }
      else { col with readList := enterRequest col.readList pos x }
    | none => { col with readList := enterRequest col.readList pos x }
  else col

/-- The request of a position is removed and a read of it in progress cancelled; its reconciliation is then complete
(R28 rows 1 and 2, R158). -/
def Column.cancel (col : Column) (pos : PosId) : Column :=
  { col with
    readList := col.readList.filter fun r => r.pos != pos
    reader := col.reader.filter fun rd => rd.pos != pos
    unreconciled := col.unreconciled.filter fun i => i != pos }

/-- A read in progress is VERIFY alone: placed as VERIFY, and no higher purpose was placed for it (R28 row 3). -/
def Read.verifyOnly (rd : Read) : Bool :=
  rd.purpose == .verify && rd.also.all fun x => decide (x.precedence ≤ Purpose.verify.precedence)

/-- The VERIFY request or read of a position is removed or cancelled (R28 row 3). -/
def Column.dropVerify (col : Column) (pos : PosId) : Column :=
  { col with
    readList := col.readList.filter fun r => r.pos != pos || r.purpose != .verify
    reader := col.reader.filter fun rd => rd.pos != pos || !rd.verifyOnly }

/-- A read of a position in progress is cancelled and its request put back with its purpose, at the end of the placement
order (R28 row 4): the purpose it was placed with, since what is placed during a read is served by the read and leaves
the request as it was (R26). -/
def Column.requeue (col : Column) (pos : PosId) : Column :=
  match col.reader with
  | none => col
  | some rd =>
    if rd.pos = pos then
      { col with reader := none, readList := col.readList ++ [{ pos := pos, purpose := rd.purpose }] }
    else col

def Part.placeRead (p : Part) (s : SlotId) (x : Purpose) : Part := p.updColumn s.col fun col => col.place s.pos x
def Part.cancelReads (p : Part) (s : SlotId) : Part := p.updColumn s.col fun col => col.cancel s.pos
def Part.dropVerify (p : Part) (s : SlotId) : Part := p.updColumn s.col fun col => col.dropVerify s.pos
def Part.requeueRead (p : Part) (s : SlotId) : Part := p.updColumn s.col fun col => col.requeue s.pos

/-- A STAFF_SLOT release on the slot is VERIFYING or OPEN (R27, R38). -/
def Part.staffSlotOn (p : Part) (s : SlotId) : Bool :=
  p.sched.queue.any fun r => r.target == .staffSlot && r.inFlight && r.slot == s

/-- The request a reader starts next: among the startable ones, the earliest placed of the best precedence (R27). -/
def chooseRequest (startable : List ReadRequest) : Option ReadRequest :=
  (startable.find? fun r => r.purpose.precedence == 2).or
    ((startable.find? fun r => r.purpose.precedence == 1).or (startable.find? fun r => r.purpose.precedence == 0))

/-- An idle reader starts the read of the best startable request (R27). -/
def Part.startReader (p : Part) (c : ColId) : Part :=
  let col := p.column c
  if col.engine.watches && col.reader.isNone then
    match chooseRequest (col.readList.filter fun r => !p.staffSlotOn { col := c, pos := r.pos }) with
    | none => p
    | some r => p.updColumn c fun col =>
      { col with
        readList := col.readList.filter fun q => q.pos != r.pos
        reader := some { pos := r.pos, purpose := r.purpose, also := [], attempt := 1, since := p.uptime } }
  else p

/-- Every idle reader of the part starts what it can (R27). -/
def Part.startReaders (p : Part) : Part := allCols.foldl Part.startReader p

/-! ## Audit -/

/-- The audit of a column runs while it is RUNNING, the mode is MAINS and the audit setting is on (R37). -/
def Part.auditRuns (p : Part) (c : ColId) : Bool :=
  (p.column c).engine == .running && p.supply.mode == .mains && p.late.settings.audit

/-- The position before, going back from 1 to 24. -/
def posBefore (i : PosId) : PosId := i - 1

/-- The audit timer of a column starts when its conditions come to hold; when they cease to, it stops, its AUDIT
requests are removed and the pointer goes before the earliest-placed of them (R37, R39). -/
def Part.followAudit (p : Part) (c : ColId) : Part :=
  match p.auditRuns c, (p.column c).auditNext with
  | true, none => p.updColumn c fun col => { col with auditNext := some (p.uptime + Config.auditPeriod) }
  | true, some _ => p
  | false, none => p
  | false, some _ => p.updColumn c fun col =>
    { col with
      auditNext := none
      readList := col.readList.filter fun r => r.purpose != .audit
      auditPointer := match col.readList.find? fun r => r.purpose == .audit with
        | some r => posBefore r.pos
        | none => col.auditPointer }

def Part.followAudits (p : Part) : Part := allCols.foldl Part.followAudit p

/-- A slot is auditable (R38). -/
def Part.auditable (p : Part) (s : SlotId) : Bool :=
  let col := p.column s.col
  let r := p.record s
  (match r.custody with
    | .held _ _ _ _ => true
    | .foreign _ _ _ => true
    | .unread _ => true
    | .empty => false
    | .releasing _ _ _ _ _ => false)
  && !r.outOfService
  && !(col.readList.any fun q => q.pos == s.pos)
  && !(col.reader.any fun rd => rd.pos == s.pos)
  && !p.staffSlotOn s

/-- The positions of an audit walk: from the one after the pointer round to the pointer's own (R38). -/
def auditWalk (pointer : PosId) : List PosId := allPos.map fun i => pointer + 1 + i

/-- The audit tick: the first auditable slot of the walk gets an AUDIT request and the pointer (R38). -/
def Part.auditStep (p : Part) (c : ColId) : Part :=
  match (auditWalk (p.column c).auditPointer).find? fun i => p.auditable { col := c, pos := i } with
  | none => p
  | some i => p.updColumn c fun col => { col.place i .audit with auditPointer := i }

end Sys2Proof.Machine
end

