-- ==== Sys2Proof/Machine/Scheduler.lean ====
section
/-! DEFINITION. The release scheduler: the power budget, eligibility and selection (R60 to R65), the strike (R66, R69),
acceptance (R57, R59) and the ending of a release (R75). -/

namespace Sys2Proof.Machine

/-! ## Power budget (R62) -/

/-- The strike allowance of a mode (R62). -/
def Mode.allowance : Mode → Nat
  | .mains => 4
  | .reserve => 1
  | .lowReserve => 1

/-- The strike window of a mode (R62). -/
def Mode.window : Mode → Ms
  | .mains => 2000
  | .reserve => 5000
  | .lowReserve => 5000

/-- The hold limit of a mode (R62). -/
def Mode.holdLimit : Mode → Nat
  | .mains => 6
  | .reserve => 2
  | .lowReserve => 1

/-- The rank of a request: STAFF 0, PRIORITY 1, STANDARD 2; an aged STANDARD request ranks as PRIORITY (R64). -/
def Part.rank (p : Part) (r : Release) : Nat :=
  match r.cls with
  | .staff => 0
  | .priority => 1
  | .standard => if r.submit + p.late.settings.aging * 1000 ≤ p.uptime then 1 else 2

/-- The ranks a mode starts (R62). -/
def Mode.starts : Mode → Nat → Bool
  | .mains, _ => true
  | .reserve, rank => decide (rank ≤ 1)
  | .lowReserve, rank => decide (rank = 0)

/-- A charge lies within a window that ends at the current uptime (R63). -/
def Strike.within (k : Strike) (window now : Ms) : Bool := decide (now < k.charged + window)

/-- The strikes charged within the window of the mode in force (R63). -/
def Part.charges (p : Part) : Nat :=
  (p.sched.strikes.filter fun k => k.within p.supply.mode.window p.uptime).length

/-- The releases VERIFYING or OPEN (R61). -/
def Scheduler.inFlight (d : Scheduler) : Nat := (d.queue.filter Release.inFlight).length

/-! ## Eligibility and selection -/

/-- A column is free: RUNNING, with no release VERIFYING or OPEN and no latch on its way (R61). -/
def Part.columnFree (p : Part) (c : ColId) : Bool :=
  (p.column c).engine == .running
    && !(p.sched.queue.any fun r => r.inFlight && r.slot.col == c)
    && !(p.column c).latchBusy

/-- A vehicle carries a hold (R50). -/
def Part.unitHeld (p : Part) (unit : Nat) : Bool := (p.findUnit unit).any fun v => v.hold.isSome

/-- A WAITING request is eligible (R61). -/
def Part.eligible (p : Part) (r : Release) : Bool :=
  r.isWaiting
    && p.columnFree r.slot.col
    && decide (p.sched.inFlight < p.supply.mode.holdLimit)
    && decide (p.charges < p.supply.mode.allowance)
    && p.supply.mode.starts (p.rank r)
    && !(r.target.unit.any p.unitHeld)
    && (p.lines.holdUntil.isNone || r.origin == .service)

/-- Request b wins over request a, which was accepted before it (R64). -/
def Part.beats (p : Part) (b a : Release) : Bool :=
  decide (p.rank b < p.rank a ∨ (p.rank b = p.rank a ∧ b.submit < a.submit))

/-- The winner of a selection: best rank, then earliest submit time, then first accepted (R64). -/
def Part.winner (p : Part) : Option Release :=
  (p.sched.queue.filter p.eligible).foldl
    (fun best r => match best with
      | none => some r
      | some a => if p.beats r a then some r else some a)
    none

/-- The strike command is issued and the request becomes OPEN (R66, R69). -/
def Part.openRelease (p : Part) (r : Release) : Part :=
  let p := p.strike r.slot
  let selected := match r.phase with
    | .waiting => p.uptime
    | .verifying t => t
    | .opened t _ _ _ => t
  p.updRelease r.number fun r =>
    { r with phase := .opened selected p.uptime (p.uptime + p.late.settings.window * 1000) false }

/-- The HELD record of a slot becomes RELEASING with the kind recorded (R10). -/
def Custody.released (kind : VehicleKind) : Custody → Custody
  | .held tag unit arrival f => .releasing tag unit arrival kind f
  | .empty => .empty
  | .unread m => .unread m
  | .foreign t r m => .foreign t r m
  | .releasing t u m k f => .releasing t u m k f

/-- A RELEASING record returns to HELD, its release kind dropped (R10). -/
def Custody.returned : Custody → Custody
  | .releasing tag unit arrival _ f => .held tag unit arrival f
  | .empty => .empty
  | .unread m => .unread m
  | .held t u m f => .held t u m f
  | .foreign t r m => .foreign t r m

/-- One request is selected: VERIFYING, a strike charged, and a VERIFY read placed, or for STAFF_SLOT the latch
struck at once (R65, R69). -/
def Part.selectOne (p : Part) (r : Release) : Part :=
  let charge : Strike := { charged := p.uptime, left := false }
  let p := { p with sched := { p.sched with strikes := p.sched.strikes ++ [charge] } }
  let p := p.updRelease r.number fun r => { r with phase := .verifying p.uptime }
  match r.target.vehicleKind with
  | some kind => (p.setCustody r.slot ((p.custody r.slot).released kind)).placeRead r.slot .verify
  | none => (p.requeueRead r.slot).openRelease { r with phase := .verifying p.uptime }

/-- Selections, one after another, until no WAITING request is eligible (R60). -/
def selectAll : Nat → Part → Part
  | 0, p => p
  | fuel + 1, p =>
    match p.winner with
    | none => p
    | some r => selectAll fuel (p.selectOne r)

/-- A selection (R60); none is made while start-up is in progress. -/
def Part.selection (p : Part) : Part := if p.isReady then selectAll p.sched.queue.length p else p

/-! ## Acceptance -/

/-- A request is accepted: numbered, added at the end of the queue as WAITING, and linked from its vehicle
(R57, R59, R42). The selection that follows is the caller's. -/
def Part.accept (p : Part) (target : Target) (slot : SlotId) (cls : ReleaseClass) (origin : Line) : Part × Nat :=
  let live := p.sched.queue.map (·.number)
  let n := freeNumber 255 live live.length p.sched.lastNumber
  let r : Release := { number := n, target := target, slot := slot, cls := cls, origin := origin, submit := p.uptime
                       phase := .waiting, aged := false }
  let p := { p with sched := { p.sched with
    queue := p.sched.queue ++ [r], lastNumber := n, ended := p.sched.ended.filter fun e => e.1 != n } }
  let p := match target.unit with
    | some u => p.updVehicle u fun v => { v with request := some n }
    | none => p
  (p, n)

/-! ## The ending of a release -/

/-- The outcomes after which a RELEASING record returns to HELD (R10). -/
def ReleaseOutcome.returnsRecord : ReleaseOutcome → Bool
  | .taken => false
  | .mismatch => false
  | .vehicleGone => false
  | .notTaken => true
  | .cancelled => true
  | .held => true
  | .unverified => true
  | .latchFault => true
  | .columnLost => true
  | .power => true

/-- An entry joins the ended list, which keeps the last 16 (R57). -/
def pushEnded (ended : List (Nat × ReleaseOutcome)) (e : Nat × ReleaseOutcome) : List (Nat × ReleaseOutcome) :=
  (ended ++ [e]).drop (ended.length + 1 - Config.endedCapacity)

/-- The request leaves the queue (R75 step 1). -/
def Part.leaveQueue (p : Part) (r : Release) (o : ReleaseOutcome) : Part :=
  { p with sched := { p.sched with
    queue := p.sched.queue.filter fun q => q.number != r.number
    ended := pushEnded p.sched.ended (r.number, o) } }

/-- What an ending does at the slot (R75 steps 2 and 3). -/
def Part.leaveSlot (p : Part) (r : Release) (o : ReleaseOutcome) : Part :=
  let p := match r.phase with
    | .waiting => p
    | .verifying _ => p.dropVerify r.slot
    | .opened _ _ _ _ => p.stopLatch r.slot
  if r.inFlight && r.target.vehicleKind.isSome && o.returnsRecord then
    p.setCustody r.slot (p.custody r.slot).returned
  else p

/-- The links an ending drops (R75 steps 4 and 5). -/
def Part.leaveLinks (p : Part) (r : Release) (o : ReleaseOutcome) : Part :=
  let p := match r.target.unit with
    | some u => p.updVehicle u fun v => { v with request := none }
    | none => p
  match r.target.contractNumber with
  | some n => if o = .taken then p else p.deleteContract n
  | none => p

/-- The ending of a live request with its outcome, in the order of R75. -/
def Part.endRelease (p : Part) (r : Release) (o : ReleaseOutcome) : Part :=
  let p := ((p.leaveQueue r o).leaveSlot r o).leaveLinks r o
  (p.notice (.releaseEnded (some r.number) r.target (some r.slot) o)).selection

/-- Every live request of a kind ends with an outcome. In which order several requests that one event ends do so is
left open (R20, R74, R76 step 1): the model takes queue order, which shows in the notice queue and the ended list
(DESIGN CHOICE, log entry 31). A request that an earlier ending has changed is taken as it then stands. -/
def Part.endAll (p : Part) (which : List Release) (o : ReleaseOutcome) : Part :=
  which.foldl
    (fun p r => match p.findRelease r.number with
      | none => p
      | some r => p.endRelease r o)
    p

/-- The live requests on a slot. -/
def Part.liveOn (p : Part) (s : SlotId) : List Release := p.sched.queue.filter fun r => r.slot == s

/-- The live requests of a vehicle. -/
def Part.liveOf (p : Part) (unit : Nat) : List Release :=
  p.sched.queue.filter fun r => r.target.unit == some unit

/-- The live STAFF_SLOT requests on a slot. -/
def Part.staffLiveOn (p : Part) (s : SlotId) : List Release :=
  p.sched.queue.filter fun r => r.target == .staffSlot && r.slot == s

end Sys2Proof.Machine
end

