-- ==== Sys2Proof/Machine/Custody.lean ====
section
/-! DEFINITION. The custody manager: arrivals, removals and takes (R7 to R9, R70), identification, binding, returns
and swaps (R29 to R36, R96 to R103), latch faults (R15). -/

namespace Sys2Proof.Machine

/-! ## Removals -/

/-- A bound vehicle leaves its slot without a release: STRAY, with FORCED_REMOVAL raised for it, and any live request
of it ended VEHICLE_GONE (R9, R34 step 1). -/
def Part.strayVehicle (p : Part) (unit : Nat) : Part :=
  let p := (p.setStatus unit .stray).raise .forcedRemoval (.vehicle unit)
  p.endAll (p.liveOf unit) .vehicleGone

/-- A forced removal at a slot, dated at the current minute (R9); the read request of the slot goes with it (R28). -/
def Part.forcedRemoval (p : Part) (s : SlotId) : Part :=
  let before := p.custody s
  let p := (p.setCustody s .empty).cancelReads s
  match before with
  | .empty => p
  | .held _ unit _ _ => (p.strayVehicle unit).endCondition .fobUnread (.slot s)
  | .releasing _ unit _ _ _ => (p.strayVehicle unit).endCondition .fobUnread (.slot s)
  | .foreign _ _ _ =>
    let p := ((p.raise .forcedRemoval (.slot s)).endForeignConditions s).endCondition .fobUnread (.slot s)
    p.endAll (p.staffLiveOn s) .vehicleGone
  | .unread _ =>
    let p := (p.raise .forcedRemoval (.slot s)).endCondition .fobUnread (.slot s)
    p.endAll (p.staffLiveOn s) .vehicleGone

/-- The vehicle of a take becomes OUT with the out reason of the release kind, and the contract of a CONTRACT request
becomes ACTIVE at the take minute (R70). -/
def Part.takeVehicle (p : Part) (target : Target) (take : Minute) : Part :=
  match target with
  | .contract unit number => (p.setStatus unit (.out .contract)).activateContract number take
  | .movement unit => p.setStatus unit (.out .movement)
  | .staffVehicle unit => p.setStatus unit (.out .staff)
  | .staffSlot => p

/-- A removal at the slot of an OPEN release: the take (R8, R70). -/
def Part.take (p : Part) (s : SlotId) (r : Release) : Part :=
  let p := (p.setCustody s .empty).cancelReads s
  let p := p.takeVehicle r.target p.minute
  let p := match r.target with
    | .staffSlot => p.endForeignConditions s
    | .contract _ _ => p
    | .movement _ => p
    | .staffVehicle _ => p
  (p.endCondition .fobUnread (.slot s)).endRelease r .taken

/-- A qualified removal at a slot (R8). -/
def Part.removal (p : Part) (s : SlotId) : Part :=
  match p.custody s, p.openOn s with
  | .empty, _ => p.cancelReads s
  | .releasing _ _ _ _ _, some r => p.take s r
  | .foreign _ _ _, some r => p.take s r
  | .unread _, some r => p.take s r
  | .held _ _ _ _, some _ => p.forcedRemoval s
  | .held _ _ _ _, none => p.forcedRemoval s
  | .releasing _ _ _ _ _, none => p.forcedRemoval s
  | .foreign _ _ _, none => p.forcedRemoval s
  | .unread _, none => p.forcedRemoval s

/-- A qualified arrival at a slot, dated at the current minute (R7). -/
def Part.arrival (p : Part) (s : SlotId) : Part :=
  let p := if p.custody s = .empty then p else p.forcedRemoval s
  (p.setCustody s (.unread p.minute)).placeRead s .arrival

/-! ## Binding and returns -/

/-- What a return does beyond the slot, by the vehicle's status before the binding (R96 to R100). -/
def Part.returnEffects (p : Part) (s : SlotId) (v : Vehicle) (arrived : Minute) : Part :=
  match v.status with
  | .out .contract => match v.contract with
    | some n => p.closeContract n arrived (.slot s)
    | none => p
  | .out .movement => p.notice (.arrival s v.unit arrived v.status)
  | .out .staff => p.notice (.arrival s v.unit arrived v.status)
  | .away => p.notice (.arrival s v.unit arrived v.status)
  | .stray => p.endCondition .forcedRemoval (.vehicle v.unit)
  | .dropped entry => p.removeEntry entry
  | .inSlot _ => p

/-- The misplacement test (R101). -/
def Part.misplacement (p : Part) (s : SlotId) (unit : Nat) (arrived : Minute) : Part :=
  match p.findHome s with
  | none => p
  | some w =>
    if w.unit = unit then p
    else match w.status with
      | .out _ => p.notice (.misplaced s unit w.unit arrived)
      | .inSlot _ => p
      | .dropped _ => p
      | .stray => p
      | .away => p

/-- A slot is bound to a vehicle with its arrival minute: the record HELD, the vehicle IN, the return, the misplacement
test, and the end of a STAFF_SLOT request of the slot (R31, R69, R96, R101). -/
def Part.bind (p : Part) (s : SlotId) (v : Vehicle) (arrived : Minute) : Part :=
  let p := (p.setCustody s (.held v.tag v.unit arrived false)).setStatus v.unit (.inSlot s)
  let p := p.endCondition .fobUnknown (.slot s)
  let p := (p.returnEffects s v arrived).misplacement s v.unit arrived
  p.endAll (p.staffLiveOn s) .mismatch

/-- The record becomes FOREIGN and the alarm of its row of R30 is raised. -/
def Part.makeForeign (p : Part) (s : SlotId) (tag : Nat) (reason : ForeignReason) (arrived : Minute)
    (alarm : AlarmKind) : Part :=
  (p.setCustody s (.foreign tag reason arrived)).raise alarm (.slot s)

/-- An outcome handled as the identification of an arrival (R30). -/
def Part.identify (p : Part) (s : SlotId) (arrived : Minute) (outcome : ReadOutcome) : Part :=
  let p := match p.custody s with
    | .foreign _ _ _ => p.endForeignConditions s
    | .empty => p
    | .unread _ => p
    | .held _ _ _ _ => p
    | .releasing _ _ _ _ _ => p
  match outcome with
  | .unreadable => (p.setCustody s (.unread arrived)).raise .fobUnread (.slot s)
  | .good tag kind =>
    if kind != 1 then p.makeForeign s tag .wrongKind arrived .fobUnknown
    else match p.findTag tag with
      | none => p.makeForeign s tag .unknown arrived .fobUnknown
      | some v => match v.status with
        | .inSlot _ => p.makeForeign s tag .duplicate arrived .fobDuplicate
        | .out _ => p.bind s v arrived
        | .dropped _ => p.bind s v arrived
        | .stray => p.bind s v arrived
        | .away => p.bind s v arrived

/-- A swap at a slot, found by a read that ended GOOD with this tag and kind, in the order of R34. -/
def Part.swap (p : Part) (s : SlotId) (tag kind : Nat) : Part :=
  let p := match p.custody s with
    | .held _ unit _ _ => p.strayVehicle unit
    | .releasing _ unit _ _ _ => p.strayVehicle unit
    | .foreign _ _ _ => p.endForeignConditions s
    | .empty => p
    | .unread _ => p
  let p := p.setCustody s (.unread p.minute)
  (p.identify s p.minute (.good tag kind)).raise .fobSwap (.slot s)

/-! ## Read outcomes -/

/-- The read takes the column 'Read served RECHECK' of R35; a request of ARRIVAL serves a RECHECK placed for it too, and
leaves no trace of it (R26). A read of a FOREIGN slot that served AUDIT and VERIFY (its release ended and its vehicle was
retired while the audit read ran) stands in no column of R35: the model gives it that of 'AUDIT only' (DESIGN CHOICE, log
entry 30). -/
def Read.servedRecheck (rd : Read) : Bool :=
  (rd.purpose :: rd.also).any fun x => x.precedence == 2

/-- The outcome of a HELD slot (R33). -/
def Part.confirmHeld (p : Part) (s : SlotId) (tag unit : Nat) (arrived : Minute) (outcome : ReadOutcome) : Part :=
  match outcome with
  | .unreadable => (p.setCustody s (.held tag unit arrived true)).raise .fobUnread (.slot s)
  | .good t k =>
    if t = tag ∧ k = 1 then p.setCustody s (.held tag unit arrived false) else p.swap s t k

/-- The outcome of a FOREIGN slot, by the purposes its read served (R35). -/
def Part.confirmForeign (p : Part) (s : SlotId) (tag : Nat) (reason : ForeignReason) (arrived : Minute)
    (recheck : Bool) (outcome : ReadOutcome) : Part :=
  match outcome with
  | .unreadable => if recheck then p.identify s arrived .unreadable else p
  | .good t k =>
    if t != tag then p.swap s t k
    else if recheck then p.identify s arrived (.good t k)
    else if (reason == .unknown || reason == .retired) && k == 1 && (p.findTag t).isSome then
      p.identify s arrived (.good t k)
    else p

/-- The verification of a RELEASING slot whose release is VERIFYING (R36, R66, R67, R68). -/
def Part.verify (p : Part) (s : SlotId) (r : Release) (tag unit : Nat) (arrived : Minute) (kind : VehicleKind)
    (outcome : ReadOutcome) : Part :=
  match outcome with
  | .unreadable =>
    ((p.setCustody s (.releasing tag unit arrived kind true)).raise .fobUnread (.slot s)).endRelease r .unverified
  | .good t k =>
    if t = tag ∧ k = 1 then (p.setCustody s (.releasing tag unit arrived kind false)).openRelease r
    else (p.endRelease r .mismatch).swap s t k

/-- A read outcome of a slot, handled by the state of the record at the moment the read ends (R29). -/
def Part.readOutcome (p : Part) (s : SlotId) (recheck : Bool) (outcome : ReadOutcome) : Part :=
  let p := match outcome with
    | .good _ _ => p.endCondition .fobUnread (.slot s)
    | .unreadable => p
  match p.custody s with
  | .empty => p
  | .unread arrived => p.identify s arrived outcome
  | .held tag unit arrived _ => p.confirmHeld s tag unit arrived outcome
  | .foreign tag reason arrived => p.confirmForeign s tag reason arrived recheck outcome
  | .releasing tag unit arrived kind _ =>
    match p.verifyingOn s with
    | none => p
    | some r => p.verify s r tag unit arrived kind outcome

/-! ## Latch faults -/

/-- The slot's presence is not watched any longer: no qualified level and no candidate (R4, R6). -/
def SlotEngine.unqualified (e : SlotEngine) : SlotEngine := { e with qualified := none, candidate := none }

/-- A latch fault of a slot (R15). -/
def Part.latchFault (p : Part) (s : SlotId) : Part :=
  let p := p.updSlot s fun x =>
    { record := { x.record with latchFault := true, outOfService := true }
      engine := { x.engine.unqualified with latch := none } }
  let p := (p.cancelReads s).raise .latchFault (.slot s)
  p.endAll (p.liveOn s) .latchFault

end Sys2Proof.Machine
end

