-- ==== Sys2Proof/Machine/Reconcile.lean ====
section
/-! DEFINITION. The comparison of a slot with its record (R6, R159, R160), the entry of a column into RECONCILING
(R19, R158) and into RUNNING (R19), its loss (R20), and the settling of a handling: what the engines do by themselves
once a handling has left them free to. -/

namespace Sys2Proof.Machine

/-- A HELD slot found absent (R6, R159). -/
def Part.foundGone (p : Part) (s : SlotId) (unit : Nat) : Part :=
  let p := (p.setCustody s .empty).setStatus unit .stray
  (p.raise .forcedRemoval (.vehicle unit)).endCondition .fobUnread (.slot s)

/-- A FOREIGN or UNREAD slot found absent (R6, R159). -/
def Part.foundEmpty (p : Part) (s : SlotId) : Part :=
  ((p.setCustody s .empty).endForeignConditions s).endCondition .fobUnread (.slot s)

/-- A RECHECK read is placed and the slot waits for it to be reconciled (R158, R159). -/
def Part.placeRecheck (p : Part) (s : SlotId) : Part :=
  p.updColumn s.col fun col => { col.place s.pos .recheck with unreconciled := col.unreconciled ++ [s.pos] }

/-- A settlement is counted for the RECONCILED notice while start-up is in progress (R157). -/
def Part.countSettled (p : Part) (taken : Bool) : Part :=
  if p.inStartUp then
    if taken then { p with supply := { p.supply with settledTaken := p.supply.settledTaken + 1 } }
    else { p with supply := { p.supply with settledPower := p.supply.settledPower + 1 } }
  else p

/-- What a settled release was for: the kind the record kept, its vehicle, and for CONTRACT the number that the
vehicle's open contract link names (R160). -/
def Part.settledTarget (p : Part) (kind : VehicleKind) (unit : Nat) : Target :=
  match kind with
  | .contract => .contract unit (((p.findUnit unit).bind (·.contract)).getD 0)
  | .movement => .movement unit
  | .staffVehicle => .staffVehicle unit

/-- The settlement of a RELEASING slot whose fob is present: outcome POWER (R160). -/
def Part.settlePower (p : Part) (s : SlotId) (unit : Nat) (kind : VehicleKind) : Part :=
  let target := p.settledTarget kind unit
  let p := p.setCustody s (p.custody s).returned
  let p := match target.contractNumber with
    | some n => (p.deleteContract n).dropContractLink unit
    | none => p
  ((p.notice (.releaseEnded none target (some s) .power)).countSettled false).placeRecheck s

/-- The settlement of a RELEASING slot whose fob is absent: taken at the reconciliation minute (R160, R85). -/
def Part.settleTaken (p : Part) (s : SlotId) (unit : Nat) (kind : VehicleKind) (minute : Minute) : Part :=
  let target := p.settledTarget kind unit
  let p := (p.setCustody s .empty).endCondition .fobUnread (.slot s)
  let p := p.takeVehicle target minute
  (p.notice (.releaseEnded none target (some s) .taken)).countSettled true

/-- A slot is compared with its record at reconciliation (R159, R160). -/
def Part.compareSlot (p : Part) (s : SlotId) (minute : Minute) : Part :=
  match p.custody s, (p.engine s).contact with
  | .empty, false => p
  | .empty, true => (p.setCustody s (.unread minute)).placeRecheck s
  | .unread _, true => p.placeRecheck s
  | .foreign _ _ _, true => p.placeRecheck s
  | .held _ _ _ _, true => p.placeRecheck s
  | .held _ unit _ _, false => p.foundGone s unit
  | .unread _, false => p.foundEmpty s
  | .foreign _ _ _, false => p.foundEmpty s
  | .releasing _ unit _ kind _, true => p.settlePower s unit kind
  | .releasing _ unit _ kind _, false => p.settleTaken s unit kind minute

/-- A slot returned to service is compared with its record (R6). -/
def Part.compareReturned (p : Part) (s : SlotId) : Part :=
  match p.custody s, (p.engine s).contact with
  | .empty, false => p
  | .empty, true => p.arrival s
  | .unread _, true => p.placeRead s .recheck
  | .foreign _ _ _, true => p.placeRead s .recheck
  | .held _ _ _ _, true => p.placeRead s .recheck
  | .held _ unit _ _, false => p.foundGone s unit
  | .unread _, false => p.foundEmpty s
  | .foreign _ _ _, false => p.foundEmpty s
  | .releasing _ _ _ _ _, _ => p

/-- A slot as its column enters RECONCILING: reachable, its latch CLOSED, and, in service, its qualified level the
contact level seen at that moment (R158 steps 2 to 4). -/
def Slot.reconciling (now : Ms) (x : Slot) : Slot :=
  let x := Slot.closeLatch now { x with record := { x.record with unreachable := false } }
  let qualified := if x.record.outOfService then none else some x.engine.contact
  { x with engine := { x.engine with qualified := qualified, candidate := none } }

/-- A column enters RECONCILING: its slots are prepared and compared in position order (R158). -/
def Part.enterReconciling (p : Part) (c : ColId) : Part :=
  let minute := p.minute
  let p := p.updColumn c fun col =>
    { col.mapSlots (Slot.reconciling p.uptime) with
      engine := .reconciling, reconMinute := minute, readList := [], reader := none, unreconciled := [] }
  allPos.foldl
    (fun p i =>
      let s : SlotId := { col := c, pos := i }
      if (p.record s).outOfService then p else p.compareSlot s minute)
    p

/-- A column whose slots are all reconciled enters RUNNING: its audit timer starts, the COLUMN_LOST condition ends and
a selection is made (R19, R37, R60). -/
def Part.enterRunning (p : Part) (c : ColId) : Part :=
  let col := p.column c
  if col.engine == .reconciling && col.unreconciled.isEmpty then
    let p := (p.updColumn c fun col => { col with engine := .running }).followAudit c
    (p.endCondition .columnLost (.column c)).selection
  else p

/-- A slot of a column that is lost: unreachable, without qualified level, candidate or latch state (R20). -/
def Slot.lost (x : Slot) : Slot :=
  { record := { x.record with unreachable := true }
    engine := { x.engine.unqualified with latch := none } }

/-- A column engine enters LOST (R20). -/
def Part.loseColumn (p : Part) (c : ColId) : Part :=
  let p := p.updColumn c fun col =>
    { col.mapSlots Slot.lost with
      engine := .lost, readList := [], reader := none, unreconciled := [], auditNext := none
      nextProbe := p.uptime + Config.probePeriod }
  let p := p.endAll (p.sched.queue.filter fun r => r.slot.col == c) .columnLost
  p.raise .columnLost (.column c)

/-- A handling settles: columns whose slots are all reconciled enter RUNNING, idle readers start what they can, and
the drives are decided (R19, R27, R146, R168; log entry 7). A halted part only releases its drives. -/
def Part.settle (p : Part) : Part :=
  if p.halted then p.decideDrives
  else ((allCols.foldl Part.enterRunning p).startReaders).decideDrives

/-- An event whose handling is settled; where it does not concern the part as it stands, nothing happens. -/
def State.handle (f : Part → Option Part) (s : State) : Host.Outcome State Fault Refusal :=
  s.event fun p => (f p).map Part.settle

end Sys2Proof.Machine
end

