-- ==== Sys2Proof/Machine/Power.lean ====
section
/-! DEFINITION. Supply modes (R149 to R151, R76, R77), the stop (R152), start-up (R154, R81, R118) and what FACTORY
CLEAR writes (R161). -/

namespace Sys2Proof.Machine

/-! ## Mode changes -/

/-- The marks of the strike charges that have left the window of the mode in force (R63, R77). -/
def Part.markCharges (p : Part) : Part :=
  { p with sched := { p.sched with
    strikes := p.sched.strikes.map fun k => { k with left := !k.within p.supply.mode.window p.uptime } } }

/-- The supply alarms follow a mode change (R151 step 3). -/
def Part.supplyAlarms (p : Part) (old new : Mode) : Part :=
  let p := if old = .lowReserve ∧ new ≠ .lowReserve then p.endCondition .supplyLow .supply else p
  match new with
  | .mains => p.endCondition .supplyReserve .supply
  | .reserve => if old = .mains then p.raise .supplyReserve .supply else p
  | .lowReserve => p.raise .supplyLow .supply

/-- The VERIFYING release that a smaller hold limit ends first: the latest selected, the later accepted among equals
(R76 step 2). -/
def Part.latestVerifying (p : Part) : Option Release :=
  p.sched.queue.foldl
    (fun best r => match r.phase with
      | .verifying t => match best with
        | some (u, a) => if u ≤ t then some (t, r) else some (u, a)
        | none => some (t, r)
      | .waiting => best
      | .opened _ _ _ _ => best)
    (none : Option (Ms × Release)) |>.map (·.2)

/-- The OPEN release that a smaller hold limit ends first: the latest struck, the later accepted among equals
(R76 step 3). -/
def Part.latestStruck (p : Part) : Option Release :=
  p.sched.queue.foldl
    (fun best r => match r.phase with
      | .opened _ t _ _ => match best with
        | some (u, a) => if u ≤ t then some (t, r) else some (u, a)
        | none => some (t, r)
      | .waiting => best
      | .verifying _ => best)
    (none : Option (Ms × Release)) |>.map (·.2)

/-- Releases end POWER until the hold limit is kept: VERIFYING ones first, then OPEN ones (R76 steps 2 and 3). -/
def shed : Nat → Part → Part
  | 0, p => p
  | fuel + 1, p =>
    if p.sched.inFlight ≤ p.supply.mode.holdLimit then p
    else match p.latestVerifying.or p.latestStruck with
      | none => p
      | some r => shed fuel (p.endRelease r .power)

/-- The release scheduler follows a mode change (R76, R77). -/
def Part.shedReleases (p : Part) : Part :=
  let p := if p.supply.mode = .lowReserve then
    p.endAll (p.sched.queue.filter fun r => r.cls != .staff) .power else p
  (shed p.sched.queue.length p).selection

/-- A mode change, in the order of R151; the audits follow it from its first step (R39). -/
def Part.changeMode (p : Part) (new : Mode) : Part :=
  let old := p.supply.mode
  let p := { p with supply := { p.supply with mode := new } }
  let p := p.markCharges.followAudits
  let p := (p.notice (.supplyChanged old new)).flagSupplyChanged
  (p.supplyAlarms old new).shedReleases

/-- The mains timing of a mode for a level of the mains-present input: it runs while the input is away from the level
of the mode in force (R150). -/
def mainsTiming (mode : Mode) (present : Bool) (now : Ms) (running : Option Ms) : Option Ms :=
  match mode, present with
  | .mains, false => some (running.getD now)
  | .mains, true => none
  | .reserve, true => some (running.getD now)
  | .reserve, false => none
  | .lowReserve, true => some (running.getD now)
  | .lowReserve, false => none

/-- The battery timing for a reading: it runs while the reading is in the qualifying band of the other state (R149). -/
def batteryTiming (isLow : Bool) (millivolts : Nat) (now : Ms) (running : Option Ms) : Option Ms :=
  let inBand := if isLow then decide (Config.batteryHigh < millivolts) else decide (millivolts < Config.batteryLow)
  if inBand then some (running.getD now) else none

/-- The mode that a new battery state gives (R150). -/
def Mode.onBattery (isLow : Bool) : Mode → Option Mode
  | .mains => none
  | .reserve => if isLow then some .lowReserve else none
  | .lowReserve => if isLow then none else some .reserve

/-! ## The stop -/

/-- What every part of a slot that is not retained is at a stop: undriven and unwatched; its pins stay (R152, R153). -/
def Slot.volatileCleared (x : Slot) : Slot :=
  { x with engine := { x.engine.unqualified with latch := none, locateUntil := none } }

/-- The volatile state of a column (R25, R38, R153). -/
def Column.volatileCleared (col : Column) : Column :=
  { col.mapSlots Slot.volatileCleared with
    engine := .stopped, readList := [], reader := none, auditPointer := 23, auditNext := none, nextProbe := 0
    unreconciled := [], reconMinute := 0 }

def Part.mapColumns (p : Part) (f : ColId → Column → Column) : Part :=
  allCols.foldl (fun p c => p.updColumn c (f c)) p

/-- A line at a stop: its driver released and its receiver idle (R152); the reply of a request still held in the
buffer is not sent to its end. -/
def LineState.cut (l : LineState) : LineState :=
  { inFrame := false, buffer := none, reply := if l.buffer.isSome then none else l.reply, sendFrom := none }

/-- The stop of a loss of supply: reads, confirmations and candidates are abandoned, drives stop and outputs are
released, and the part halts (R152). -/
def Part.halt (p : Part) : Part :=
  let p := p.mapColumns fun _ col => col.volatileCleared
  Part.decideDrives { p with
    supply := { p.supply with phase := .halted }
    chute := { p.chute with flapLocked := true, drop := none, drive := none }
    lines := { p.lines with branch := p.lines.branch.cut, service := p.lines.service.cut } }

/-! ## Start-up -/

/-- Step 1 of start-up: every volatile value takes its start-up value, the straps are read and the supply monitor
makes its first decision (R149, R153, R154). A reply not yet sent to its end is cut off with its line (R152). -/
def Part.volatileStart (p : Part) (cause : Cause) (inputs : StartInputs) : Part :=
  let p := p.mapColumns fun _ col => col.volatileCleared
  let isLow := decide (p.supply.batteryPin < Config.batteryLow)
  let mode := if p.supply.mainsPin then .mains else if isLow then .lowReserve else .reserve
  { p with
    uptime := 0
    sched := { queue := [], lastNumber := 0, ended := [], strikes := [] }
    chute := { p.chute with flapLocked := true, drop := none, drive := none }
    late := { p.late with
      sweepNumber := 0, sweep := none, latestSweep := none, pendingBoundary := false, fullWalk := true }
    supply := { p.supply with
      phase := .starting cause, mode := mode, batteryIsLow := isLow, mainsSince := none, batterySince := none
      settledTaken := 0, settledPower := 0 }
    lines := { p.lines with
      branch := p.lines.branch.cut
      service := p.lines.service.cut
      notices := [], counter := 0, flags := Flags.clear, holdUntil := none
      unitAddress := inputs.straps.toNat + 1, baudOpen := inputs.baudOpen } }

/-- Every slot of a column unreachable or not. -/
def Column.setUnreachable (col : Column) (flag : Bool) : Column :=
  col.mapSlots fun x => { x with record := { x.record with unreachable := flag } }

/-- The probe of one port at start-up: the engine, the fitted set, the unreachable flags and the COLUMN_LOST alarm of
the table of R18. A port that answers is left to step 6. -/
def Part.probePort (inputs : StartInputs) (p : Part) (c : ColId) : Part :=
  if inputs.answers.getLsbD c.val then
    p.updColumn c fun col => { col.setUnreachable false with fitted := true }
  else if (p.column c).fitted then
    (p.updColumn c fun col =>
      { col.setUnreachable true with engine := .lost, nextProbe := p.uptime + Config.probePeriod }).raise
        .columnLost (.column c)
  else p.updColumn c fun col => col.setUnreachable true

/-- The count as it reads before the clock check, where the backup supply failed: a free value (log entry 8). -/
def Part.clockStopped (p : Part) (backupFailed : Bool) : Part :=
  if backupFailed then { p with late := { p.late with count := Config.stoppedCount p.late.count } } else p

/-- The clock check of start-up (R118). A count resumed from the retained minute begins that minute's first second
afresh: R118 gives the second and no fraction of it, the start at 0 ms is the model's (DESIGN CHOICE, log entry 4). -/
def Part.clockCheck (p : Part) (backupFailed : Bool) : Part :=
  if backupFailed then
    let late := { p.late with count := BitVec.ofNat 32 (p.late.retainedMinute * 60), subMs := 0 }
    if late.clock = .unset then { p with late := late }
    else Part.raise { p with late := { late with clock := .suspect } } .clockSuspect .clock
  else p

/-- The supply alarms are brought into line with the first decision (R154 step 4). -/
def Part.supplyAlarmsAtStart (p : Part) : Part :=
  let p := if p.supply.mode = .mains then p.endCondition .supplyReserve .supply else p.raise .supplyReserve .supply
  if p.supply.mode = .lowReserve then p.raise .supplyLow .supply else p.endCondition .supplyLow .supply

/-- The record of a contract in start-up: its mark and, PENDING, its release request dropped (R80). -/
def Contract.started (c : Contract) : Contract :=
  { c with
    mark := none
    state := match c.state with
      | .pending _ => .pending none
      | .active take level => .active take level }

/-- The slot that a vehicle's fob is in, while it is IN (R40). -/
def Vehicle.slot (v : Vehicle) : Option SlotId :=
  match v.status with
  | .inSlot s => some s
  | .out _ => none
  | .dropped _ => none
  | .stray => none
  | .away => none

/-- The slot's record is RELEASING with release kind CONTRACT (R81). -/
def Custody.releasingContract : Custody → Bool
  | .releasing _ _ _ .contract _ => true
  | .releasing _ _ _ .movement _ => false
  | .releasing _ _ _ .staffVehicle _ => false
  | .empty => false
  | .unread _ => false
  | .held _ _ _ _ => false
  | .foreign _ _ _ => false

/-- A PENDING contract is examined in start-up: kept while its slot waits for its settlement, else deleted with a
RELEASE_ENDED notice of outcome POWER (R81). -/
def Part.examinePending (p : Part) (c : Contract) : Part :=
  if c.isActive then p
  else
    let slot := (p.findUnit c.unit).bind Vehicle.slot
    if slot.any fun s => (p.custody s).releasingContract then p
    else
      ((p.deleteContract c.number).notice
        (.releaseEnded none (.contract c.unit c.number) slot .power)).countSettled false

/-- A vehicle record without its release request link (R43). -/
def Vehicle.unlinked (v : Vehicle) : Vehicle := { v with request := none }

/-- Step 5 of start-up: links, marks and requests are dropped, a full walk is requested and the PENDING contracts
examined (R43, R80, R81, R131). The order in which several PENDING contracts are examined, and so that of their
RELEASE_ENDED notices, is left open by R81 and R154: the model takes the order of the table, which is the order of
opening (DESIGN CHOICE, log entry 32). -/
def Part.prepareTables (p : Part) : Part :=
  let p := { p with
    fleet := p.fleet.map Vehicle.unlinked
    book := { p.book with contracts := p.book.contracts.map Contract.started }
    late := { p.late with fullWalk := true } }
  p.book.contracts.foldl Part.examinePending p

/-- Steps 1 to 6 of start-up (R154): what is left for later is the end of step 6 and STARTUP_COMPLETION. The order in
which step 2 probes the ports, and so that of several COLUMN_LOST records and notices, is left open by R18 and R154: the
model goes in column order (DESIGN CHOICE, log entry 20), as it does in step 6. -/
def Part.startUp (p : Part) (cause : Cause) (inputs : StartInputs) (backupFailed : Bool) : Part :=
  let p := (p.volatileStart cause inputs).clockStopped backupFailed
  let p := allCols.foldl (Part.probePort inputs) p
  let p := ((p.clockCheck backupFailed).supplyAlarmsAtStart).prepareTables
  let p := (allCols.filter fun c => inputs.answers.getLsbD c.val).foldl Part.enterReconciling p
  p.settle

/-- The columns of a property, column 1 in the least significant bit (Table 11.2, Note 1). -/
def Part.columnSet (p : Part) (f : Column → Bool) : BitVec 16 :=
  allCols.foldl (fun b c => if f (p.column c) then b ||| (1#16 <<< c.val) else b) 0#16

/-- The fitted column set (R18). -/
def Part.fittedSet (p : Part) : BitVec 16 := p.columnSet (·.fitted)

/-- The columns in LOST (R157). -/
def Part.lostSet (p : Part) : BitVec 16 := p.columnSet (·.engine == .lost)

/-- The number of fitted columns (R18). -/
def Part.fittedCount (p : Part) : Nat := (allCols.filter fun c => (p.column c).fitted).length

/-- The chute check (R115): the pocket is examined, and the flap lock decided. Row 2 names no moment at which the pocket
entry number of a recorded fob is dropped: the model drives the pocket and drops the number where R104 and R106 do, when
the pocket reports empty, so that a stop before the fob falls does not make it recorded twice (DEDUCED, log entry 38). -/
def Part.chuteCheck (p : Part) (attempts : List (List Byte)) : Part :=
  let recorded := p.chute.pocketEntry.any fun n => p.chute.log.any fun e => e.number == n
  let p := if !p.chute.pocketFob then { p with chute := { p.chute with pocketEntry := none } }
    else if recorded then
      { p with chute := { p.chute with drive := some { since := p.uptime, driven := true } } }
    else p.handleDrop p.minute (readOutcomeOf attempts)
  p.checkFlap

/-- Steps 7 to 9 of start-up: the chute check, the RECONCILED notice and flag, and the end of STARTING (R154, R157). -/
def Part.completeStart (p : Part) (cause : Cause) (attempts : List (List Byte)) : Part :=
  let p := p.chuteCheck attempts
  let p := (p.notice (.reconciled cause p.supply.mode p.late.clock p.fittedSet p.lostSet
    p.supply.settledTaken p.supply.settledPower)).flagReconciled
  { p with supply := { p.supply with phase := .ready } }

/-! ## FACTORY CLEAR -/

/-- The retained records as FACTORY CLEAR writes them (R161). -/
def Part.factoryRecords (p : Part) : Part :=
  let p := p.mapColumns fun _ col =>
    { col.mapSlots (fun x => { x with record := SlotRecord.cleared }) with fitted := false }
  { p with
    fleet := []
    book := { contracts := [], closingSeq := 0, ring := [] }
    chute := { p.chute with log := [], lastEntry := 0, pocketEntry := none }
    alarm := { p.alarm with list := [], lastNumber := 0, overflow := false }
    late := { p.late with settings := Settings.defaults, clock := .unset, retainedMinute := p.minute } }

end Sys2Proof.Machine
end

