-- ==== Sys2Proof/Machine/Requests.lean ====
section
/-! DEFINITION. How a request is received, dispatched and answered (R162 to R165, R170), and the checks that requests
have in common. -/

namespace Sys2Proof.Machine

/-- What Table 11.2 and R164 say of a request kind. -/
structure KindRow where
  code : Byte
  /-- the one body length of the kind (R172) -/
  length : Nat
  /-- SERVICE HOLD and FACTORY CLEAR are not taken on the branch line (R164 row 3) -/
  serviceOnly : Bool
  /-- SET CLOCK, CONFIGURE and RESTART are taken by broadcast (R164) -/
  broadcast : Bool
deriving DecidableEq, Repr

/-- The row of a kind that either line may carry and that no broadcast carries. -/
def KindRow.plain (code : Byte) (length : Nat) : KindRow :=
  { code := code, length := length, serviceOnly := false, broadcast := false }

/-! ## Lines -/

def Part.line (p : Part) : Line → LineState
  | .branch => p.lines.branch
  | .service => p.lines.service

def Part.updLine (p : Part) (l : Line) (f : LineState → LineState) : Part :=
  match l with
  | .branch => { p with lines := { p.lines with branch := f p.lines.branch } }
  | .service => { p with lines := { p.lines with service := f p.lines.service } }

/-- The receiver of a line hunts for the next frame (R162). -/
def Part.hunt (p : Part) (l : Line) : Part := p.updLine l fun x => { x with inFrame := false }

/-- A valid frame with address 0x01 on the service line starts the hold timer again while the hold stands (R170). -/
def Part.restartHold (p : Part) (l : Line) : Part :=
  match l, p.lines.holdUntil with
  | .service, some _ => { p with lines := { p.lines with holdUntil := some (p.uptime + Config.holdTime) } }
  | .service, none => p
  | .branch, _ => p

/-- A valid frame addressed to the part has been received on a line (R162, R170). -/
def Part.hear (p : Part) (l : Line) : Part := (p.hunt l).restartHold l

/-- The address byte of a reply: 0x80 plus the unit address on the branch line, 0x81 on the service line (R165). -/
def Part.replyAddress (p : Part) : Line → Byte
  | .branch => BitVec.ofNat 8 (0x80 + p.lines.unitAddress)
  | .service => 0x81#8

/-- The uptime from which a reply built now is sent: a free value within the 20 ms of R165 (log entry 15). -/
def Part.sendMoment (p : Part) : Ms := p.uptime + Config.replyWait p.choices % (Config.replyWithin + 1)

/-- One more free choice has been made (log entries 3 and 15). -/
def Part.choiceMade (p : Part) : Part := { p with choices := p.choices + 1 }

/-- A reply is built for its line; the part begins to send it at a moment of its own, while the buffer still holds its
request (R163, R165). -/
def Part.reply (p : Part) (l : Line) (r : SentReply) : Part :=
  (p.updLine l fun x => { x with reply := some r, sendFrom := x.buffer.map fun _ => p.sendMoment }).choiceMade

/-- The branch line carries the part's own reply: from its start to its last byte the part drives the pair and receives
nothing (R163). The service line receives at all times. -/
def Part.deaf (p : Part) (l : Line) : Bool :=
  l == .branch && (p.line l).buffer.isSome && (p.line l).sendFrom.any fun t => decide (t ≤ p.uptime)

/-- The buffer of a line takes a request (R163). -/
def Part.buffered (p : Part) (l : Line) (c : Instr) : Part := p.updLine l fun x => { x with buffer := some c }

/-! ## Dispatch -/

/-- What a unicast request of a kind makes of the part and which reply it gets, by the rows 2 to 4 of R164; row 1 is
the command UNKNOWN_KIND's. -/
def Part.dispatch (p : Part) (k : KindRow) (h : ReqHdr) (body : Part → Part × Reply) : Part × Reply :=
  if h.bodyLen ≠ k.length then (p, .badLength)
  else if k.serviceOnly ∧ h.line = .branch then (p, .notPermitted)
  else body p

/-- A unicast request: discarded at an occupied buffer with LINE_OVERRUN set, else buffered, dispatched and answered
(R163, R164, R165). The buffer is freed when the last byte of the reply has been sent. -/
def Part.unicast (p : Part) (k : KindRow) (c : Instr) (h : ReqHdr) (body : Part → Part × Reply) : Part :=
  let heard := p.hear h.line
  if (p.line h.line).buffer.isSome then heard.flagLineOverrun
  else
    let done := (heard.buffered h.line c).dispatch k h body
    done.1.reply h.line { address := p.replyAddress h.line, kind := k.code, tag := h.tag, reply := done.2 }

/-- A broadcast request: taken further only where its kind and its length allow it, without a reply; its buffer is
free again when its handling ends (R163, R164). On the service line the address 0 is ignored (R163). -/
def Part.broadcast (p : Part) (k : KindRow) (h : ReqHdr) (body : Part → Part × Reply) : Part :=
  let heard := p.hunt h.line
  if h.line = .service ∨ k.broadcast = false ∨ h.bodyLen ≠ k.length then heard
  else if (p.line h.line).buffer.isSome then heard.flagLineOverrun
  else (body heard).1

/-- A valid frame that carries a request; a part that is halted receives nothing (R152), and the branch line receives
nothing while the part sends on it (R163). -/
def Part.request (p : Part) (k : KindRow) (c : Instr) (h : ReqHdr) (body : Part → Part × Reply) : Part :=
  if p.halted || p.deaf h.line then p
  else if h.broadcast then p.broadcast k h body
  else p.unicast k c h body

/-- The step a request makes. -/
def State.request (k : KindRow) (c : Instr) (h : ReqHdr) (body : Part → Part × Reply) (s : State) :
    Host.Outcome State Fault Refusal :=
  s.onPart fun p => p.request k c h body

/-! ## Checks -/

/-- The refusal of the first row whose condition holds. -/
def firstRefusal : List (Bool × Reply) → Option Reply
  | [] => none
  | (true, r) :: _ => some r
  | (false, _) :: rest => firstRefusal rest

/-- A request is refused by the first of these rows that applies, and changes nothing then (R165, Note 2); else it is
taken. -/
def Part.checked (p : Part) (rows : List (Bool × Reply)) (effect : Part → Part × Reply) : Part × Reply :=
  match firstRefusal rows with
  | some r => (p, r)
  | none => effect p

/-- The effect of a request that other blocks follow at the end of its handling (see `Part.settle`). -/
def settled (effect : Part → Part × Reply) (p : Part) : Part × Reply :=
  ((effect p).1.settle, (effect p).2)

/-- The effect of a request that moves no reader and no column: the drives alone are decided afresh at its end
(R146, R168). -/
def decided (effect : Part → Part × Reply) (p : Part) : Part × Reply :=
  ((effect p).1.decideDrives, (effect p).2)

/-- A service hold stands and the request came on the branch line (R170). -/
def Part.heldOff (p : Part) (l : Line) : Bool := l == .branch && p.lines.holdUntil.isSome

/-- The rows STARTING and SERVICE_HOLD of the requests that change custody, vehicles, contracts, settings or the clock
(R155, R170, R44, R58, R83, R87, R90, R147). -/
def Part.commandRows (p : Part) (l : Line) : List (Bool × Reply) :=
  [(p.inStartUp, .starting), (p.heldOff l, .serviceHold)]

/-- WRONG_STATE where the owning rule names no detail (R165, Note 1). -/
def wrongState : Reply := .wrongState .none

/-! ## Events -/

/-- An event that a halted part does not take (R152). -/
def State.live (f : Part → Option Part) (s : State) : Host.Outcome State Fault Refusal :=
  s.event fun p => if p.halted then none else f p

/-- What a line receives: nothing in a halt (R152), nor on the branch line while the part sends on it (R163). -/
def State.heard (l : Line) (f : Part → Option Part) (s : State) : Host.Outcome State Fault Refusal :=
  s.live fun p => if p.deaf l then none else f p

/-- An event that a halted part does not take and whose handling is settled (see `Part.settle`). -/
def State.liveHandle (f : Part → Option Part) (s : State) : Host.Outcome State Fault Refusal :=
  s.handle fun p => if p.halted then none else f p

/-- An event that a halted part does not take, after which the drives alone are decided afresh. -/
def State.liveDecide (f : Part → Option Part) (s : State) : Host.Outcome State Fault Refusal :=
  s.live fun p => (f p).map Part.decideDrives

end Sys2Proof.Machine
end

