-- ==== Sys2Proof/Machine/ColumnEvents.lean ====
section
/-! DEFINITION. Events of the column engines: loss and return of a board (R20, R21), the attempts of the readers
(R24, R29) and the audit tick (R38). -/

namespace Sys2Proof.Machine

/-- BOARD_SILENCE_TIMEOUT: the board has given no answer for 1 s (R20). -/
def execBoardSilenceTimeout (col : ColId) (s : State) : Host.Outcome State Fault Refusal :=
  s.liveHandle fun p => if (p.column col).engine.watches then some (p.loseColumn col) else none

/-- A probe of a LOST column: answered, the column enters RECONCILING; unanswered, the next falls 5 s later (R21). -/
def Part.probe (p : Part) (c : ColId) (answered : Bool) : Option Part :=
  if (p.column c).engine = .lost then
    let p := p.advanceTo (p.column c).nextProbe
    some (if answered then p.enterReconciling c
      else p.updColumn c fun col => { col with nextProbe := col.nextProbe + Config.probePeriod })
  else none

/-- COLUMN_PROBE (R21, R19, R158). -/
def execColumnProbe (col : ColId) (answered : Bool) (s : State) : Host.Outcome State Fault Refusal :=
  s.liveHandle fun p => p.probe col answered

/-- An attempt that brought fewer than six bytes has lasted its 40 ms (R23, R24). -/
def Part.attemptOver (p : Part) (since : Ms) (bytes : List Byte) : Part :=
  if bytes.length < 6 then p.advanceTo (since + Config.attemptTime) else p

/-- A read ends with its outcome: the reader is idle, the outcome is handled, and the slot counts as reconciled
(R24, R29, R158). -/
def Part.endRead (p : Part) (c : ColId) (rd : Read) (outcome : ReadOutcome) : Part :=
  let p := p.updColumn c fun col => { col with reader := none }
  let p := p.readOutcome { col := c, pos := rd.pos } rd.servedRecheck outcome
  p.updColumn c fun col => { col with unreconciled := col.unreconciled.filter fun i => i != rd.pos }

/-- The read in progress goes on with its next attempt (R24). -/
def Read.next (now : Ms) (rd : Read) : Read := { rd with attempt := rd.attempt + 1, since := now }

/-- An attempt of a column's reader ends with the bytes received in it (R23, R24). -/
def Part.attemptEnd (p : Part) (c : ColId) (bytes : List Byte) : Option Part :=
  match (p.column c).reader with
  | none => none
  | some rd =>
    let p := p.attemptOver rd.since bytes
    some <| match classify bytes with
      | .good tag kind => p.endRead c rd (.good tag kind)
      | _ =>
        if rd.attempt < Config.attempts then
          p.updColumn c fun col => { col with reader := some (rd.next p.uptime) }
        else p.endRead c rd .unreadable

/-- READ_ATTEMPT_END (R24, R29). -/
def execReadAttemptEnd (col : ColId) (bytes : List Byte) (s : State) : Host.Outcome State Fault Refusal :=
  s.liveHandle fun p => p.attemptEnd col bytes

/-- The audit tick of a column, at its moment; the next falls 5 s later (R37, R38). -/
def Part.tick (p : Part) (c : ColId) : Option Part :=
  match (p.column c).auditNext with
  | none => none
  | some t =>
    let p := p.advanceTo t
    some ((p.updColumn c fun col => { col with auditNext := some (t + Config.auditPeriod) }).auditStep c)

/-- AUDIT_TICK (R38). -/
def execAuditTick (col : ColId) (s : State) : Host.Outcome State Fault Refusal := s.liveHandle fun p => p.tick col

end Sys2Proof.Machine
end

