-- ==== Sys2Proof/Machine/ChuteEvents.lean ====
section
/-! DEFINITION. Events at the drop chute (R106 to R109). -/

namespace Sys2Proof.Machine

/-- A drop begins: the pocket holds a fob, the detection minute is the current one, and the mouth reader makes its
first attempt (R106). -/
def Part.beginDrop (p : Part) : Part :=
  { p with chute := { p.chute with
      pocketFob := true, drop := some { detected := p.minute, reading := some (1, p.uptime) } } }

/-- The flap passes a fob: it is unlocked, no drop is in progress and the pocket is not being emptied (R106, R110). -/
def Chute.open (c : Chute) : Bool := !c.flapLocked && c.drop.isNone && c.drive.isNone

/-- The mouth sensor shows a fob in the pocket, and no drop begins. -/
def Part.pocketFilled (p : Part) : Part := { p with chute := { p.chute with pocketFob := true } }

/-- DROP_DETECTED: a drop begins where start-up has ended and the flap passes fobs (R106). Until the chute check of a
start-up, and while the part is halted, no drop is detected and the fob stays in the pocket, where the check finds it
(R115, R152; log entry 2); a report at a flap that passes nothing moves the pin alone (log entry 22). -/
def execDropDetected (s : State) : Host.Outcome State Fault Refusal :=
  s.onPart fun p => if p.isReady && p.chute.open then p.beginDrop else p.pocketFilled

/-- An attempt of the mouth reader ends with the bytes received in it (R106, R24). -/
def Part.mouthAttempt (p : Part) (bytes : List Byte) : Option Part :=
  match p.chute.drop with
  | some { detected := detected, reading := some (n, since) } =>
    let p := p.attemptOver since bytes
    some <| match classify bytes with
      | .good tag kind => p.handleDrop detected (.good tag kind)
      | _ =>
        if n < Config.attempts then
          { p with chute := { p.chute with
            drop := some { detected := detected, reading := some (n + 1, p.uptime) } } }
        else p.handleDrop detected .unreadable
  | _ => none

/-- CHUTE_READ_ATTEMPT_END (R106, R107, R109). -/
def execChuteReadAttemptEnd (bytes : List Byte) (s : State) : Host.Outcome State Fault Refusal :=
  s.liveDecide fun p => p.mouthAttempt bytes

/-- The pocket is empty: a drive of it ends, and with it the drop in progress and the pocket entry number (R104, R106;
of a fob that the chute check found recorded too, R115, log entry 38). -/
def Chute.emptied (c : Chute) : Chute :=
  if c.drive.isSome then { c with pocketFob := false, drop := none, drive := none, pocketEntry := none }
  else { c with pocketFob := false }

/-- POCKET_EMPTY (R106). -/
def execPocketEmpty (s : State) : Host.Outcome State Fault Refusal :=
  s.onPart fun p => { p with chute := p.chute.emptied }

/-- The pocket's drive with another state. -/
def Part.setDrive (p : Part) (since : Ms) (driven : Bool) : Part :=
  { p with chute := { p.chute with drive := some { since := since, driven := driven } } }

/-- POCKET_DRIVE_TIMEOUT: the pocket still holds its fob after 2 s of drive, and the drive stops (R106). -/
def execPocketDriveTimeout (s : State) : Host.Outcome State Fault Refusal :=
  s.live fun p => match p.chute.drive with
    | some { since := t, driven := true } => some ((p.advanceTo (t + Config.pocketDrive)).setDrive t false)
    | _ => none

/-- POCKET_RETRY: the pocket is driven again, 5 s after the drive before it began (R106, log entry 10). -/
def execPocketRetry (s : State) : Host.Outcome State Fault Refusal :=
  s.live fun p => match p.chute.drive with
    | some { since := t, driven := false } =>
      let p := p.advanceTo (t + Config.pocketPeriod)
      some (p.setDrive p.uptime true)
    | _ => none

end Sys2Proof.Machine
end

