-- ==== Sys2Proof/Machine/Clock.lean ====
section
/-! DEFINITION. The commands on the branch clock and the settings: SET CLOCK (R119) and CONFIGURE (R121). -/

namespace Sys2Proof.Machine

/-! ## SET CLOCK -/

/-- The effects of a SET CLOCK, in the order of R119. The crystal's fraction of a second runs on; a second that had
run past a boundary not yet handled goes with the old count. -/
def Part.setClock (p : Part) (seconds : BitVec 32) : Part :=
  let p := { p with late := { p.late with count := seconds, subMs := p.late.subMs % 1000, clock := .set } }
  let p := p.endCondition .clockSuspect .clock
  { p with late := { p.late with retainedMinute := minuteOf seconds, pendingBoundary := false, fullWalk := true } }

/-- SET CLOCK (R119). R119 lists its refusals without an order: the model answers STARTING first (DESIGN CHOICE, log
entry 37). -/
def execSetClock (h : ReqHdr) (seconds : BitVec 32) (s : State) : Host.Outcome State Fault Refusal :=
  s.request { code := 0x10#8, length := 4, serviceOnly := false, broadcast := true } (.setClock h seconds) h fun p =>
    p.checked (p.commandRows h.line) (decided fun p => (p.setClock seconds, .done (.clock seconds)))

/-! ## CONFIGURE -/

/-- The marks of the requests that have reached the aging time as it now stands (log entry 5). -/
def Part.markAged (p : Part) : Part :=
  { p with sched := { p.sched with queue := p.sched.queue.map fun r =>
      { r with aged := decide (r.submit + p.late.settings.aging * 1000 ≤ p.uptime) } } }

/-- The settings replace the record in force, with what follows a change of them (R121): a full walk of the next
sweep, the audits, and a selection for a changed aging time. -/
def Part.configure (p : Part) (new : Settings) : Part :=
  let old := p.late.settings
  let walk := p.late.fullWalk
    || decide (¬ (new.grace = old.grace ∧ new.prewarn = old.prewarn ∧ new.t2 = old.t2 ∧ new.t3 = old.t3))
  let p := { p with late := { p.late with settings := new, fullWalk := walk } }
  let p := p.followAudits
  if new.aging = old.aging then p else p.markAged.selection

/-- CONFIGURE (R121). R121 lists its refusals without an order: the model answers BAD_FIELD first, then STARTING, then
SERVICE_HOLD (DESIGN CHOICE, log entry 37). -/
def execConfigure (h : ReqHdr) (grace prewarn : Byte) (t2 t3 : BitVec 16) (window : Byte) (aging : BitVec 16)
    (audit : Byte) (s : State) : Host.Outcome State Fault Refusal :=
  s.request { code := 0x11#8, length := 10, serviceOnly := false, broadcast := true }
    (.configure h grace prewarn t2 t3 window aging audit) h fun p =>
    p.checked ((decide (1 < audit.toNat), .badField 7) :: p.commandRows h.line) (settled fun p =>
      let new := clampedSettings grace prewarn t2 t3 window aging (audit == 1#8)
      (p.configure new, .done (.configured new)))

end Sys2Proof.Machine
end

