-- ==== Sys2Proof/Machine/Contracts.lean ====
section
/-! DEFINITION. The commands on contracts and releases: OPEN CONTRACT (R83, R84), EXTEND CONTRACT (R87, R88),
CLOSE CONTRACT (R90), RELEASE (R58, R59) and CANCEL RELEASE (R72). -/

namespace Sys2Proof.Machine

/-! ## Submission checks (R58) -/

/-- The vehicle is IN (R41). -/
def Vehicle.isIn (v : Vehicle) : Bool := v.slot.isSome

/-- The rows 10 and 11 of R58 for a slot. -/
def Part.slotRows (p : Part) (s : SlotId) : List (Bool × Reply) :=
  [((p.record s).outOfService, .wrongState .slotOutOfService), ((p.record s).unreachable, .wrongState .slotUnreachable)]

/-- The row 13 of R58. -/
def Part.queueRow (p : Part) : Bool × Reply := (decide (Config.queueCapacity ≤ p.sched.queue.length), .queueFull)

/-- The rows 5 to 13 of R58 for a vehicle; `second` says that a second request or contract is meant, and `reserved`
that the kind is not taken in LOW_RESERVE. -/
def Part.vehicleRows (p : Part) (v : Vehicle) (second reserved : Bool) : List (Bool × Reply) :=
  [(second, .duplicate), (!v.isIn, .wrongState .notIn), (v.hold.isSome, .onHold)]
    ++ (match v.slot with
      | some s => p.slotRows s
      | none => [])
    ++ [(reserved && p.supply.mode == .lowReserve, .reservePower), p.queueRow]

/-- The rows 5 and 8 to 13 of R58 for a STAFF_SLOT request. -/
def Part.staffSlotRows (p : Part) (s : SlotId) : List (Bool × Reply) :=
  [(!(p.staffLiveOn s).isEmpty, .duplicate),
   (p.custody s == .empty, .wrongState .slotEmpty),
   ((match p.custody s with
      | .held _ _ _ _ => true
      | .releasing _ _ _ _ _ => true
      | .empty => false
      | .unread _ => false
      | .foreign _ _ _ => false), .wrongState .slotBound)]
    ++ p.slotRows s ++ [p.queueRow]

/-- A request for a vehicle is accepted for the slot that holds its fob, and a selection is made (R55, R59). -/
def Part.acceptVehicle (p : Part) (v : Vehicle) (target : Target) (cls : ReleaseClass) (origin : Line) : Part × Nat :=
  match v.slot with
  | some s => p.accept target s cls origin
  | none => (p, 0)

/-! ## RELEASE -/

/-- The rows of R58 for the fields of RELEASE (R58 row 1, R172). Which index is answered where the unit number and the
slot are both wrong (one out of range, the other not the 0 it should be) is left open: the model answers that of the
unit number, 2, for every kind (DESIGN CHOICE, log entry 34). -/
def releaseRows (kind : Byte) (unit : BitVec 24) (slot : BitVec 16) : List (Bool × Reply) :=
  match releaseKind kind with
  | none => [(true, .badField 1)]
  | some .staffSlot => [(decide (unit.toNat ≠ 0), .badField 2), (!validSlot slot, .badField 3)]
  | some .movement => [(!validUnit unit, .badField 2), (decide (slot.toNat ≠ 0), .badField 3)]
  | some .staffVehicle => [(!validUnit unit, .badField 2), (decide (slot.toNat ≠ 0), .badField 3)]

/-- A vehicle release is submitted (R58, R59). -/
def Part.submitVehicle (p : Part) (unit : BitVec 24) (target : Target) (cls : ReleaseClass) (origin : Line)
    (reserved : Bool) : Part × Reply :=
  match p.findUnit unit.toNat with
  | none => (p, .notFound)
  | some v =>
    p.checked (p.vehicleRows v v.request.isSome reserved) (settled fun p =>
      let a := p.acceptVehicle v target cls origin
      (a.1.selection, .accepted a.2))

/-- A STAFF_SLOT release is submitted (R58, R59). -/
def Part.submitSlot (p : Part) (slot : BitVec 16) (origin : Line) : Part × Reply :=
  match slotField slot with
  | none => (p, .badField 3)
  | some s =>
    p.checked (p.staffSlotRows s) (settled fun p =>
      let a := p.accept .staffSlot s .staff origin
      (a.1.selection, .accepted a.2))

/-- RELEASE (R58, R59). -/
def execRelease (h : ReqHdr) (kind : Byte) (unit : BitVec 24) (slot : BitVec 16) (s : State) :
    Host.Outcome State Fault Refusal :=
  s.request (.plain 0x23#8 6) (.release h kind unit slot) h fun p =>
    p.checked (releaseRows kind unit slot ++ p.commandRows h.line) fun p =>
      match releaseKind kind with
      | some .movement => p.submitVehicle unit (.movement unit.toNat) .standard h.line true
      | some .staffVehicle => p.submitVehicle unit (.staffVehicle unit.toNat) .staff h.line false
      | some .staffSlot => p.submitSlot slot h.line
      | none => (p, .badField 1)

/-! ## CANCEL RELEASE -/

/-- A request named by CANCEL RELEASE (R72). -/
def Part.cancelRelease (p : Part) (number : Nat) : Part × Reply :=
  match p.findRelease number with
  | some r => settled (fun p => (p.endRelease r .cancelled, .done .bare)) p
  | none => match p.sched.ended.find? fun e => e.1 == number with
    | some e => (p, .tooLate e.2)
    | none => (p, .notFound)

/-- CANCEL RELEASE (R72). R72 lists its refusals without an order: the model answers BAD_FIELD first, then STARTING, then
SERVICE_HOLD (DESIGN CHOICE, log entry 37). -/
def execCancelRelease (h : ReqHdr) (number : Byte) (s : State) : Host.Outcome State Fault Refusal :=
  s.request (.plain 0x24#8 1) (.cancelRelease h number) h fun p =>
    p.checked ((decide (number.toNat = 0), .badField 1) :: p.commandRows h.line) fun p => p.cancelRelease number.toNat

/-! ## OPEN CONTRACT -/

/-- The class of the release request of a contract (R55). -/
def RenterClass.releaseClass : RenterClass → ReleaseClass
  | .standard => .standard
  | .priority => .priority

/-- The terms that an OPEN CONTRACT carries for its contract. -/
structure Terms where
  number : Nat
  cls : RenterClass
  due : Minute
  hourRate : Nat
  dayRate : Nat
  grace : Option Nat
deriving DecidableEq, Repr

/-- The record an OPEN CONTRACT makes (R84 step 1; R79, Note 3). -/
def Terms.record (t : Terms) (unit : Nat) (now : Minute) : Contract :=
  { number := t.number, unit := unit, cls := t.cls, due := t.due, grace := t.grace, hourRate := t.hourRate
    dayRate := t.dayRate, openMinute := now, state := .pending none, charge := 0, capped := false, hours := 0
    mark := none }

/-- A contract record with its release request. -/
def Contract.withRequest (n : Nat) (c : Contract) : Contract := { c with state := .pending (some n) }

/-- An OPEN CONTRACT that passes every check is taken, in the order of R84. -/
def Part.openContract (p : Part) (v : Vehicle) (t : Terms) (origin : Line) : Part × Reply :=
  let p := { p with book := { p.book with contracts := p.book.contracts ++ [t.record v.unit p.minute] } }
  let a := p.acceptVehicle v (.contract v.unit t.number) t.cls.releaseClass origin
  let p := a.1.updContract t.number (Contract.withRequest a.2)
  let p := p.updVehicle v.unit fun w => { w with contract := some t.number }
  (p.selection, .accepted a.2)

/-- The rows 1 to 7 of R83. -/
def Part.openRows (p : Part) (h : ReqHdr) (contract : BitVec 32) (unit : BitVec 24) (cls : Byte) (due : BitVec 32)
    (dayRate : BitVec 32) : List (Bool × Reply) :=
  [(!validContract contract, .badField 1), (!validUnit unit, .badField 2), ((renterClass cls).isNone, .badField 3),
   (!validDayRate dayRate, .badField 6)] ++ p.commandRows h.line ++
  [(p.late.clock == .unset, .clockUnset), (!dueAhead due.toNat p.minute, .badField 4),
   ((p.findContract contract.toNat).isSome, .duplicate),
   (decide (Config.contractCapacity ≤ p.book.contracts.length), .tableFull)]

/-- OPEN CONTRACT (R83, R84). -/
def execOpenContract (h : ReqHdr) (contract : BitVec 32) (unit : BitVec 24) (cls : Byte) (due : BitVec 32)
    (hourRate : BitVec 16) (dayRate : BitVec 32) (grace : Byte) (s : State) : Host.Outcome State Fault Refusal :=
  s.request (.plain 0x20#8 19) (.openContract h contract unit cls due hourRate dayRate grace) h fun p =>
    p.checked (p.openRows h contract unit cls due dayRate) fun p =>
      match p.findUnit unit.toNat with
      | none => (p, .notFound)
      | some v =>
        let t : Terms :=
          { number := contract.toNat, cls := (renterClass cls).getD .standard, due := due.toNat
            hourRate := hourRate.toNat, dayRate := dayRate.toNat, grace := graceField grace }
        p.checked (p.vehicleRows v (v.request.isSome || v.contract.isSome) true) (settled fun p =>
          p.openContract v t h.line)

/-! ## EXTEND CONTRACT -/

/-- The contract a request names; NOT_FOUND where no open contract has the number (R87 row 4, R90 row 4). -/
def Part.withContract (p : Part) (contract : BitVec 32) (effect : Contract → Part × Reply) : Part × Reply :=
  match p.findContract contract.toNat with
  | none => (p, .notFound)
  | some c => effect c

/-- The level and the charge of an ACTIVE contract, for the reply of EXTEND CONTRACT (R88). -/
def Contract.standing (c : Contract) : Option (Level × Nat) := c.level.map fun l => (l, c.charge)

/-- The due minute is replaced; an ACTIVE contract is evaluated at the current minute and marked, and its level change
handled (R88). -/
def Part.extend (p : Part) (number : Nat) (due : Minute) : Part :=
  (p.updContract number fun c => { c with due := due }).examine number p.minute

/-- EXTEND CONTRACT (R87, R88). -/
def execExtendContract (h : ReqHdr) (contract : BitVec 32) (due : BitVec 32) (s : State) :
    Host.Outcome State Fault Refusal :=
  s.request (.plain 0x21#8 8) (.extendContract h contract due) h fun p =>
    p.checked ((!validContract contract, .badField 1) :: p.commandRows h.line) fun p =>
      p.withContract contract fun c =>
        p.checked [(!dueAhead due.toNat p.minute, .badField 2)] (decided fun p =>
          let q := p.extend c.number due.toNat
          (q, .done (.extended ((q.findContract c.number).bind Contract.standing))))

/-! ## CLOSE CONTRACT -/

/-- An ACTIVE contract is closed by hand and its vehicle becomes AWAY (R89, R90). -/
def Part.closeByHand (p : Part) (c : Contract) (reason : ManualReason) : Part :=
  (p.closeContract c.number p.minute (.manual reason)).setStatus c.unit .away

/-- CLOSE CONTRACT (R90). -/
def execCloseContract (h : ReqHdr) (contract : BitVec 32) (reason : Byte) (s : State) :
    Host.Outcome State Fault Refusal :=
  s.request (.plain 0x22#8 5) (.closeContract h contract reason) h fun p =>
    p.checked
      ([(!validContract contract, .badField 1), ((manualReason reason).isNone, .badField 2)]
        ++ p.commandRows h.line) fun p =>
      p.withContract contract fun c =>
        p.checked [(!c.isActive, .wrongState .pending)] (decided fun p =>
          let q := p.closeByHand c ((manualReason reason).getD .keyLost)
          (q, .done (.closing q.book.closingSeq)))

end Sys2Proof.Machine
end

