-- ==== Sys2Proof/Machine/Fleet.lean ====
section
/-! DEFINITION. The commands on the fleet table (R44 to R53): ENROL VEHICLE, RETIRE VEHICLE, SET HOME SLOT,
HOLD VEHICLE, UNHOLD VEHICLE, ACCOUNT VEHICLE and LOCATE. -/

namespace Sys2Proof.Machine

/-- The vehicle a request names by unit number; NOT_FOUND where there is none (R44 row 4). -/
def Part.withVehicle (p : Part) (unit : BitVec 24) (effect : Vehicle → Part × Reply) : Part × Reply :=
  match p.findUnit unit.toNat with
  | none => (p, .notFound)
  | some v => effect v

/-- The rows 1 to 3 of R44 of a request that names a vehicle alone. -/
def Part.fleetRows (p : Part) (l : Line) (unit : BitVec 24) : List (Bool × Reply) :=
  (!validUnit unit, .badField 1) :: p.commandRows l

/-! ## ENROL VEHICLE -/

/-- A FOREIGN record with reason UNKNOWN that holds a tag (R45 step 1). -/
def Custody.unknownTag (tag : Nat) : Custody → Bool
  | .foreign t .unknown _ => t == tag
  | .foreign _ .duplicate _ => false
  | .foreign _ .wrongKind _ => false
  | .foreign _ .retired _ => false
  | .empty => false
  | .unread _ => false
  | .held _ _ _ _ => false
  | .releasing _ _ _ _ _ => false

/-- The slots that an enrolment of a tag may adopt, lowest number first (R45 step 1, R46). -/
def Part.adoptable (p : Part) (tag : Nat) : List SlotId :=
  (p.slotList.filter fun x =>
    x.2.record.custody.unknownTag tag && !x.2.record.unreachable && !x.2.record.outOfService).map (·.1)

/-- An UNKNOWN chute entry that holds a tag (R45 step 2). -/
def ChuteEntry.unknownTag (tag : Nat) (e : ChuteEntry) : Bool := e.kind == .unknown tag

/-- A FOREIGN record bound to a vehicle by adoption: tag and arrival minute kept (R46). -/
def Custody.adopted (unit : Nat) : Custody → Custody
  | .foreign tag _ arrived => .held tag unit arrived false
  | .empty => .empty
  | .unread m => .unread m
  | .held t u m f => .held t u m f
  | .releasing t u m k f => .releasing t u m k f

/-- A FOREIGN record that becomes DUPLICATE: tag and arrival minute kept (R46). -/
def Custody.duplicated : Custody → Custody
  | .foreign tag _ arrived => .foreign tag .duplicate arrived
  | .empty => .empty
  | .unread m => .unread m
  | .held t u m f => .held t u m f
  | .releasing t u m k f => .releasing t u m k f

/-- A further slot of the enrolled tag, found afresh to be a duplicate (R46). -/
def Part.makeDuplicate (p : Part) (s : SlotId) : Part :=
  ((p.setCustody s (p.custody s).duplicated).endCondition .fobUnknown (.slot s)).raise .fobDuplicate (.slot s)

/-- An UNKNOWN chute entry whose tag is accounted for elsewhere becomes CONFLICT (R46, R47). -/
def Part.makeConflict (tag : Nat) (p : Part) (entry : Nat) : Part :=
  (p.updEntry entry fun e => { e with kind := .conflict tag }).raise .fobDuplicate (.entry entry)

/-- The numbers of the UNKNOWN entries that hold a tag, in drop order. -/
def Chute.unknownEntries (c : Chute) (tag : Nat) : List Nat := (c.log.filter (ChuteEntry.unknownTag tag)).map (·.number)

/-- Adoption of a slot, with the other slots and the entries of the tag (R46, R69). In which order several further slots
and several entries are handled is left open: the model takes ascending slot number, then log order (DESIGN CHOICE, log
entry 36). -/
def Part.adoptSlot (p : Part) (unit tag : Nat) (s : SlotId) (others : List SlotId) : Part :=
  let p := (p.setCustody s ((p.custody s).adopted unit)).setStatus unit (.inSlot s)
  let p := p.endCondition .fobUnknown (.slot s)
  let p := others.foldl Part.makeDuplicate p
  let p := ((p.chute.unknownEntries tag).foldl (Part.makeConflict tag) p).decideFlap
  p.endAll (p.staffLiveOn s) .mismatch

/-- Adoption of a chute entry, with the later entries of the tag (R47). In which order several later entries become
CONFLICT is left open: the model takes log order (DESIGN CHOICE, log entry 36). -/
def Part.adoptEntry (p : Part) (unit tag entry : Nat) (later : List Nat) : Part :=
  let p := (p.updEntry entry fun e => { e with kind := .named tag unit }).setStatus unit (.dropped entry)
  (later.foldl (Part.makeConflict tag) p).decideFlap

/-- A record is made for a vehicle and what the part has seen of its tag is adopted (R45). -/
def Part.enrol (p : Part) (unit tag : Nat) (home : Option SlotId) : Part :=
  let v : Vehicle := { unit := unit, tag := tag, status := .away, home := home, hold := none, contract := none
                       request := none, lastChange := p.minute }
  let p := { p with fleet := p.fleet ++ [v] }
  match p.adoptable tag with
  | s :: others => p.adoptSlot unit tag s others
  | [] => match p.chute.unknownEntries tag with
    | entry :: later => p.adoptEntry unit tag entry later
    | [] => p

/-- The refusals of ENROL VEHICLE after the common ones (R45). -/
def Part.enrolRows (p : Part) (unit tag : Nat) (home : Option SlotId) : List (Bool × Reply) :=
  [((p.findUnit unit).isSome, .duplicate),
   ((p.findTag tag).isSome, .duplicate),
   (home.any fun s => (p.findHome s).isSome, .duplicate),
   (decide (Config.fleetCapacity ≤ p.fleet.length), .tableFull)]

/-- The status an enrolled vehicle has. -/
def Part.statusOf (p : Part) (unit : Nat) : VehicleStatus := ((p.findUnit unit).map (·.status)).getD .away

/-- ENROL VEHICLE (R44 to R47). -/
def execEnrolVehicle (h : ReqHdr) (unit : BitVec 24) (tagId : BitVec 32) (home : BitVec 16) (s : State) :
    Host.Outcome State Fault Refusal :=
  s.request (.plain 0x12#8 9) (.enrolVehicle h unit tagId home) h fun p =>
    p.checked
      ([(!validUnit unit, .badField 1), (!validTag tagId.toNat, .badField 2),
        (decide (384 < home.toNat), .badField 3)] ++ p.commandRows h.line
        ++ p.enrolRows unit.toNat tagId.toNat (slotField home))
      (settled fun p =>
        let p := p.enrol unit.toNat tagId.toNat (slotField home)
        (p, .done (.enrolled (p.statusOf unit.toNat))))

/-! ## RETIRE VEHICLE -/

/-- The record of the slot of a retired vehicle (R48). -/
def Custody.retired : Custody → Custody
  | .held tag _ arrived _ => .foreign tag .retired arrived
  | .releasing tag _ arrived _ _ => .foreign tag .retired arrived
  | .empty => .empty
  | .unread m => .unread m
  | .foreign t r m => .foreign t r m

/-- A vehicle may be retired: AWAY, or IN with neither an open contract nor a live request (R48). -/
def Vehicle.retirable (v : Vehicle) : Bool :=
  match v.status with
  | .away => true
  | .inSlot _ => v.contract.isNone && v.request.isNone
  | .out _ => false
  | .dropped _ => false
  | .stray => false

/-- The record of a vehicle leaves the fleet table, and its slot becomes FOREIGN(RETIRED) (R48). -/
def Part.retire (p : Part) (v : Vehicle) : Part :=
  let p := match v.slot with
    | some s => p.setCustody s (p.custody s).retired
    | none => p
  { p with fleet := p.fleet.filter fun w => w.unit != v.unit }

/-- RETIRE VEHICLE (R44, R48). -/
def execRetireVehicle (h : ReqHdr) (unit : BitVec 24) (s : State) : Host.Outcome State Fault Refusal :=
  s.request (.plain 0x13#8 3) (.retireVehicle h unit) h fun p =>
    p.checked (p.fleetRows h.line unit) fun p => p.withVehicle unit fun v =>
      p.checked [(!v.retirable, wrongState)] fun p => (p.retire v, .done .bare)

/-! ## SET HOME SLOT -/

/-- Another vehicle names the slot as its home slot (R49). -/
def Part.homeTaken (p : Part) (unit : Nat) (home : Option SlotId) : Bool :=
  home.any fun s => p.fleet.any fun w => w.home == some s && w.unit != unit

/-- SET HOME SLOT (R44, R49). -/
def execSetHomeSlot (h : ReqHdr) (unit : BitVec 24) (slot : BitVec 16) (s : State) :
    Host.Outcome State Fault Refusal :=
  s.request (.plain 0x14#8 5) (.setHomeSlot h unit slot) h fun p =>
    p.checked
      ([(!validUnit unit, .badField 1), (decide (384 < slot.toNat), .badField 2)] ++ p.commandRows h.line) fun p =>
      p.withVehicle unit fun v =>
        p.checked [(p.homeTaken v.unit (slotField slot), .duplicate)] fun p =>
          (p.updVehicle v.unit fun w => { w with home := slotField slot }, .done .bare)

/-! ## HOLD VEHICLE and UNHOLD VEHICLE -/

/-- The outcome that a hold gives a live request of its vehicle (R50, R73). -/
def Release.heldOutcome (r : Release) : ReleaseOutcome := if r.isOpen then .cancelled else .held

/-- A live request of a vehicle now held ends (R50). A request that an earlier ending has changed is taken as it then
stands. -/
def Part.endHeld (p : Part) (r : Release) : Part :=
  match p.findRelease r.number with
  | none => p
  | some r => p.endRelease r r.heldOutcome

/-- A STAFF hold is set, and the live request of the vehicle ends (R50). -/
def Part.holdVehicle (p : Part) (unit : Nat) : Part :=
  let p := p.updVehicle unit fun v => { v with hold := some .staff }
  (p.liveOf unit).foldl Part.endHeld p

/-- HOLD VEHICLE (R44, R50). -/
def execHoldVehicle (h : ReqHdr) (unit : BitVec 24) (s : State) : Host.Outcome State Fault Refusal :=
  s.request (.plain 0x15#8 3) (.holdVehicle h unit) h fun p =>
    p.checked (p.fleetRows h.line unit) fun p => p.withVehicle unit fun v =>
      settled (fun p => (p.holdVehicle v.unit, .done .bare)) p

/-- The hold of a vehicle is dropped, whatever its source, and a selection is made (R51, R60). -/
def Part.unholdVehicle (p : Part) (unit : Nat) : Part :=
  (p.updVehicle unit fun v => { v with hold := none }).selection

/-- UNHOLD VEHICLE (R44, R51). -/
def execUnholdVehicle (h : ReqHdr) (unit : BitVec 24) (s : State) : Host.Outcome State Fault Refusal :=
  s.request (.plain 0x16#8 3) (.unholdVehicle h unit) h fun p =>
    p.checked (p.fleetRows h.line unit) fun p => p.withVehicle unit fun v =>
      settled (fun p => (p.unholdVehicle v.unit, .done .bare)) p

/-! ## ACCOUNT VEHICLE -/

/-- A vehicle may be accounted for (R52). -/
def Vehicle.accountable (v : Vehicle) : Bool :=
  match v.status with
  | .stray => true
  | .out .movement => true
  | .out .staff => true
  | .out .contract => false
  | .inSlot _ => false
  | .dropped _ => false
  | .away => false

/-- The vehicle becomes AWAY, and its FORCED_REMOVAL condition ends where it was STRAY (R52). -/
def Part.account (p : Part) (v : Vehicle) : Part :=
  let q := p.setStatus v.unit .away
  if v.status = .stray then q.endCondition .forcedRemoval (.vehicle v.unit) else q

/-- ACCOUNT VEHICLE (R44, R52). -/
def execAccountVehicle (h : ReqHdr) (unit : BitVec 24) (s : State) : Host.Outcome State Fault Refusal :=
  s.request (.plain 0x17#8 3) (.accountVehicle h unit) h fun p =>
    p.checked (p.fleetRows h.line unit) fun p => p.withVehicle unit fun v =>
      p.checked [(!v.accountable, wrongState)] (decided fun p => (p.account v, .done .bare))

/-! ## LOCATE -/

/-- The LOCATE timer of a slot starts, or starts again, at 30 s (R53). -/
def Part.startLocate (p : Part) (s : SlotId) : Part :=
  p.updEngine s fun e => { e with locateUntil := some (p.uptime + Config.locateTime) }

/-- The slot of a vehicle that LOCATE names: its slot while IN, else its home slot (R53). -/
def Vehicle.located (v : Vehicle) : Option SlotId := v.slot.or v.home

/-- The timer of the slot found starts; a vehicle that is not IN and has no home slot is refused (R53). -/
def Part.locate (p : Part) (slot : Option SlotId) : Part × Reply :=
  match slot with
  | none => (p, wrongState)
  | some s => (p.startLocate s, .done (.located s))

/-- LOCATE (R53, R44, R172). -/
def execLocate (h : ReqHdr) (unit : BitVec 24) (slot : BitVec 16) (s : State) : Host.Outcome State Fault Refusal :=
  s.request (.plain 0x18#8 5) (.locate h unit slot) h fun p =>
    p.checked
      [(!oneSelector unit.toNat slot.toNat, .badField 1), (decide (999999 < unit.toNat), .badField 1),
       (decide (384 < slot.toNat), .badField 2)]
      fun p =>
        if unit.toNat = 0 then p.locate (slotField slot)
        else p.withVehicle unit fun v => p.locate v.located

end Sys2Proof.Machine
end

