-- ==== Sys2Proof/Machine/Frames.lean ====
section
/-! DEFINITION. What the lines' receivers and buffers do besides taking requests (R162, R163, R164): UNKNOWN KIND, the
discarded, abandoned and ignored frames, LINE_OVERRUN and the end of a reply. -/

namespace Sys2Proof.Machine

/-- A valid frame addressed to the part whose kind byte names no request kind (R164 row 1). No body length is wrong
for it, and a broadcast of it is ignored. -/
def execUnknownKind (h : ReqHdr) (kind : Byte) (s : State) : Host.Outcome State Fault Refusal :=
  s.request (.plain kind h.bodyLen) (.unknownKind h kind) h fun p => (p, .unknownKind)

/-- The receiver of a line goes back to hunting, without a reply or a flag (R162). -/
def Part.passOver (p : Part) (l : Line) : Option Part := some (p.hunt l)

/-- A complete frame whose CRC differs is discarded (R162). -/
def execFrameDiscarded (line : Line) (s : State) : Host.Outcome State Fault Refusal :=
  s.heard line fun p => p.passOver line

/-- A byte gap over 5 ms or a missing stop bit abandons a frame in progress (R162); a gap needs no receiver that hears,
so a reply that begins inside a frame leaves none in progress. -/
def execFrameGapTimeout (line : Line) (s : State) : Host.Outcome State Fault Refusal := s.live fun p => p.passOver line

/-- A valid frame not addressed to the part, or a broadcast of a kind not taken, is ignored (R163, R164). -/
def execFrameIgnored (line : Line) (s : State) : Host.Outcome State Fault Refusal :=
  s.heard line fun p => p.passOver line

/-- A length byte above 240 abandons the frame in progress (R162). -/
def execFrameLengthAbandoned (line : Line) (s : State) : Host.Outcome State Fault Refusal :=
  s.heard line fun p => p.passOver line

/-- A 0x7E byte received while hunting begins a frame; inside a frame it is a byte like any other (R162). -/
def execSyncByteBeginsFrame (line : Line) (s : State) : Host.Outcome State Fault Refusal :=
  s.heard line fun p => some (p.updLine line fun x => { x with inFrame := true })

/-- A request addressed to the part completes while its line's buffer is occupied: it is discarded and LINE_OVERRUN is
set (R163). -/
def execLineOverrun (line : Line) (s : State) : Host.Outcome State Fault Refusal :=
  s.heard line fun p => if (p.line line).buffer.isSome then some (p.hear line).flagLineOverrun else none

/-- The last byte of a reply has been sent: the buffer of its line is empty again (R163). -/
def execReplySent (line : Line) (s : State) : Host.Outcome State Fault Refusal :=
  s.live fun p => some (p.updLine line fun x => { x with buffer := none, sendFrom := none })

end Sys2Proof.Machine
end

