-- ==== Sys2Proof/Machine/Queries.lean ====
section
/-! DEFINITION. The queries: IDENTIFY, STATUS, FETCH NOTICES, READ SLOT, READ VEHICLE, READ CONTRACT, LIST DUE,
LIST CLOSED, LIST CHUTE, LIST ALARMS and READ SETTINGS. -/

namespace Sys2Proof.Machine

/-! ## IDENTIFY -/

/-- The reply of IDENTIFY (R171); the vendor code, the names and the revision are constants of its layout. -/
def Part.identity (p : Part) : ReplyData :=
  .identify p.lines.unitAddress p.lines.baudOpen p.fittedSet (24 * p.fittedCount)

/-- IDENTIFY (R171). -/
def execIdentify (h : ReqHdr) (s : State) : Host.Outcome State Fault Refusal :=
  s.request (.plain 0x01#8 0) (.identify h) h fun p => (p, .done p.identity)

/-! ## STATUS -/

/-- What a STATUS reply carries (R169). -/
def Part.report (p : Part) : StatusReport :=
  { mode := p.supply.mode
    ready := p.isReady
    hold := p.lines.holdUntil.isSome
    clock := p.late.clock
    live := p.sched.queue.length
    opened := (p.sched.queue.filter Release.isOpen).length
    contracts := p.book.contracts.length
    alarms := p.alarm.list.length
    inChute := p.chute.inChute
    notices := p.lines.notices.length
    flags := p.lines.flags }

/-- STATUS: the reply shows the flags, and all six are cleared in its handling (R169). -/
def execStatus (h : ReqHdr) (s : State) : Host.Outcome State Fault Refusal :=
  s.request (.plain 0x02#8 0) (.status h) h fun p => (p.setFlags fun _ => Flags.clear, .done (.status p.report))

/-! ## FETCH NOTICES -/

/-- The notices that still fit: taken in queue order while the next one fits within `room` bytes and fewer than `left`
more have been taken (R167, R173). -/
def fitting : Nat → Nat → List Notice → List Notice
  | _, _, [] => []
  | 0, _, _ :: _ => []
  | left + 1, room, n :: rest =>
    if n.bytes.length ≤ room then n :: fitting left (room - n.bytes.length) rest else []

/-- The notices a FETCH NOTICES takes: at most 6, in a body whose status, remaining and returned bytes leave 237. -/
def LineController.fetched (l : LineController) : List Notice := fitting Config.fetchLimit (Config.bodyLimit - 3) l.notices

/-- The oldest notices leave the queue with the reply that carries them (R167). -/
def Part.fetch (p : Part) : Part × Reply :=
  let taken := p.lines.fetched
  let left := p.lines.notices.drop taken.length
  (Part.decideDrives { p with lines := { p.lines with notices := left } }, .done (.notices left.length taken))

/-- FETCH NOTICES (R167). -/
def execFetchNotices (h : ReqHdr) (s : State) : Host.Outcome State Fault Refusal :=
  s.request (.plain 0x03#8 0) (.fetchNotices h) h Part.fetch

/-! ## READ SLOT -/

/-- The records of `count` consecutive slots from slot number `first`. -/
def Part.slotRun (p : Part) (first count : Nat) : List SlotRecord :=
  ((List.range count).filterMap fun i => slotOfNumber (first + i)).map p.record

/-- READ SLOT (R164, Note 1). Note 1 says 'the index of the field concerned': a run that passes slot 384 is refused at the
count, and of a first slot and a count both out of range the first slot is answered, index 1 (DESIGN CHOICE, log
entry 9). -/
def execReadSlot (h : ReqHdr) (first : BitVec 16) (count : Byte) (s : State) : Host.Outcome State Fault Refusal :=
  s.request (.plain 0x04#8 3) (.readSlot h first count) h fun p =>
    p.checked
      [(!validSlot first, .badField 1),
       (decide (count.toNat = 0 ∨ 16 < count.toNat), .badField 2),
       (decide (385 < first.toNat + count.toNat), .badField 2)]
      fun p => (p, .done (.slots first.toNat (p.slotRun first.toNat count.toNat)))

/-! ## READ VEHICLE -/

/-- The vehicle that a READ VEHICLE names. -/
def Part.selectedVehicle (p : Part) (unit : BitVec 24) (tagId : BitVec 32) : Option Vehicle :=
  if unit.toNat = 0 then p.findTag tagId.toNat else p.findUnit unit.toNat

/-- READ VEHICLE (R54, R44, R172). -/
def execReadVehicle (h : ReqHdr) (unit : BitVec 24) (tagId : BitVec 32) (s : State) :
    Host.Outcome State Fault Refusal :=
  s.request (.plain 0x05#8 7) (.readVehicle h unit tagId) h fun p =>
    p.checked
      [(!oneSelector unit.toNat tagId.toNat, .badField 1),
       (decide (999999 < unit.toNat), .badField 1),
       (decide (tagId.toNat = 4294967295), .badField 2)]
      fun p => match p.selectedVehicle unit tagId with
        | none => (p, .notFound)
        | some v => (p, .done (.vehicle v))

/-! ## Contract queries -/

/-- The position of a contract in the due list, counted from 1 at the head; none while PENDING (R93). -/
def ContractTable.duePosition (b : ContractTable) (number : Nat) : Option Nat :=
  (b.dueList.findIdx? fun c => c.number == number).map (· + 1)

/-- READ CONTRACT (R93). -/
def execReadContract (h : ReqHdr) (contract : BitVec 32) (s : State) : Host.Outcome State Fault Refusal :=
  s.request (.plain 0x06#8 4) (.readContract h contract) h fun p =>
    p.checked [(!validContract contract, .badField 1)] fun p =>
      match p.findContract contract.toNat with
      | none => (p, .notFound)
      | some c => (p, .done (.contract c (p.book.duePosition c.number)))

/-- A page of a list: `size` entries from the position `start`, counted from 1. -/
def page {α : Type} (size start : Nat) (list : List α) : List α := (list.drop (start - 1)).take size

/-- LIST DUE (R94). -/
def execListDue (h : ReqHdr) (start : BitVec 16) (s : State) : Host.Outcome State Fault Refusal :=
  s.request (.plain 0x07#8 2) (.listDue h start) h fun p =>
    p.checked [(decide (start.toNat = 0), .badField 1)] fun p =>
      (p, .done (.due p.book.dueList.length (page 12 start.toNat p.book.dueList)))

/-- The steps forward from one closing sequence number to another, in the order of assignment 1 to 4,294,967,295 and
on to 1 (R91, R95). -/
def sequenceSteps (a b : Nat) : Nat := (b + 4294967295 - a) % 4294967295

/-- The records of a ring from the sequence number given on (R95): all of them for 0 and for a number below the oldest
held; none for one that lies 1 to 2,147,483,647 steps forward of the newest. -/
def ringFrom (ring : List ClosingRecord) (given : Nat) : List ClosingRecord :=
  match ring.head?, ring.getLast? with
  | some oldest, some newest =>
    let place := sequenceSteps oldest.sequence given
    let beyond := sequenceSteps newest.sequence given
    if given = 0 then ring
    else if place ≤ sequenceSteps oldest.sequence newest.sequence then
      ring.dropWhile fun r => decide (sequenceSteps oldest.sequence r.sequence < place)
    else if 1 ≤ beyond ∧ beyond ≤ 2147483647 then []
    else ring
  | _, _ => []

/-- The reply of LIST CLOSED (R95, R173). -/
def ContractTable.closedPage (b : ContractTable) (given : Nat) : ReplyData :=
  let records := (ringFrom b.ring given).take 8
  .closed b.ring.length (b.ring.head?.map (·.sequence)) (b.ring.getLast?.map (·.sequence))
    (records.head?.map (·.sequence)) records

/-- LIST CLOSED (R95). -/
def execListClosed (h : ReqHdr) (sequence : BitVec 32) (s : State) : Host.Outcome State Fault Refusal :=
  s.request (.plain 0x08#8 4) (.listClosed h sequence) h fun p => (p, .done (p.book.closedPage sequence.toNat))

/-! ## LIST CHUTE -/

/-- The reply of LIST CHUTE (R114). -/
def Chute.page (c : Chute) (start : Nat) : ReplyData :=
  .chute c.log.length c.inChute c.flapLocked c.drop.isSome (Machine.page 10 start c.log)

/-- LIST CHUTE (R114). -/
def execListChute (h : ReqHdr) (start : Byte) (s : State) : Host.Outcome State Fault Refusal :=
  s.request (.plain 0x09#8 1) (.listChute h start) h fun p =>
    p.checked [(decide (start.toNat = 0), .badField 1)] fun p => (p, .done (p.chute.page start.toNat))

/-! ## LIST ALARMS -/

/-- A record put at its place in ascending order of alarm number. -/
def insertAlarm (a : Alarm) : List Alarm → List Alarm
  | [] => [a]
  | b :: rest => if a.number ≤ b.number then a :: b :: rest else b :: insertAlarm a rest

/-- The alarm records in ascending order of alarm number (R144). -/
def AlarmUnit.ascending (a : AlarmUnit) : List Alarm := a.list.foldr insertAlarm []

/-- The reply of LIST ALARMS (R144). -/
def AlarmUnit.page (a : AlarmUnit) (start : Nat) : ReplyData :=
  .alarms a.list.length a.overflow ((a.ascending.filter fun r => decide (start ≤ r.number)).take 8)

/-- LIST ALARMS (R144). -/
def execListAlarms (h : ReqHdr) (start : BitVec 16) (s : State) : Host.Outcome State Fault Refusal :=
  s.request (.plain 0x0A#8 2) (.listAlarms h start) h fun p => (p, .done (p.alarm.page start.toNat))

/-! ## READ SETTINGS -/

/-- The reply of READ SETTINGS (R120). -/
def Lateness.reading (l : Lateness) : ReplyData :=
  .settings l.settings l.count l.clock l.sweepNumber l.latestSweep l.sweep.isSome

/-- READ SETTINGS (R120). -/
def execReadSettings (h : ReqHdr) (s : State) : Host.Outcome State Fault Refusal :=
  s.request (.plain 0x0B#8 0) (.readSettings h) h fun p => (p, .done p.late.reading)

end Sys2Proof.Machine
end

