-- ==== Sys2Proof/Machine/SlotEvents.lean ====
section
/-! DEFINITION. Events at slots: presence contacts and their candidates (R4 to R9), latch sense reports and the
confirmations of the latches (R12 to R15). The pins of a slot follow the outside whatever the part does with them. -/

namespace Sys2Proof.Machine

/-! ## Presence -/

/-- The candidate of a slot after its contact is seen at a level (R4). -/
def SlotEngine.seen (e : SlotEngine) (now : Ms) (present : Bool) : SlotEngine :=
  match e.qualified with
  | none => e
  | some q => { e with candidate := if present = q then none else some (e.candidate.getD now) }

/-- A removal candidate is in progress on the slot (R6, R71). -/
def SlotEngine.removing (e : SlotEngine) : Bool := e.qualified == some true && e.candidate.isSome

/-- The OPEN release of a slot whose take deadline has passed with a candidate in progress (R71). -/
def Part.passedOn (p : Part) (s : SlotId) : Option Release :=
  (p.openOn s).filter fun r => match r.phase with
    | .opened _ _ _ passed => passed
    | .waiting => false
    | .verifying _ => false

/-- A contact is seen at a level (R4); the drop of a removal candidate ends a release whose deadline has passed
(R71). -/
def Part.contactSeen (p : Part) (s : SlotId) (present : Bool) : Part :=
  let before := p.engine s
  let p := p.updEngine s fun e => { e with contact := present }
  if p.halted then p
  else
    let p := p.updEngine s fun e => e.seen p.uptime present
    if before.removing && !(p.engine s).removing then
      match p.passedOn s with
      | some r => (p.endRelease r .notTaken).settle
      | none => p
    else p

/-- PRESENCE_CONTACT_CHANGE (R4, R71). -/
def execPresenceContactChange (slot : SlotId) (present : Bool) (s : State) : Host.Outcome State Fault Refusal :=
  s.onPart fun p => p.contactSeen slot present

/-- A candidate qualifies: the qualified level becomes its level, and the event goes to the custody manager (R5). -/
def Part.qualify (p : Part) (s : SlotId) : Option Part :=
  match (p.engine s).qualified, (p.engine s).candidate with
  | some q, some t =>
    let p := p.advanceTo (t + p.supply.mode.qualifyTime)
    let p := p.updEngine s fun e => { e with qualified := some (!q), candidate := none }
    some (if q then p.removal s else p.arrival s)
  | _, _ => none

/-- CANDIDATE_QUALIFIED (R5, R7, R8, R9, R70). -/
def execCandidateQualified (slot : SlotId) (s : State) : Host.Outcome State Fault Refusal :=
  s.liveHandle fun p => p.qualify slot

/-! ## Latches -/

/-- A latch in CLOSING (R13). -/
def Latch.isClosing : Latch → Bool
  | .closing _ => true
  | .closed _ => false
  | .striking _ => false
  | .heldOpen _ => false

/-- A sense report reaches the supervision of a latch; a latch that reaches CLOSED from CLOSING may free its column,
which is an event of selection (R12, R13, R14, R60). -/
def Part.senseSeen (p : Part) (s : SlotId) (isOpen : Bool) : Part :=
  let p := p.updEngine s fun e => { e with senseOpen := isOpen }
  if p.halted then p
  else
    let closing := (p.engine s).latch.any Latch.isClosing
    let p := p.updLatch s (Latch.sensed p.uptime isOpen)
    if closing && !isOpen then p.selection.settle else p

/-- LATCH_SENSE_CHANGE (R12, R13, R14). -/
def execLatchSenseChange (slot : SlotId) (isOpen : Bool) (s : State) : Host.Outcome State Fault Refusal :=
  s.onPart fun p => p.senseSeen slot isOpen

/-- STRIKE_CONFIRM_TIMEOUT: 500 ms in STRIKING without open sense (R12, R15). -/
def execStrikeConfirmTimeout (slot : SlotId) (s : State) : Host.Outcome State Fault Refusal :=
  s.liveHandle fun p => match (p.engine slot).latch, (p.engine slot).senseOpen with
    | some (.striking t), false => some ((p.advanceTo (t + Config.latchConfirm)).latchFault slot)
    | _, _ => none

/-- HELD_OPEN_CLOSED_TIMEOUT: closed sense for 500 ms while the latch is driven (R12, R15). -/
def execHeldOpenClosedTimeout (slot : SlotId) (s : State) : Host.Outcome State Fault Refusal :=
  s.liveHandle fun p => match (p.engine slot).latch with
    | some (.heldOpen (some t)) => some ((p.advanceTo (t + Config.latchConfirm)).latchFault slot)
    | _ => none

/-- CLOSING_CONFIRM_TIMEOUT: 500 ms in CLOSING without closed sense; the fault may free the column (R13, R15, R61). -/
def execClosingConfirmTimeout (slot : SlotId) (s : State) : Host.Outcome State Fault Refusal :=
  s.liveHandle fun p => match (p.engine slot).latch, (p.engine slot).senseOpen with
    | some (.closing t), true => some ((p.advanceTo (t + Config.latchConfirm)).latchFault slot).selection
    | _, _ => none

/-- UNCOMMANDED_OPEN: a latch in CLOSED has reported open for 1 s (R14, R15). -/
def execUncommandedOpen (slot : SlotId) (s : State) : Host.Outcome State Fault Refusal :=
  s.liveHandle fun p => match (p.engine slot).latch with
    | some (.closed (some t)) => some ((p.advanceTo (t + Config.uncommanded)).latchFault slot)
    | _ => none

end Sys2Proof.Machine
end

