-- ==== Sys2Proof/Machine/Staff.lean ====
section
/-! DEFINITION. The commands of staff and technicians: SLOT SERVICE (R147, R148), CHUTE EMPTIED (R113), ACK ALARM
(R140, R141), RESTART (R156), SERVICE HOLD (R170) and FACTORY CLEAR (R161). -/

namespace Sys2Proof.Machine

/-! ## SLOT SERVICE -/

/-- A release request names the slot, or its record is RELEASING (R147). -/
def Part.releaseNames (p : Part) (s : SlotId) : Bool :=
  !(p.liveOn s).isEmpty || match p.custody s with
    | .releasing _ _ _ _ _ => true
    | .empty => false
    | .unread _ => false
    | .held _ _ _ _ => false
    | .foreign _ _ _ => false

/-- A slot taken out of service: its presence is not watched and its reads go; its latch keeps its state (R147). -/
def Part.takeOutOfService (p : Part) (s : SlotId) : Part :=
  if (p.record s).outOfService then p
  else (p.updSlot s fun x =>
    { record := { x.record with outOfService := true }, engine := x.engine.unqualified }).cancelReads s

/-- A slot returned to service, its flags clear and its latch in CLOSED; the contact level becomes the qualified level
(R148 steps 1, 2 and 4). -/
def Slot.returned (now : Ms) (x : Slot) : Slot :=
  let x := Slot.closeLatch now { x with record := { x.record with outOfService := false, latchFault := false } }
  { x with engine := { x.engine with qualified := some x.engine.contact, candidate := none } }

/-- The return of a slot to service, in the order of R148. -/
def Part.returnToService (p : Part) (s : SlotId) : Part :=
  let faulty := (p.record s).latchFault
  let p := p.updSlot s (Slot.returned p.uptime)
  let p := if faulty then p.endCondition .latchFault (.slot s) else p
  (p.compareReturned s).selection

/-- The refusals of SLOT SERVICE on for a slot out of service (R148). -/
def Part.returnRows (p : Part) (s : SlotId) : List (Bool × Reply) :=
  let engine := (p.column s.col).engine
  [(engine == .lost || engine == .stopped, .wrongState .slotUnreachable),
   (engine == .reconciling, .wrongState .columnBusy),
   ((p.engine s).senseOpen, .wrongState .latchOpen)]

/-- The reply of SLOT SERVICE: the slot's state and flags after the request (R147, R148). -/
def Part.slotReply (p : Part) (s : SlotId) : Reply := .done (.slotService (p.record s))

/-- SLOT SERVICE for a slot, off or on (R147, R148). -/
def Part.slotService (p : Part) (s : SlotId) (on : Bool) : Part × Reply :=
  if on then
    if (p.record s).outOfService then
      p.checked (p.returnRows s) (settled fun p => (p.returnToService s, (p.returnToService s).slotReply s))
    else (p, p.slotReply s)
  else
    p.checked [(p.releaseNames s, .wrongState .releaseLive)] (settled fun p =>
      (p.takeOutOfService s, (p.takeOutOfService s).slotReply s))

/-- What a SLOT SERVICE request with a setting makes of the part (R147). -/
def slotServiceBody (h : ReqHdr) (slot : BitVec 16) (setting : Byte) (p : Part) : Part × Reply :=
  p.checked
    ([(!validSlot slot, .badField 1), (decide (1 < setting.toNat), .badField 2)] ++ p.commandRows h.line) fun p =>
    match slotField slot with
    | none => (p, .badField 1)
    | some s => p.slotService s (setting == 1#8)

/-- SLOT SERVICE off, or with a setting that is neither off nor on (R147). -/
def execSlotServiceOff (h : ReqHdr) (slot : BitVec 16) (setting : Byte) (s : State) :
    Host.Outcome State Fault Refusal :=
  s.request (.plain 0x25#8 3) (.slotServiceOff h slot setting) h (slotServiceBody h slot setting)

/-- SLOT SERVICE on (R148). -/
def execSlotServiceOn (h : ReqHdr) (slot : BitVec 16) (s : State) : Host.Outcome State Fault Refusal :=
  s.request (.plain 0x25#8 3) (.slotServiceOn h slot) h (slotServiceBody h slot 1#8)

/-! ## CHUTE EMPTIED -/

/-- The entries CHUTE EMPTIED removes and those it marks TAKEN_OUT, counted (R113). -/
def Chute.emptiedCounts (c : Chute) : Nat × Nat :=
  ((c.log.filter ChuteEntry.unnamed).length, (c.log.filter fun e => !e.unnamed && e.isInChute).length)

/-- CHUTE EMPTIED (R113). R113 lists its two refusals without an order: the model answers STARTING before SERVICE_HOLD
(DESIGN CHOICE, log entry 37). -/
def execChuteEmptied (h : ReqHdr) (s : State) : Host.Outcome State Fault Refusal :=
  s.request (.plain 0x26#8 0) (.chuteEmptied h) h fun p =>
    p.checked (p.commandRows h.line) (decided fun p =>
      let counts := p.chute.emptiedCounts
      (p.emptyChute, .done (.emptied counts.1 counts.2)))

/-! ## ACK ALARM -/

/-- The records an ACK ALL makes ACTIVE_ACKED and those it removes, counted (R141). -/
def AlarmUnit.ackCounts (a : AlarmUnit) : Nat × Nat :=
  ((a.list.filter fun r => r.state == .activeUnacked && r.acked.isSome).length,
   (a.list.filter fun r => r.acked.isNone).length)

/-- ACK ALL (R141). -/
def Part.acknowledgeAll (p : Part) : Part × Reply :=
  let counts := p.alarm.ackCounts
  let q := p.ackAll
  (q, .done (.ackedAll counts.1 counts.2 q.alarm.list.length))

/-- ACK ALARM for one record (R140). -/
def Part.acknowledge (p : Part) (number : Nat) : Part × Reply :=
  match p.alarm.list.find? fun a => a.number == number with
  | none => (p, .notFound)
  | some a => decided (fun p => (p.ackAlarm a, .done (.ackedOne a.acked))) p

/-- What an ACK ALARM with a number and an ALL mark makes of the part (R140, R141, R172). -/
def ackBody (h : ReqHdr) (number : BitVec 16) (mark : Byte) (p : Part) : Part × Reply :=
  p.checked
    [(decide (1 < mark.toNat), .badField 2), (decide (mark.toNat = 0 ∧ number.toNat = 0), .badField 1),
     (p.heldOff h.line, .serviceHold)]
    fun p => if mark = 1#8 then decided Part.acknowledgeAll p else p.acknowledge number.toNat

/-- ACK ALARM for one number, or with a mark that is neither 0 nor 1 (R140, R172). -/
def execAckAlarm (h : ReqHdr) (number : BitVec 16) (mark : Byte) (s : State) : Host.Outcome State Fault Refusal :=
  s.request (.plain 0x27#8 3) (.ackAlarm h number mark) h (ackBody h number mark)

/-- ACK ALARM with ALL (R141). -/
def execAckAlarmAll (h : ReqHdr) (number : BitVec 16) (s : State) : Host.Outcome State Fault Refusal :=
  s.request (.plain 0x27#8 3) (.ackAlarmAll h number) h (ackBody h number 1#8)

/-! ## RESTART -/

/-- RESTART: the part stops and starts up with cause RESTART (R156, R154). R156 lists its two refusals without an order:
the model answers STARTING before SERVICE_HOLD (DESIGN CHOICE, log entry 37). -/
def execRestart (h : ReqHdr) (inputs : StartInputs) (s : State) : Host.Outcome State Fault Refusal :=
  s.request { code := 0x28#8, length := 0, serviceOnly := false, broadcast := true } (.restart h inputs) h fun p =>
    p.checked (p.commandRows h.line) fun p => (p.startUp .restart inputs false, .done .bare)

/-! ## SERVICE HOLD -/

/-- The hold stands, its timer started at 10 minutes of uptime (R170). -/
def Part.beginHold (p : Part) : Part :=
  { p with lines := { p.lines with holdUntil := some (p.uptime + Config.holdTime) } }

/-- A standing hold ends, and a selection is made (R170, R60). -/
def Part.endHold (p : Part) : Part :=
  match p.lines.holdUntil with
  | none => p
  | some _ => Part.selection { p with lines := { p.lines with holdUntil := none } }

/-- What a SERVICE HOLD with a setting makes of the part (R170). -/
def serviceHoldBody (setting : Byte) (p : Part) : Part × Reply :=
  p.checked [(decide (1 < setting.toNat), .badField 1)] fun p =>
    if setting = 1#8 then (p.beginHold, .done (.hold true))
    else settled (fun p => (p.endHold, .done (.hold false))) p

/-- The row of SERVICE HOLD in Table 11.2 and R164. -/
def serviceHoldRow : KindRow := { code := 0x30#8, length := 1, serviceOnly := true, broadcast := false }

/-- SERVICE HOLD on (R170). -/
def execServiceHoldOn (h : ReqHdr) (s : State) : Host.Outcome State Fault Refusal :=
  s.request serviceHoldRow (.serviceHoldOn h) h (serviceHoldBody 1#8)

/-- SERVICE HOLD off, or with a setting that is neither on nor off (R170). -/
def execServiceHoldOff (h : ReqHdr) (setting : Byte) (s : State) : Host.Outcome State Fault Refusal :=
  s.request serviceHoldRow (.serviceHoldOff h setting) h (serviceHoldBody setting)

/-! ## FACTORY CLEAR -/

/-- FACTORY CLEAR: the retained records as manufactured, then a start-up with cause FACTORY_CLEAR (R161). R161 lists its
two refusals without an order: the model answers STARTING before NO_SERVICE_HOLD (DESIGN CHOICE, log entry 37). -/
def execFactoryClear (h : ReqHdr) (inputs : StartInputs) (s : State) : Host.Outcome State Fault Refusal :=
  s.request { code := 0x31#8, length := 0, serviceOnly := true, broadcast := false } (.factoryClear h inputs) h
    fun p =>
      p.checked [(p.inStartUp, .starting), (p.lines.holdUntil.isNone, .wrongState .noServiceHold)] fun p =>
        (p.factoryRecords.startUp .factoryClear inputs false, .done .bare)

end Sys2Proof.Machine
end

