-- ==== Sys2Proof/Machine/SupplyEvents.lean ====
section
/-! DEFINITION. Events of the branch clock and its sweep (R117, R129, R130), of the supply (R149 to R152) and of
start-up (R154). The supply monitor's pins follow the outside whatever the part does with them. -/

namespace Sys2Proof.Machine

/-! ## Minutes -/

/-- MINUTE_BOUNDARY (R117, R118, R129). -/
def execMinuteBoundary (s : State) : Host.Outcome State Fault Refusal := s.live fun p => some p.boundary

/-- SWEEP_EXAMINATION (R130). -/
def execSweepExamination (s : State) : Host.Outcome State Fault Refusal := s.liveDecide Part.sweepStep

/-! ## Supply modes -/

/-- The mains-present input is at a level: its timing starts, runs on or is dropped (R150). -/
def Part.mainsInput (p : Part) (present : Bool) : Part :=
  let running := if p.halted then none else mainsTiming p.supply.mode present p.uptime p.supply.mainsSince
  { p with supply := { p.supply with mainsPin := present, mainsSince := running } }

/-- MAINS_INPUT_CHANGE (R150). -/
def execMainsInputChange (present : Bool) (s : State) : Host.Outcome State Fault Refusal :=
  s.onPart fun p => p.mainsInput present

/-- The mains timing is done with. -/
def Part.clearMainsTiming (p : Part) : Part := { p with supply := { p.supply with mainsSince := none } }

/-- Mains has read absent for 200 ms in MAINS: RESERVE, then LOW_RESERVE if the battery is LOW (R150). -/
def Part.mainsAbsent (p : Part) : Option Part :=
  match p.supply.mode, p.supply.mainsSince with
  | .mains, some t =>
    let p := (p.advanceTo (t + Config.mainsAbsent)).clearMainsTiming.changeMode .reserve
    some (if p.supply.batteryIsLow then p.changeMode .lowReserve else p)
  | _, _ => none

/-- MAINS_ABSENT_QUALIFIED (R150, R151). -/
def execMainsAbsentQualified (s : State) : Host.Outcome State Fault Refusal := s.liveHandle Part.mainsAbsent

/-- Mains has read present for 5 s in a reserve mode (R150). -/
def Part.mainsPresent (p : Part) : Option Part :=
  match p.supply.mode, p.supply.mainsSince with
  | .mains, _ => none
  | _, none => none
  | _, some t => some ((p.advanceTo (t + Config.mainsPresent)).clearMainsTiming.changeMode .mains)

/-- MAINS_PRESENT_QUALIFIED (R150, R151). -/
def execMainsPresentQualified (s : State) : Host.Outcome State Fault Refusal := s.liveHandle Part.mainsPresent

/-- Battery sense takes a reading: its timing starts, runs on or is dropped (R149). -/
def Part.batterySense (p : Part) (millivolts : Nat) : Part :=
  let running := if p.halted then none
    else batteryTiming p.supply.batteryIsLow millivolts p.uptime p.supply.batterySince
  { p with supply := { p.supply with batteryPin := millivolts, batterySince := running } }

/-- BATTERY_SENSE_CHANGE (R149). -/
def execBatterySenseChange (millivolts : Nat) (s : State) : Host.Outcome State Fault Refusal :=
  s.onPart fun p => p.batterySense millivolts

/-- The battery state changes, and with it the mode where a reserve mode follows it (R149, R150). -/
def Part.batteryQualified (p : Part) : Option Part :=
  match p.supply.batterySince with
  | none => none
  | some t =>
    let isLow := !p.supply.batteryIsLow
    let p := p.advanceTo (t + Config.batteryTime)
    let p := { p with supply := { p.supply with batteryIsLow := isLow, batterySince := none } }
    some (match p.supply.mode.onBattery isLow with
      | some mode => p.changeMode mode
      | none => p)

/-- BATTERY_STATE_QUALIFIED (R149, R150, R151). -/
def execBatteryStateQualified (s : State) : Host.Outcome State Fault Refusal := s.liveHandle Part.batteryQualified

/-! ## Stop and start-up -/

/-- SUPPLY_STOP: the main supply falls below 3.0 V (R152). -/
def execSupplyStop (s : State) : Host.Outcome State Fault Refusal := s.live fun p => some p.halt

/-- POWER_ON: the main supply rises above 3.1 V after a halt (R152, R154). -/
def execPowerOn (inputs : StartInputs) (backupFailed : Bool) (s : State) : Host.Outcome State Fault Refusal :=
  s.event fun p => if p.halted then some (p.startUp .powerOn inputs backupFailed) else none

/-- Some column engine is RECONCILING (R154 step 6). -/
def Part.reconciling (p : Part) : Bool := allCols.any fun c => (p.column c).engine == .reconciling

/-- Start-up is completed when no column is RECONCILING any more (R154 steps 7 to 9). -/
def Part.finishStart (p : Part) (attempts : List (List Byte)) : Option Part :=
  match p.supply.phase with
  | .starting cause => if p.reconciling then none else some (p.completeStart cause attempts)
  | .halted => none
  | .ready => none

/-- STARTUP_COMPLETION (R154, R115, R157). -/
def execStartupCompletion (attempts : List (List Byte)) (s : State) : Host.Outcome State Fault Refusal :=
  s.liveDecide fun p => p.finishStart attempts

end Sys2Proof.Machine
end

