-- ==== Sys2Proof/Machine/TimerEvents.lean ====
section
/-! DEFINITION. The timers of the release scheduler (R63, R64, R71), of LOCATE (R53) and of the service hold (R170). -/

namespace Sys2Proof.Machine

/-- The charges still kept: those of the last 5,000 ms (R63). -/
def Part.dropOldCharges (p : Part) : Part :=
  { p with sched := { p.sched with
    strikes := p.sched.strikes.filter fun k => k.within Config.historyTime p.uptime } }

/-- The oldest charge that has not left the window of the mode in force leaves it, and a selection is made (R63). -/
def Part.expireCharge (p : Part) : Option Part :=
  match p.sched.strikes.find? fun k => !k.left with
  | none => none
  | some k => some (p.advanceTo (k.charged + p.supply.mode.window)).markCharges.dropOldCharges.selection

/-- STRIKE_CHARGE_EXPIRY (R63, R60). -/
def execStrikeChargeExpiry (s : State) : Host.Outcome State Fault Refusal := s.liveHandle Part.expireCharge

/-- A WAITING STANDARD request that has not been seen to reach the aging time (R64). -/
def Release.mayAge (r : Release) : Bool := r.isWaiting && r.cls == .standard && !r.aged

/-- A WAITING STANDARD request reaches the aging time, and a selection is made (R64, R60). -/
def Part.age (p : Part) (number : Nat) : Option Part :=
  match p.findRelease number with
  | none => none
  | some r =>
    if r.mayAge then
      let p := p.advanceTo (r.submit + p.late.settings.aging * 1000)
      some (p.updRelease number fun r => { r with aged := true }).selection
    else none

/-- AGING_REACHED (R64, R60). -/
def execAgingReached (number : Nat) (s : State) : Host.Outcome State Fault Refusal :=
  s.liveHandle fun p => p.age number

/-- The deadline of an OPEN release that has not passed it, with what else its state holds. -/
def ReleasePhase.deadline : ReleasePhase → Option Ms
  | .opened _ _ t false => some t
  | .opened _ _ _ true => none
  | .waiting => none
  | .verifying _ => none

/-- The deadline passed mark is set (R71). -/
def ReleasePhase.passDeadline : ReleasePhase → ReleasePhase
  | .opened a b t _ => .opened a b t true
  | .waiting => .waiting
  | .verifying t => .verifying t

/-- The take deadline of an OPEN release: NOT_TAKEN, or the mark while a removal candidate is in progress (R71). -/
def Part.passDeadline (p : Part) (number : Nat) : Option Part :=
  (p.findRelease number).bind fun r => r.phase.deadline.map fun t =>
    let p := p.advanceTo t
    if (p.engine r.slot).removing then
      p.updRelease number fun r => { r with phase := r.phase.passDeadline }
    else p.endRelease r .notTaken

/-- TAKE_DEADLINE (R71). -/
def execTakeDeadline (number : Nat) (s : State) : Host.Outcome State Fault Refusal :=
  s.liveHandle fun p => p.passDeadline number

/-- LOCATE_TIMER_EXPIRY: the LOCATE timer of a slot runs out (R53). -/
def execLocateTimerExpiry (slot : SlotId) (s : State) : Host.Outcome State Fault Refusal :=
  s.live fun p => (p.engine slot).locateUntil.map fun t =>
    (p.advanceTo t).updEngine slot fun e => { e with locateUntil := none }

/-- SERVICE_HOLD_TIMEOUT: the hold timer runs out, and a selection is made (R170, R60). -/
def execServiceHoldTimeout (s : State) : Host.Outcome State Fault Refusal :=
  s.liveHandle fun p => p.lines.holdUntil.map fun t =>
    let p := p.advanceTo t
    Part.selection { p with lines := { p.lines with holdUntil := none } }

end Sys2Proof.Machine
end

