-- ==== Sys2Proof/Machine/Dispatch.lean ====
section
/-! DEFINITION. One arm for each command: the direct call of its meaning. -/

namespace Sys2Proof.Machine

/-- The effect of a command on everything but the queue. -/
def exec (i : Instr) (s : State) : Host.Outcome State Fault Refusal :=
  match i with
  | .identify h => Sys2Proof.Machine.execIdentify h s
  | .status h => Sys2Proof.Machine.execStatus h s
  | .fetchNotices h => Sys2Proof.Machine.execFetchNotices h s
  | .readSlot h first count => Sys2Proof.Machine.execReadSlot h first count s
  | .readVehicle h unit tagId => Sys2Proof.Machine.execReadVehicle h unit tagId s
  | .readContract h contract => Sys2Proof.Machine.execReadContract h contract s
  | .listDue h start => Sys2Proof.Machine.execListDue h start s
  | .listClosed h sequence => Sys2Proof.Machine.execListClosed h sequence s
  | .listChute h start => Sys2Proof.Machine.execListChute h start s
  | .listAlarms h start => Sys2Proof.Machine.execListAlarms h start s
  | .readSettings h => Sys2Proof.Machine.execReadSettings h s
  | .setClock h seconds => Sys2Proof.Machine.execSetClock h seconds s
  | .configure h grace prewarn t2 t3 window aging audit => Sys2Proof.Machine.execConfigure h grace prewarn t2 t3 window aging audit s
  | .enrolVehicle h unit tagId home => Sys2Proof.Machine.execEnrolVehicle h unit tagId home s
  | .retireVehicle h unit => Sys2Proof.Machine.execRetireVehicle h unit s
  | .setHomeSlot h unit slot => Sys2Proof.Machine.execSetHomeSlot h unit slot s
  | .holdVehicle h unit => Sys2Proof.Machine.execHoldVehicle h unit s
  | .unholdVehicle h unit => Sys2Proof.Machine.execUnholdVehicle h unit s
  | .accountVehicle h unit => Sys2Proof.Machine.execAccountVehicle h unit s
  | .locate h unit slot => Sys2Proof.Machine.execLocate h unit slot s
  | .openContract h contract unit cls due hourRate dayRate grace => Sys2Proof.Machine.execOpenContract h contract unit cls due hourRate dayRate grace s
  | .extendContract h contract due => Sys2Proof.Machine.execExtendContract h contract due s
  | .closeContract h contract reason => Sys2Proof.Machine.execCloseContract h contract reason s
  | .release h kind unit slot => Sys2Proof.Machine.execRelease h kind unit slot s
  | .cancelRelease h number => Sys2Proof.Machine.execCancelRelease h number s
  | .slotServiceOff h slot setting => Sys2Proof.Machine.execSlotServiceOff h slot setting s
  | .slotServiceOn h slot => Sys2Proof.Machine.execSlotServiceOn h slot s
  | .chuteEmptied h => Sys2Proof.Machine.execChuteEmptied h s
  | .ackAlarm h number mark => Sys2Proof.Machine.execAckAlarm h number mark s
  | .ackAlarmAll h number => Sys2Proof.Machine.execAckAlarmAll h number s
  | .restart h inputs => Sys2Proof.Machine.execRestart h inputs s
  | .serviceHoldOn h => Sys2Proof.Machine.execServiceHoldOn h s
  | .serviceHoldOff h setting => Sys2Proof.Machine.execServiceHoldOff h setting s
  | .factoryClear h inputs => Sys2Proof.Machine.execFactoryClear h inputs s
  | .unknownKind h kind => Sys2Proof.Machine.execUnknownKind h kind s
  | .frameDiscarded line => Sys2Proof.Machine.execFrameDiscarded line s
  | .frameGapTimeout line => Sys2Proof.Machine.execFrameGapTimeout line s
  | .frameIgnored line => Sys2Proof.Machine.execFrameIgnored line s
  | .lineOverrun line => Sys2Proof.Machine.execLineOverrun line s
  | .replySent line => Sys2Proof.Machine.execReplySent line s
  | .presenceContactChange slot present => Sys2Proof.Machine.execPresenceContactChange slot present s
  | .candidateQualified slot => Sys2Proof.Machine.execCandidateQualified slot s
  | .latchSenseChange slot isOpen => Sys2Proof.Machine.execLatchSenseChange slot isOpen s
  | .strikeConfirmTimeout slot => Sys2Proof.Machine.execStrikeConfirmTimeout slot s
  | .heldOpenClosedTimeout slot => Sys2Proof.Machine.execHeldOpenClosedTimeout slot s
  | .closingConfirmTimeout slot => Sys2Proof.Machine.execClosingConfirmTimeout slot s
  | .uncommandedOpen slot => Sys2Proof.Machine.execUncommandedOpen slot s
  | .boardSilenceTimeout col => Sys2Proof.Machine.execBoardSilenceTimeout col s
  | .columnProbe col answered => Sys2Proof.Machine.execColumnProbe col answered s
  | .readAttemptEnd col bytes => Sys2Proof.Machine.execReadAttemptEnd col bytes s
  | .auditTick col => Sys2Proof.Machine.execAuditTick col s
  | .strikeChargeExpiry => Sys2Proof.Machine.execStrikeChargeExpiry s
  | .agingReached number => Sys2Proof.Machine.execAgingReached number s
  | .takeDeadline number => Sys2Proof.Machine.execTakeDeadline number s
  | .locateTimerExpiry slot => Sys2Proof.Machine.execLocateTimerExpiry slot s
  | .dropDetected => Sys2Proof.Machine.execDropDetected s
  | .chuteReadAttemptEnd bytes => Sys2Proof.Machine.execChuteReadAttemptEnd bytes s
  | .pocketEmpty => Sys2Proof.Machine.execPocketEmpty s
  | .pocketDriveTimeout => Sys2Proof.Machine.execPocketDriveTimeout s
  | .pocketRetry => Sys2Proof.Machine.execPocketRetry s
  | .minuteBoundary => Sys2Proof.Machine.execMinuteBoundary s
  | .sweepExamination => Sys2Proof.Machine.execSweepExamination s
  | .mainsInputChange present => Sys2Proof.Machine.execMainsInputChange present s
  | .mainsAbsentQualified => Sys2Proof.Machine.execMainsAbsentQualified s
  | .mainsPresentQualified => Sys2Proof.Machine.execMainsPresentQualified s
  | .batterySenseChange millivolts => Sys2Proof.Machine.execBatterySenseChange millivolts s
  | .batteryStateQualified => Sys2Proof.Machine.execBatteryStateQualified s
  | .supplyStop => Sys2Proof.Machine.execSupplyStop s
  | .powerOn inputs backupFailed => Sys2Proof.Machine.execPowerOn inputs backupFailed s
  | .startupCompletion attempts => Sys2Proof.Machine.execStartupCompletion attempts s
  | .serviceHoldTimeout => Sys2Proof.Machine.execServiceHoldTimeout s
  | .syncByteBeginsFrame line => Sys2Proof.Machine.execSyncByteBeginsFrame line s
  | .frameLengthAbandoned line => Sys2Proof.Machine.execFrameLengthAbandoned line s

end Sys2Proof.Machine
end

