-- ==== Sys2Proof/Machine/Idle.lean ====
section
/-! DEFINITION. What the part does while no command waits (log entries 3 and 4): one millisecond passes, or, where the
part's own events have come due, one of them is put in the queue of commands. Events that only the outside can give
(frames, pins, a board's silence, the ends of replies) are never put there. -/

namespace Sys2Proof.Machine

/-- An event that is due once the uptime has reached a moment. -/
def dueAt (p : Part) (moment : Option Ms) (event : Instr) : List Instr :=
  match moment with
  | some t => if t ≤ p.uptime then [event] else []
  | none => []

/-- The moment at which a latch confirmation runs out. -/
def Latch.confirmAt : Latch → Option Ms
  | .closed t => t.map (· + Config.uncommanded)
  | .striking t => some (t + Config.latchConfirm)
  | .heldOpen t => t.map (· + Config.latchConfirm)
  | .closing t => some (t + Config.latchConfirm)

/-- The event of a latch whose confirmation has run out. -/
def Latch.timeoutEvent (s : SlotId) : Latch → Instr
  | .closed _ => .uncommandedOpen s
  | .striking _ => .strikeConfirmTimeout s
  | .heldOpen _ => .heldOpenClosedTimeout s
  | .closing _ => .closingConfirmTimeout s

/-- The sense of a latch that is watched continuously already is where its drive wants it (R12, R13). -/
def Latch.answered (isOpen : Bool) : Latch → Bool
  | .closed _ => false
  | .striking _ => isOpen
  | .heldOpen _ => false
  | .closing _ => !isOpen

/-- The due events of a latch: the report of a sense that stands already, or its timeout. -/
def Latch.due (p : Part) (s : SlotId) (isOpen : Bool) (l : Latch) : List Instr :=
  if l.answered isOpen then [.latchSenseChange s isOpen] else dueAt p l.confirmAt (l.timeoutEvent s)

/-- The due events of a slot (R5, R12 to R14, R53). -/
def Part.slotDue (p : Part) (x : SlotId × Slot) : List Instr :=
  let e := x.2.engine
  dueAt p (e.candidate.map (· + p.supply.mode.qualifyTime)) (.candidateQualified x.1)
    ++ (match e.latch with
      | some l => l.due p x.1 e.senseOpen
      | none => [])
    ++ dueAt p e.locateUntil (.locateTimerExpiry x.1)

/-- The due events of a column (R21, R24, R38); an attempt whose 40 ms have passed brought no bytes. -/
def Part.columnDue (p : Part) (c : ColId) : List Instr :=
  let col := p.column c
  (if col.engine = .lost then dueAt p (some col.nextProbe) (.columnProbe c false) else [])
    ++ dueAt p (col.reader.map fun rd => rd.since + Config.attemptTime) (.readAttemptEnd c [])
    ++ dueAt p col.auditNext (.auditTick c)

/-- The due events of a release request (R64, R71). -/
def Part.releaseDue (p : Part) (r : Release) : List Instr :=
  (if r.mayAge then dueAt p (some (r.submit + p.late.settings.aging * 1000)) (.agingReached r.number) else [])
    ++ dueAt p r.phase.deadline (.takeDeadline r.number)

/-- The due events of the chute (R106). -/
def Part.chuteDue (p : Part) : List Instr :=
  dueAt p ((p.chute.drop.bind (·.reading)).map fun x => x.2 + Config.attemptTime) (.chuteReadAttemptEnd [])
    ++ (match p.chute.drive with
      | some { since := t, driven := true } => dueAt p (some (t + Config.pocketDrive)) .pocketDriveTimeout
      | some { since := t, driven := false } => dueAt p (some (t + Config.pocketPeriod)) .pocketRetry
      | none => [])

/-- A minute boundary is due: the second that steps the count to it has run (R117). -/
def Part.boundaryDue (p : Part) : Bool := decide ((secondsToSpare p.late.count + 1) * 1000 ≤ p.late.subMs)

/-- The due events of the clock, the sweep, the supply, the service hold and start-up. -/
def Part.unitDue (p : Part) : List Instr :=
  (if p.boundaryDue then [.minuteBoundary] else [])
    ++ (if p.late.sweep.isSome then [.sweepExamination] else [])
    ++ dueAt p ((p.sched.strikes.find? fun k => !k.left).map fun k => k.charged + p.supply.mode.window) .strikeChargeExpiry
    ++ (if p.supply.mode = .mains
      then dueAt p (p.supply.mainsSince.map (· + Config.mainsAbsent)) .mainsAbsentQualified
      else dueAt p (p.supply.mainsSince.map (· + Config.mainsPresent)) .mainsPresentQualified)
    ++ dueAt p (p.supply.batterySince.map (· + Config.batteryTime)) .batteryStateQualified
    ++ dueAt p p.lines.holdUntil .serviceHoldTimeout
    ++ (if p.inStartUp && !p.reconciling then [.startupCompletion []] else [])

/-- The events of the part's own that are due, none while it is halted. -/
def Part.dueEvents (p : Part) : List Instr :=
  if p.halted then []
  else p.slotList.flatMap p.slotDue ++ allCols.flatMap p.columnDue ++ p.sched.queue.flatMap p.releaseDue
    ++ p.chuteDue ++ p.unitDue

/-- One of the due events, chosen freely where there are several (log entry 3). -/
def chosen (events : List Instr) (choice : Nat) : Option Instr :=
  match events with
  | [] => none
  | [e] => some e
  | e :: rest => (e :: rest)[choice % (rest.length + 1)]?

/-- The step on an empty queue: a due event is put in the queue, or one millisecond passes. -/
def State.idle (s : State) : State :=
  let events := s.part.dueEvents
  match chosen events (Config.tieBreak s.part.choices) with
  | some e =>
    { part := if events.length = 1 then s.part else s.part.choiceMade, pending := [e] }
  | none => { s with part := s.part.elapse 1 }

end Sys2Proof.Machine
end

