-- ==== Sys2Proof/Machine/Lamps.lean ====
section
/-! DEFINITION. The slot lamps and column beacons (R16, R17, R143) and the other drives of the ports: outputs that
follow from the state at every moment. -/

namespace Sys2Proof.Machine

/-- The patterns of a slot lamp (R16). -/
inductive LampPattern where
  | off
  | greenFastBlink
  | greenSlowBlink
  | redFastBlink
  | redSlowBlink
  | redSteady
  | amberSlowBlink
  | amberSteady
deriving DecidableEq, Repr

/-- The patterns of a column beacon (R17). -/
inductive BeaconPattern where
  | off
  | steady
  | slowBlink
deriving DecidableEq, Repr

/-- The slot of an alarm record, where it is of one: the slot that is its subject, or the slot of the vehicle that is
its subject, or that vehicle's home slot where its record names no slot (R143). -/
def Part.alarmSlot (p : Part) : Subject → Option SlotId
  | .slot s => some s
  | .vehicle unit => (p.findUnit unit).bind fun v => v.slot.or v.home
  | .contract _ => none
  | .entry _ => none
  | .chute => none
  | .column _ => none
  | .supply => none
  | .clock => none

/-- An unacknowledged alarm of the slot stands (R16 row 2). -/
def Part.alarmed (p : Part) (s : SlotId) : Bool :=
  p.alarm.list.any fun a => a.state.unacked && p.alarmSlot a.subject == some s

/-- The vehicle of a HELD or RELEASING record carries a hold (R16 row 4). -/
def Part.heldBack (p : Part) (s : SlotId) : Bool :=
  match p.custody s with
  | .held _ unit _ _ => p.unitHeld unit
  | .releasing _ unit _ _ _ => p.unitHeld unit
  | .empty => false
  | .unread _ => false
  | .foreign _ _ _ => false

/-- The vehicle is OUT (R41). -/
def Vehicle.isOut (v : Vehicle) : Bool :=
  match v.status with
  | .out _ => true
  | .inSlot _ => false
  | .dropped _ => false
  | .stray => false
  | .away => false

/-- The slot is reserved: the home slot of a vehicle that is OUT with an ACTIVE contract at DUE_SOON or above
(R16, Note 4). -/
def Part.reserved (p : Part) (s : SlotId) : Bool :=
  p.fleet.any fun v => v.home == some s && v.isOut
    && p.book.contracts.any fun c => c.unit == v.unit && reaches .dueSoon c.level

/-- The row of R16 that a slot of a watched column matches first, with its number. -/
def Part.lampRow (p : Part) (s : SlotId) : Nat :=
  let r := p.record s
  if (p.openOn s).isSome then 1
  else if p.alarmed s then 2
  else if r.latchFault || r.outOfService then 3
  else if p.heldBack s then 4
  else match r.custody with
    | .foreign _ _ _ => 5
    | .unread _ => 5
    | .held _ _ _ _ => if (p.engine s).locateUntil.isSome then 6 else 8
    | .releasing _ _ _ _ _ => if (p.engine s).locateUntil.isSome then 6 else 8
    | .empty => if (p.engine s).locateUntil.isSome then 6 else if p.reserved s then 7 else 8

/-- The pattern of a row of R16. -/
def rowPattern : Nat → LampPattern
  | 1 => .greenFastBlink
  | 2 => .redFastBlink
  | 3 => .amberSlowBlink
  | 4 => .redSteady
  | 5 => .redSlowBlink
  | 6 => .greenSlowBlink
  | 7 => .amberSteady
  | _ => .off

/-- The lamp of a slot: off where its column is not watched; in the reserve modes rows 3 to 7 are off (R16, Notes 1
and 6). -/
def Part.lamp (p : Part) (s : SlotId) : LampPattern :=
  if (p.column s.col).engine.watches then
    let row := p.lampRow s
    if p.supply.mode ≠ .mains ∧ 3 ≤ row then .off else rowPattern row
  else .off

/-- A release of the column is OPEN (R17). -/
def Part.columnOpen (p : Part) (c : ColId) : Bool := p.sched.queue.any fun r => r.isOpen && r.slot.col == c

/-- The beacon of a column (R17). -/
def Part.beacon (p : Part) (c : ColId) : BeaconPattern :=
  if (p.column c).engine.watches then
    if p.columnOpen c then .steady
    else if p.supply.mode = .mains ∧ (allPos.any fun i => p.alarmed { col := c, pos := i }) = true then .slowBlink
    else .off
  else .off

/-- The latch of a slot is driven (R11). -/
def Part.latchDriven (p : Part) (s : SlotId) : Bool := (p.engine s).latch.any Latch.driven

/-- The pocket is driven to let its fob fall (R106). -/
def Part.pocketDriven (p : Part) : Bool := p.chute.drive.any (·.driven)

end Sys2Proof.Machine
end

