-- ==== Sys2Proof/WellFormed.lean ====
section
/-! DEFINITION. Which commands are ones that the outside can give: what a frame, a pin or a board can bring
(00_scope.md, R149, R163, R164, R172). -/

namespace Sys2Proof

/-- A header is one that a frame on its line can have: a broadcast comes on the branch line, and a body is at most 240
bytes long (R162, R163). -/
def ReqHdr.wf (h : ReqHdr) : Bool := (!h.broadcast || h.line == .branch) && decide (h.bodyLen ≤ 240)

/-- A kind byte names a request kind (Table 11.2). -/
def namesKind (kind : Byte) : Bool :=
  decide ((1 ≤ kind.toNat ∧ kind.toNat ≤ 0x0B) ∨ (0x10 ≤ kind.toNat ∧ kind.toNat ≤ 0x18)
    ∨ (0x20 ≤ kind.toNat ∧ kind.toNat ≤ 0x28) ∨ kind.toNat = 0x30 ∨ kind.toNat = 0x31)

/-- A header of a request of a kind with this one body length that no broadcast carries. -/
def ReqHdr.wfPlain (h : ReqHdr) : Bool := h.wf && !h.broadcast

/-- A header of a request that a broadcast may carry, with the right body length in a broadcast (R164). -/
def ReqHdr.wfBroadcast (h : ReqHdr) (length : Nat) : Bool := h.wf && (!h.broadcast || h.bodyLen == length)

/-- A command is one that the outside can give. -/
def Instr.wf : Instr → Bool
  | .identify h => h.wfPlain
  | .status h => h.wfPlain
  | .fetchNotices h => h.wfPlain
  | .readSlot h _ _ => h.wfPlain
  | .readVehicle h _ _ => h.wfPlain
  | .readContract h _ => h.wfPlain
  | .listDue h _ => h.wfPlain
  | .listClosed h _ => h.wfPlain
  | .listChute h _ => h.wfPlain
  | .listAlarms h _ => h.wfPlain
  | .readSettings h => h.wfPlain
  | .setClock h _ => h.wfBroadcast 4
  | .configure h _ _ _ _ _ _ _ => h.wfBroadcast 10
  | .enrolVehicle h _ _ _ => h.wfPlain
  | .retireVehicle h _ => h.wfPlain
  | .setHomeSlot h _ _ => h.wfPlain
  | .holdVehicle h _ => h.wfPlain
  | .unholdVehicle h _ => h.wfPlain
  | .accountVehicle h _ => h.wfPlain
  | .locate h _ _ => h.wfPlain
  | .openContract h _ _ _ _ _ _ _ => h.wfPlain
  | .extendContract h _ _ => h.wfPlain
  | .closeContract h _ _ => h.wfPlain
  | .release h _ _ _ => h.wfPlain
  | .cancelRelease h _ => h.wfPlain
  | .slotServiceOff h _ setting => h.wfPlain && setting != 1#8
  | .slotServiceOn h _ => h.wfPlain
  | .chuteEmptied h => h.wfPlain
  | .ackAlarm h _ mark => h.wfPlain && mark != 1#8
  | .ackAlarmAll h _ => h.wfPlain
  | .restart h _ => h.wfBroadcast 0
  | .serviceHoldOn h => h.wfPlain
  | .serviceHoldOff h setting => h.wfPlain && setting != 1#8
  | .factoryClear h _ => h.wfPlain
  | .unknownKind h kind => h.wfPlain && !namesKind kind
  | .frameDiscarded _ => true
  | .frameGapTimeout _ => true
  | .frameIgnored _ => true
  | .lineOverrun _ => true
  | .replySent _ => true
  | .presenceContactChange _ _ => true
  | .candidateQualified _ => true
  | .latchSenseChange _ _ => true
  | .strikeConfirmTimeout _ => true
  | .heldOpenClosedTimeout _ => true
  | .closingConfirmTimeout _ => true
  | .uncommandedOpen _ => true
  | .boardSilenceTimeout _ => true
  | .columnProbe _ _ => true
  | .readAttemptEnd _ _ => true
  | .auditTick _ => true
  | .strikeChargeExpiry => true
  | .agingReached number => decide (1 ≤ number ∧ number ≤ 255)
  | .takeDeadline number => decide (1 ≤ number ∧ number ≤ 255)
  | .locateTimerExpiry _ => true
  | .dropDetected => true
  | .chuteReadAttemptEnd _ => true
  | .pocketEmpty => true
  | .pocketDriveTimeout => true
  | .pocketRetry => true
  | .minuteBoundary => true
  | .sweepExamination => true
  | .mainsInputChange _ => true
  | .mainsAbsentQualified => true
  | .mainsPresentQualified => true
  | .batterySenseChange millivolts => decide (millivolts ≤ 3000)
  | .batteryStateQualified => true
  | .supplyStop => true
  | .powerOn _ _ => true
  | .startupCompletion attempts => decide (attempts.length ≤ 3)
  | .serviceHoldTimeout => true
  | .syncByteBeginsFrame _ => true
  | .frameLengthAbandoned _ => true

end Sys2Proof
end

