-- ==== Sys2Proof/Safety.lean ====
section
/-! DEFINITION. The terms in which statements about the part are made: when a request reaches its owning block, what
it leaves on its line, which parts of the state an event leaves alone, and the laws that every step keeps. -/

namespace Sys2Proof.Machine

/-! ## Requests -/

/-- A unicast request on a line reaches its dispatch: the part is not halted and the line's buffer is empty (R152,
R163). -/
def Part.listens (p : Part) (h : ReqHdr) : Prop :=
  p.halted = false ∧ h.broadcast = false ∧ (p.line h.line).buffer = none

/-- A unicast request of the right length reaches its owning block (R164, for the kinds that both lines carry). -/
def Part.takes (p : Part) (h : ReqHdr) (length : Nat) : Prop := p.listens h ∧ h.bodyLen = length

/-- A request that changes custody, vehicles, contracts, settings or the clock is not turned away by the start-up or a
service hold (R155, R170). -/
def Part.commands (p : Part) (h : ReqHdr) (length : Nat) : Prop :=
  p.takes h length ∧ p.isReady = true ∧ p.heldOff h.line = false

/-- The part as its owning block finds it: the request stands in its line's buffer, and a standing hold's timer has
started again where the request came on the service line (R163, R170). -/
def Part.received (p : Part) (c : Instr) (h : ReqHdr) : Part := (p.hear h.line).buffered h.line c

/-- A part with the reply to a request on its line (R165). -/
def Part.answered (p q : Part) (h : ReqHdr) (kind : Byte) (r : Reply) : Part :=
  q.reply h.line { address := p.replyAddress h.line, kind := kind, tag := h.tag, reply := r }

/-- The machine after a request that changes nothing but its line: it has been received, and its reply stands. -/
def State.answering (s : State) (c : Instr) (h : ReqHdr) (kind : Byte) (r : Reply) : State :=
  { s with part := s.part.answered (s.part.received c h) h kind r }

/-- The reply that stands on a request's line after its handling (R165). -/
def Part.replyOn (p : Part) (h : ReqHdr) : Option Reply := (p.line h.line).reply.map (·.reply)

/-- A reply that refuses its request (R165). -/
def Reply.refuses : Reply → Bool
  | .done _ => false
  | .accepted _ => false
  | _ => true

/-! ## Frames -/

/-- The fleet, the contracts, the chute and the lateness engine are as before. -/
def Part.sameTables (p q : Part) : Prop :=
  q.fleet = p.fleet ∧ q.book = p.book ∧ q.chute = p.chute ∧ q.late = p.late

/-- The supply and the uptime are as before. -/
def Part.sameSupply (p q : Part) : Prop := q.supply = p.supply ∧ q.uptime = p.uptime

/-- The columns and the release scheduler are as before. -/
def Part.sameCabinet (p q : Part) : Prop := q.columns = p.columns ∧ q.sched = p.sched

/-- Every slot is as before, with its record and its pins. -/
def Part.sameSlots (p q : Part) : Prop := ∀ x : SlotId, q.slot x = p.slot x

/-- Notices of these bodies are queued, in this order among what is queued; where the queue loses a notice nothing is said
(R166, R169). -/
def Part.reports (p q : Part) (bodies : List NoticeBody) : Prop :=
  q.lines.flags.noticesLost = false →
    ∃ new, q.lines.notices = p.lines.notices ++ new ∧ bodies.Sublist (new.map (·.body))

/-- No notice of this kind is queued (R166). -/
def Part.silentOn (p q : Part) (kind : NoticeBody → Prop) : Prop :=
  ∀ n ∈ q.lines.notices, kind n.body → n ∈ p.lines.notices

/-- No column is about to enter RUNNING: a settling moves no column and makes no selection (R19). -/
def Part.quiet (p : Part) : Prop :=
  ∀ c : ColId, (p.column c).engine = .reconciling → (p.column c).unreconciled ≠ []

/-- An active alarm of a kind stands for a subject (R134, R137). -/
def Part.alarmStands (p : Part) (k : AlarmKind) (x : Subject) : Prop :=
  ∃ a ∈ p.alarm.list, a.kind = k ∧ a.subject = x ∧ (a.state = .activeUnacked ∨ a.state = .activeAcked)

/-- No active alarm of a kind is the record of a subject (R134, R139). -/
def Part.alarmOver (p : Part) (k : AlarmKind) (x : Subject) : Prop :=
  ∀ a ∈ p.alarm.list, a.kind = k → a.subject = x → a.state ≠ .activeUnacked ∧ a.state ≠ .activeAcked

/-- No two alarm records share a number, and no two share kind and subject; the list holds at most 48 (R134, R135). -/
def Part.alarmsDistinct (p : Part) : Prop :=
  (p.alarm.list.map (·.number)).Nodup ∧ (p.alarm.list.map fun a => (a.kind, a.subject)).Nodup ∧
  p.alarm.list.length ≤ 48

/-- The alarm records are distinct and there is room for at least one more. -/
def Part.alarmRoom (p : Part) : Prop := p.alarmsDistinct ∧ p.alarm.list.length < 48

/-- The numbers of the live requests, in queue order. -/
def Part.liveNumbers (p : Part) : List Nat := p.sched.queue.map (·.number)

/-- A number given in turn: the first after the last one given, going on from the greatest to 1, that is not in use
(R57, R105, R135). -/
def nextFree (greatest last : Nat) (used : List Nat) (n : Nat) : Prop :=
  ∃ k, n = (last + k) % greatest + 1 ∧ n ∉ used ∧ ∀ j < k, (last + j) % greatest + 1 ∈ used

/-- The rank of a request at the current uptime: STAFF 0, PRIORITY and aged STANDARD 1, STANDARD 2 (R64). -/
def Part.selectionRank (p : Part) (r : Release) : Nat :=
  if r.cls = .staff then 0
  else if r.cls = .priority ∨ r.submit + p.late.settings.aging * 1000 ≤ p.uptime then 1
  else 2

/-- The budget of a mode: strike allowance, strike window in milliseconds, hold limit and worst rank started (R62). -/
def budgetOf : Mode → Nat × Ms × Nat × Nat
  | .mains => (4, 2000, 6, 2)
  | .reserve => (1, 5000, 2, 1)
  | .lowReserve => (1, 5000, 1, 0)

/-- The conditions of R61, written out: the request waits, its column is RUNNING and free of releases and of latches on
their way, hold limit, strike allowance and class of the mode in force allow one more, its vehicle carries no hold, and no
service hold stands against it. -/
def Part.mayStart (p : Part) (r : Release) : Prop :=
  let (allowance, window, holdLimit, worst) := budgetOf p.supply.mode
  r.phase = .waiting ∧ (p.column r.slot.col).engine = .running ∧
  (∀ q ∈ p.sched.queue, q.phase ≠ .waiting → q.slot.col ≠ r.slot.col) ∧
  (∀ (i : PosId) (l : Latch), (p.engine ⟨r.slot.col, i⟩).latch = some l → ∃ since, l = .closed since) ∧
  (p.sched.queue.filter fun q => decide (q.phase ≠ .waiting)).length < holdLimit ∧
  (p.sched.strikes.filter fun k => decide (p.uptime < k.charged + window)).length < allowance ∧
  p.selectionRank r ≤ worst ∧
  (∀ unit v, r.target.unit = some unit → p.findUnit unit = some v → v.hold = none) ∧
  (p.lines.holdUntil = none ∨ r.origin = .service)

/-- No request of the queue may be started: what every selection leaves (R60). -/
def Part.noneMayStart (p : Part) : Prop := ∀ r ∈ p.sched.queue, ¬ p.mayStart r

/-- A request may be started and is before every other one that may: better rank, then earlier submit time, then earlier
acceptance (R64). -/
def Part.isBest (p : Part) (r : Release) : Prop :=
  p.mayStart r ∧ ∃ pre post, p.sched.queue = pre ++ r :: post ∧
  (∀ q ∈ pre, p.mayStart q → p.selectionRank r < p.selectionRank q ∨
    (p.selectionRank r = p.selectionRank q ∧ r.submit < q.submit)) ∧
  ∀ q ∈ post, p.mayStart q → p.selectionRank r < p.selectionRank q ∨
    (p.selectionRank r = p.selectionRank q ∧ r.submit ≤ q.submit)

/-- A read of a position is pending or in progress (R25). -/
def Column.readStands (col : Column) (pos : PosId) : Prop :=
  (∃ r ∈ col.readList, r.pos = pos) ∨ ∃ rd, col.reader = some rd ∧ rd.pos = pos

/-- A read of a position with a purpose is pending or in progress, or the read in progress serves it (R25, R26). -/
def Column.readServes (col : Column) (pos : PosId) (x : Purpose) : Prop :=
  (∃ r ∈ col.readList, r.pos = pos ∧ r.purpose = x) ∨
  ∃ rd, col.reader = some rd ∧ rd.pos = pos ∧ (rd.purpose = x ∨ x ∈ rd.also)

/-- A request of the part before is selected in the part after, at the uptime there, with a strike charged. For a vehicle
it is VERIFYING, the HELD record of its slot RELEASING with the kind, and a read of the slot stands, which serves VERIFY
unless an ARRIVAL or RECHECK request stood; for a slot it is OPEN at once, its latch struck, and a read of the slot in
progress is back on the list (R28, R36, R65, R66, R69). -/
def Part.selected (p q : Part) (r : Release) : Prop :=
  let now := q.uptime
  let col := p.column r.slot.col
  let after := q.column r.slot.col
  ⟨now, false⟩ ∈ q.sched.strikes ∧
  (∀ kind, r.target.vehicleKind = some kind →
    (q.findRelease r.number).map (·.phase) = some (.verifying now) ∧
    (∀ tag unit m f, p.custody r.slot = .held tag unit m f → q.custody r.slot = .releasing tag unit m kind f) ∧
    after.readStands r.slot.pos ∧
    ((∀ x ∈ col.readList, x.pos = r.slot.pos → x.purpose = .verify ∨ x.purpose = .audit) →
      after.readServes r.slot.pos .verify)) ∧
  (r.target = .staffSlot →
    (q.findRelease r.number).map (·.phase) = some (.opened now now (now + p.late.settings.window * 1000) false) ∧
    (∀ since, (p.engine r.slot).latch = some (.closed since) → (q.engine r.slot).latch = some (.striking now)) ∧
    q.custody r.slot = p.custody r.slot ∧
    ∀ rd, col.reader = some rd → rd.pos = r.slot.pos →
      ⟨rd.pos, rd.purpose⟩ ∈ after.readList ∧ ∀ other, after.reader = some other → other.pos ≠ rd.pos)

/-- The audit of a RUNNING column follows the mode and the setting. It runs in MAINS with the setting on: its timer starts
5 s ahead, or goes on. Else its timer stops; where it ran, its AUDIT requests are gone, the pointer stands before the
earliest-placed of them, the other requests stay unless their release has ended, and an audit read in progress goes on
unless a STAFF_SLOT release of its slot has been selected (R28, R37, R39; of the class STAFF, as every one is, R55). -/
def Part.auditFollows (p q : Part) (c : ColId) : Prop :=
  let col := p.column c
  let after := q.column c
  let runs : Prop := q.supply.mode = .mains ∧ q.late.settings.audit = true
  let goesOn (pos : PosId) : Prop :=
    ∀ r ∈ p.sched.queue, r.slot = ⟨c, pos⟩ → ∃ r' ∈ q.sched.queue, r'.number = r.number
  (runs → after.auditNext = some (col.auditNext.getD (q.uptime + 5000)) ∧ after.auditPointer = col.auditPointer) ∧
  (¬ runs → after.auditNext = none ∧
    (col.auditNext = none ∨ (∀ r ∈ col.readList, r.purpose ≠ .audit) → after.auditPointer = col.auditPointer) ∧
    (col.auditNext ≠ none →
      (∀ pre r post, col.readList = pre ++ r :: post → (∀ x ∈ pre, x.purpose ≠ .audit) → r.purpose = .audit →
        after.auditPointer = r.pos - 1) ∧
      (∀ r ∈ col.readList, r.purpose = .audit → (∀ rd, col.reader = some rd → rd.pos ≠ r.pos) →
        ⟨r.pos, .audit⟩ ∉ after.readList) ∧
      ((col.readList.map (·.pos)).Nodup → ∀ r ∈ col.readList, r.purpose ≠ .audit → goesOn r.pos →
        after.readServes r.pos r.purpose) ∧
      (∀ rd, col.reader = some rd → rd.purpose = .audit →
        (∃ rd', after.reader = some rd' ∧ rd'.pos = rd.pos ∧ rd'.purpose = .audit ∧ rd'.attempt = rd.attempt) ∨
        (∃ r ∈ p.sched.queue, r.target = .staffSlot ∧ r.cls ≠ .staff) ∨
        ∃ r ∈ q.sched.queue, r.target = .staffSlot ∧ r.slot = ⟨c, rd.pos⟩ ∧ r.isOpen = true)))

/-- The uptime after a timed event whose moment is `t`: the event may come late, never early. -/
def Part.timeAt (p : Part) (t : Ms) : Ms := max p.uptime t

/-! ## Laws that every step keeps -/

/-- The staff outputs and the attention line follow the alarm list and the notice queue (R146, R168), and are released
while the part is halted (R152). -/
def Part.signalsFollow (p : Part) : Prop :=
  p.alarm.buzzer = (!p.halted && p.alarm.wantsBuzzer) ∧
  p.alarm.staffLamp = (!p.halted && p.alarm.wantsLamp) ∧
  p.lines.attention = (!p.halted && (p.alarm.wantsLamp || !p.lines.notices.isEmpty))

/-- The capacities of the collections (R40, R56, R57, R80, R92, R134, R166). -/
def Part.withinCapacities (p : Part) : Prop :=
  p.fleet.length ≤ 512 ∧ p.book.contracts.length ≤ 384 ∧ p.book.ring.length ≤ 64 ∧ p.sched.queue.length ≤ 16 ∧
  p.sched.ended.length ≤ 16 ∧ p.alarm.list.length ≤ 48 ∧ p.lines.notices.length ≤ 32

/-- The releases VERIFYING or OPEN are within the hold limit of the mode in force and at most one to a column (R61), the
live requests carry different numbers (R57), a VERIFYING one is for a vehicle: STAFF_SLOT opens at once (R65, R69), and
every STAFF_SLOT request is of the class STAFF (R55). -/
def Part.withinBudget (p : Part) : Prop :=
  p.sched.inFlight ≤ p.supply.mode.holdLimit ∧ p.liveNumbers.Nodup ∧ p.sched.queue.length ≤ 16 ∧
  (∀ r ∈ p.sched.queue, ∀ q ∈ p.sched.queue, r.inFlight = true → q.inFlight = true → r.slot.col = q.slot.col →
    r.number = q.number) ∧
  (∀ r ∈ p.sched.queue, r.isVerifying = true → r.target ≠ .staffSlot) ∧
  ∀ r ∈ p.sched.queue, r.target = .staffSlot → r.cls = .staff

/-- The chute log and the in-chute count are within their bounds, and no drop is being read while either is reached
(R104, R110). -/
def Part.chuteWithin (p : Part) : Prop :=
  p.chute.log.length ≤ 96 ∧ (p.chute.log.filter fun e => e.place == .inChute).length ≤ 64 ∧
  (∀ d x, p.chute.drop = some d → d.reading = some x →
    p.chute.log.length < 96 ∧ (p.chute.log.filter fun e => e.place == .inChute).length < 64)

/-- A start-up that has yet to record a fob in the pocket at a full chute: the one case in which the third row of R115
passes a bound of R110 (log entry 35). -/
def Part.unrecordedAtBound (p : Part) : Prop :=
  p.inStartUp = true ∧ p.chute.bounded = true ∧ p.chute.pocketFob = true ∧
  ∀ e ∈ p.chute.log, p.chute.pocketEntry ≠ some e.number

/-- The flap is locked and no drop is in progress while the part is not ready; while it is, the flap is locked exactly
while a bound is reached (R104, R110, R115). -/
def Part.flapFollows (p : Part) : Prop :=
  p.chute.flapLocked = (!p.isReady || p.chute.bounded) ∧ (p.isReady = false → p.chute.drop = none)

/-- The settings lie in their ranges (R120). -/
def Settings.inRange (st : Settings) : Prop :=
  st.grace ≤ 180 ∧ st.prewarn ≤ 240 ∧ st.grace + 1 ≤ st.t2 ∧ st.t2 ≤ 10080 ∧ st.t2 + 1 ≤ st.t3 ∧ st.t3 ≤ 20160 ∧
  5 ≤ st.window ∧ st.window ≤ 60 ∧ 10 ≤ st.aging ∧ st.aging ≤ 600

/-- The latch-fault flag is never set without the out-of-service flag (R2). -/
def Part.flagsAgree (p : Part) : Prop :=
  ∀ s : SlotId, (p.record s).latchFault = true → (p.record s).outOfService = true

/-- Unit numbers, tag IDs, home slots and contract numbers are each carried once (R40, R49, R80). -/
def Part.tablesDistinct (p : Part) : Prop :=
  (p.fleet.map (·.unit)).Nodup ∧ (p.fleet.map (·.tag)).Nodup ∧ (p.fleet.filterMap (·.home)).Nodup ∧
  (p.book.contracts.map (·.number)).Nodup

/-- No charge lies above 16,777,215 cents, a PENDING contract and a contract below level LATE are charged nothing
(R79, R125). -/
def Part.chargesLawful (p : Part) : Prop :=
  (∀ c ∈ p.book.contracts, c.charge ≤ 16777215 ∧
    ((∀ l, c.level = some l → l.rank < Level.late.rank) → c.charge = 0)) ∧
  ∀ r ∈ p.book.ring, r.charge ≤ 16777215 ∧ (r.level.rank < Level.late.rank → r.charge = 0)

/-- The records are lawful: the laws above, and no contract is open while the clock is UNSET (R117). -/
def Part.recordsLawful (p : Part) : Prop :=
  p.late.settings.inRange ∧ p.flagsAgree ∧ p.tablesDistinct ∧ p.alarmsDistinct ∧ p.chargesLawful ∧
  (p.late.clock = .unset → p.book.contracts = [])

end Sys2Proof.Machine
end

