-- ==== Sys2Proof/Certificates/Slice0/Obligations.lean ====
section
/-! DEFINITION. The statements about the part, for the provers. Each docstring names the rules a statement formalises,
or the model's choice it rests on. -/

section

open Sys2Proof Sys2Proof.Machine

/-- Every step with a command waiting handles the command at the front of the queue, and that one only: the machine's
step is the command's meaning on the state with the rest of the queue. -/
def Obligations.StepTakesFront : Prop :=
  ∀ (c : Instr) (s : State), step { s with pending := c :: s.pending } = exec c s

/-- Every command answers a next state in every state, and no command touches the queue: the part never stops in a
fault or a refusal. -/
def Obligations.ExecCompletes : Prop :=
  ∀ (c : Instr) (s : State), ∃ p : Part, exec c s = .next { s with part := p }

/-- With no command waiting, one millisecond passes where no event of the part's own is due; where some are, one of
them, freely chosen, is put in the queue and the part waits for its handling (the model's own: log entries 3 and 4). -/
def Obligations.IdleStep : Prop :=
  ∀ s : State, s.pending = [] →
    (s.part.dueEvents = [] → step s = .next { s with part := s.part.elapse 1 }) ∧
    (s.part.dueEvents ≠ [] → ∃ e ∈ s.part.dueEvents, ∃ n,
      step s = .next { part := { s.part with choices := n }, pending := [e] })

/-- The rows 1 to 3 of R164: a kind byte that names no kind is answered UNKNOWN_KIND; a body of another length than its
kind's is answered BAD_LENGTH; SERVICE HOLD and FACTORY CLEAR on the branch line are answered NOT_PERMITTED. Nothing
but the lines changes. -/
def Obligations.DispatchRows : Prop :=
  (∀ (h : ReqHdr) (kind : Byte) (s : State), s.part.listens h →
    exec (.unknownKind h kind) s =
      .next (s.answering (.unknownKind h kind) h kind .unknownKind)) ∧
  (∀ (c : Instr) (h : ReqHdr) (kind : Byte) (body : List Byte) (s : State),
    encodeRequest c = some (h, kind, body) → s.part.listens h → h.bodyLen ≠ body.length →
    exec c s = .next (s.answering c h kind .badLength)) ∧
  (∀ (c : Instr) (h : ReqHdr) (kind : Byte) (body : List Byte) (s : State),
    encodeRequest c = some (h, kind, body) → s.part.listens h → h.bodyLen = body.length → h.line = .branch →
    kind = 0x30#8 ∨ kind = 0x31#8 →
    exec c s = .next (s.answering c h kind .notPermitted))

/-- A request addressed to the part at an occupied buffer is discarded: LINE_OVERRUN is set, the receiver hunts, the
buffer and the reply on the line stay, and no block changes (R163). The command LINE_OVERRUN says the same of a request
whose kind does not matter. A frame on the branch line while the part sends its reply there is lost: nothing changes
and no flag is set (R163; the moment at which the part begins to send is a free value, log entry 15). -/
def Obligations.OverrunDiscards : Prop :=
  (∀ (c : Instr) (h : ReqHdr) (s : State),
    ((∃ kind body, encodeRequest c = some (h, kind, body)) ∨ ∃ kind, c = .unknownKind h kind) →
    s.part.halted = false → h.broadcast = false → (s.part.line h.line).buffer.isSome = true →
    s.part.deaf h.line = false →
    exec c s = .next ⟨(s.part.hear h.line).flagLineOverrun, s.pending⟩) ∧
  (∀ (l : Line) (s : State), s.part.halted = false → (s.part.line l).buffer.isSome = true → s.part.deaf l = false →
    exec (.lineOverrun l) s = .next ⟨(s.part.hear l).flagLineOverrun, s.pending⟩) ∧
  (∀ (l : Line) (p : Part),
    (p.hear l).flagLineOverrun.lines.flags = { p.lines.flags with lineOverrun := true } ∧
    ((p.hear l).flagLineOverrun.line l).buffer = (p.line l).buffer ∧
    ((p.hear l).flagLineOverrun.line l).reply = (p.line l).reply ∧
    ((p.hear l).flagLineOverrun.line l).inFrame = false ∧
    p.sameTables (p.hear l).flagLineOverrun ∧ p.sameCabinet (p.hear l).flagLineOverrun ∧
    p.sameSupply (p.hear l).flagLineOverrun ∧ (p.hear l).flagLineOverrun.alarm = p.alarm ∧
    (p.hear l).flagLineOverrun.lines.notices = p.lines.notices) ∧
  (∀ (c : Instr) (s : State), s.part.deaf .branch = true →
    (∃ h kind body, encodeRequest c = some (h, kind, body) ∧ h.line = .branch) ∨
      (∃ h kind, c = .unknownKind h kind ∧ h.line = .branch) ∨ c = .lineOverrun .branch →
    exec c s = .next s) ∧
  (∀ (l : Line) (p : Part), p.deaf l = true ↔ l = .branch ∧ p.lines.branch.buffer.isSome = true ∧
    ∃ moment, p.lines.branch.sendFrom = some moment ∧ moment ≤ p.uptime)

/-- A refused request changes nothing: whatever the kind and whoever refuses it, the part after the reply differs from
the part before by the receipt of the request and by the reply alone (R165, Note 2). Receipt and reply change this much:
the buffer holds the request, the receiver hunts, the reply stands on the line, and a standing service hold's timer
starts again for a request on the service line; nothing else of the part changes but the model's own counter of free
choices (R163, R165, R170). The part begins to send the reply within 20 ms (R165; when within them is a free value, log
entry 15). -/
def Obligations.RefusedChangesNothing : Prop :=
  (∀ (c : Instr) (h : ReqHdr) (kind : Byte) (body : List Byte) (s t : State) (r : Reply),
    encodeRequest c = some (h, kind, body) → s.part.listens h → exec c s = .next t →
    t.part.replyOn h = some r → r.refuses = true →
    t = s.answering c h kind r) ∧
  (∀ (p : Part) (c : Instr) (h : ReqHdr) (kind : Byte) (r : Reply),
    let q := p.answered (p.received c h) h kind r
    (∃ moment, p.uptime ≤ moment ∧ moment ≤ p.uptime + 20 ∧
      q.line h.line = ⟨false, some c, some ⟨p.replyAddress h.line, kind, h.tag, r⟩, some moment⟩) ∧
    (∀ l, l ≠ h.line → q.line l = p.line l) ∧
    q.lines.holdUntil = (if h.line = .service then p.lines.holdUntil.map fun _ => p.uptime + 600000
      else p.lines.holdUntil) ∧
    q.lines.notices = p.lines.notices ∧ q.lines.counter = p.lines.counter ∧ q.lines.flags = p.lines.flags ∧
    q.lines.attention = p.lines.attention ∧ q.lines.unitAddress = p.lines.unitAddress ∧
    q.lines.baudOpen = p.lines.baudOpen ∧
    p.sameTables q ∧ p.sameCabinet q ∧ p.sameSupply q ∧ q.alarm = p.alarm)

/-- Broadcasts (R163, R164): one of a kind or a length that is not taken is ignored but for the receiver, and so is a
request marked broadcast on the service line (the model's reading, log entry 16). SET CLOCK, CONFIGURE and RESTART are
taken by the checks of a unicast request, and no reply is made: refused in start-up or under a service hold they change
the receiver alone; at an occupied buffer they are discarded with LINE_OVERRUN (the model's reading, log entry 13); taken
they have their effects, and the buffer is free when their handling ends (for RESTART one step with the start-up that
follows, log entry 14). While the part sends on the branch line a broadcast is lost. -/
def Obligations.Broadcasts : Prop :=
  (∀ (c : Instr) (h : ReqHdr) (kind : Byte) (body : List Byte) (s : State),
    encodeRequest c = some (h, kind, body) → s.part.halted = false → h.broadcast = true →
    (s.part.deaf h.line = true → exec c s = .next s) ∧
    (s.part.deaf h.line = false → h.line = .service ∨ broadcastTaken kind h.bodyLen = false →
      exec c s = .next ⟨s.part.hunt h.line, s.pending⟩) ∧
    (h.line = .branch → broadcastTaken kind h.bodyLen = true →
      (s.part.deaf .branch = false → s.part.lines.branch.buffer.isSome = true →
        exec c s = .next ⟨(s.part.hunt .branch).flagLineOverrun, s.pending⟩) ∧
      (s.part.lines.branch.buffer = none → s.part.inStartUp = true ∨ s.part.lines.holdUntil ≠ none →
        exec c s = .next ⟨s.part.hunt .branch, s.pending⟩))) ∧
  (∀ (h : ReqHdr) (kind : Byte) (s : State), s.part.halted = false → h.broadcast = true →
    s.part.deaf h.line = false → exec (.unknownKind h kind) s = .next ⟨s.part.hunt h.line, s.pending⟩) ∧
  (∀ (kind : Byte) (n : Nat), broadcastTaken kind n = true ↔
    (kind = 0x10#8 ∧ n = 4) ∨ (kind = 0x11#8 ∧ n = 10) ∨ (kind = 0x28#8 ∧ n = 0)) ∧
  (∀ (p : Part) (l : Line), (p.hunt l).line l = { p.line l with inFrame := false } ∧
    ((p.hunt l).flagLineOverrun.line l) = { p.line l with inFrame := false }) ∧
  (∀ (h : ReqHdr) (i : StartInputs) (s : State), s.part.isReady = true → h.broadcast = true → h.line = .branch →
    h.bodyLen = 0 → s.part.lines.holdUntil = none → s.part.lines.branch.buffer = none →
    exec (.restart h i) s = .next ⟨(s.part.hunt .branch).startUp .restart i false, s.pending⟩ ∧
    ((s.part.hunt .branch).startUp .restart i false).lines.branch =
      { s.part.lines.branch with inFrame := false, sendFrom := none }) ∧
  (∀ (h : ReqHdr) (seconds : BitVec 32) (s : State), s.part.isReady = true → h.broadcast = true → h.line = .branch →
    h.bodyLen = 4 → s.part.lines.holdUntil = none → s.part.lines.branch.buffer = none →
    ∃ t, exec (.setClock h seconds) s = .next t ∧ t.pending = s.pending ∧ t.part.late.count = seconds ∧
      t.part.late.clock = .set ∧
      t.part.lines.branch = { s.part.lines.branch with inFrame := false } ∧
      t.part.lines.service = s.part.lines.service) ∧
  (∀ (h : ReqHdr) (grace prewarn : Byte) (t2 t3 : BitVec 16) (window : Byte) (aging : BitVec 16) (audit : Byte)
    (s : State), s.part.isReady = true → h.broadcast = true → h.line = .branch → h.bodyLen = 10 →
    s.part.lines.holdUntil = none → s.part.lines.branch.buffer = none → audit.toNat ≤ 1 →
    ∃ t, exec (.configure h grace prewarn t2 t3 window aging audit) s = .next t ∧ t.pending = s.pending ∧
      t.part.late.settings = clampedSettings grace prewarn t2 t3 window aging (audit == 1#8) ∧
      t.part.lines.branch = { s.part.lines.branch with inFrame := false } ∧
      t.part.lines.service = s.part.lines.service)

/-! ## Queries -/

/-- IDENTIFY, STATUS and READ SETTINGS are answered DONE at any time, start-up and service hold included (R171, R169,
R120). STATUS shows the six flags and clears them; the other two change nothing. In the fitted set, column 1 is the
least significant bit. -/
def Obligations.IdentifyStatusSettings : Prop :=
  (∀ (h : ReqHdr) (s : State), s.part.takes h 0 →
    exec (.identify h) s = .next (s.answering (.identify h) h 0x01#8
      (.done (.identify s.part.lines.unitAddress s.part.lines.baudOpen s.part.fittedSet
        (24 * s.part.fittedCount))))) ∧
  (∀ (p : Part) (c : ColId), p.fittedSet.getLsbD c.val = (p.column c).fitted) ∧
  (∀ (h : ReqHdr) (s : State), s.part.takes h 0 →
    exec (.status h) s = .next ⟨s.part.answered ((s.part.received (.status h) h).setFlags fun _ => Flags.clear) h 0x02#8
      (.done (.status
        { mode := s.part.supply.mode, ready := s.part.isReady, hold := s.part.lines.holdUntil.isSome
          clock := s.part.late.clock, live := s.part.sched.queue.length
          opened := (s.part.sched.queue.filter Release.isOpen).length
          contracts := s.part.book.contracts.length, alarms := s.part.alarm.list.length
          inChute := (s.part.chute.log.filter fun e => e.place == .inChute).length
          notices := s.part.lines.notices.length, flags := s.part.lines.flags })), s.pending⟩) ∧
  (∀ (h : ReqHdr) (s : State), s.part.takes h 0 →
    exec (.readSettings h) s = .next (s.answering (.readSettings h) h 0x0B#8
      (.done (.settings s.part.late.settings s.part.late.count s.part.late.clock s.part.late.sweepNumber
        s.part.late.latestSweep s.part.late.sweep.isSome))))

/-- FETCH NOTICES returns the oldest notices, as many as fit a body of 240 bytes and at most 6, in queue order, and
takes them out; the attention line is decided afresh (R167, R168). Nothing else changes. -/
def Obligations.FetchNotices : Prop :=
  ∀ (h : ReqHdr) (s : State), s.part.takes h 0 → ∃ t taken left,
    exec (.fetchNotices h) s = .next t ∧ t.pending = s.pending ∧
    s.part.lines.notices = taken ++ left ∧ t.part.lines.notices = left ∧
    t.part.replyOn h = some (.done (.notices left.length taken)) ∧
    taken.length ≤ 6 ∧ (taken.flatMap Notice.bytes).length + 3 ≤ 240 ∧
    (∀ n rest, left = n :: rest → taken.length = 6 ∨ 240 < (taken.flatMap Notice.bytes).length + n.bytes.length + 3) ∧
    t.part.lines.attention = (t.part.alarm.staffLamp || !left.isEmpty) ∧
    s.part.sameTables t.part ∧ s.part.sameCabinet t.part ∧ s.part.sameSupply t.part ∧
    t.part.alarm.list = s.part.alarm.list ∧ t.part.alarm.overflow = s.part.alarm.overflow ∧
    t.part.lines.counter = s.part.lines.counter ∧ t.part.lines.flags = s.part.lines.flags

/-- READ SLOT returns the records of the slots from the first one on, as many as the count says; a first slot or a
count out of range, or a run that passes slot 384, is refused BAD_FIELD (R164, Note 1). Which index is answered for a run
that passes slot 384, and which where first slot and count are both out of range, is the model's choice (log entry 9). It
changes nothing. -/
def Obligations.ReadSlot : Prop :=
  ∀ (h : ReqHdr) (first : BitVec 16) (count : Byte) (s : State), s.part.takes h 3 →
    let answer : Reply → Host.Outcome State Fault Refusal := fun r =>
      .next (s.answering (.readSlot h first count) h 0x04#8 r)
    (1 ≤ first.toNat → 1 ≤ count.toNat → count.toNat ≤ 16 → first.toNat + count.toNat ≤ 385 →
      ∃ records, records.length = count.toNat ∧
        (∀ i, i < count.toNat → ∃ x, slotNumber x = first.toNat + i ∧ records[i]? = some (s.part.record x)) ∧
        exec (.readSlot h first count) s = answer (.done (.slots first.toNat records))) ∧
    (first.toNat = 0 ∨ 384 < first.toNat → exec (.readSlot h first count) s = answer (.badField 1)) ∧
    (1 ≤ first.toNat → first.toNat ≤ 384 →
      count.toNat = 0 ∨ 16 < count.toNat ∨ 385 < first.toNat + count.toNat →
      exec (.readSlot h first count) s = answer (.badField 2))

/-- READ VEHICLE names a unit number or a tag ID and returns the whole record found, as it stands at the dispatch; a
number or a tag that no record has is answered NOT_FOUND. It changes nothing (R54). -/
def Obligations.ReadVehicle : Prop :=
  ∀ (h : ReqHdr) (unit : BitVec 24) (tag : BitVec 32) (s : State), s.part.takes h 7 →
    let answer : Reply → Host.Outcome State Fault Refusal := fun r =>
      .next (s.answering (.readVehicle h unit tag) h 0x05#8 r)
    (1 ≤ unit.toNat → unit.toNat ≤ 999999 → tag.toNat = 0 →
      (∀ v, s.part.findUnit unit.toNat = some v → exec (.readVehicle h unit tag) s = answer (.done (.vehicle v))) ∧
      ((∀ v ∈ s.part.fleet, v.unit ≠ unit.toNat) → exec (.readVehicle h unit tag) s = answer .notFound)) ∧
    (unit.toNat = 0 → 1 ≤ tag.toNat → tag.toNat ≤ 4294967294 →
      (∀ v, s.part.findTag tag.toNat = some v → exec (.readVehicle h unit tag) s = answer (.done (.vehicle v))) ∧
      ((∀ v ∈ s.part.fleet, v.tag ≠ tag.toNat) → exec (.readVehicle h unit tag) s = answer .notFound))

/-- READ CONTRACT returns the contract's record as it stands, with the position of an ACTIVE contract in the due list;
a number out of range is refused BAD_FIELD, index 1, and one that no open contract holds is answered NOT_FOUND. It
changes nothing (R93). -/
def Obligations.ReadContract : Prop :=
  ∀ (h : ReqHdr) (contract : BitVec 32) (s : State), s.part.takes h 4 →
    let answer : Reply → Host.Outcome State Fault Refusal := fun r =>
      .next (s.answering (.readContract h contract) h 0x06#8 r)
    (contract.toNat = 0 ∨ contract.toNat = 4294967295 →
      exec (.readContract h contract) s = answer (.badField 1)) ∧
    (1 ≤ contract.toNat → contract.toNat ≤ 4294967294 →
      ((∀ c ∈ s.part.book.contracts, c.number ≠ contract.toNat) →
        exec (.readContract h contract) s = answer .notFound) ∧
      (∀ c, s.part.findContract contract.toNat = some c → ∃ position,
        exec (.readContract h contract) s = answer (.done (.contract c position)) ∧
        (∀ n, position = some n → ∃ d, s.part.book.dueList[n - 1]? = some d ∧ 1 ≤ n ∧ d.number = c.number) ∧
        (c.isActive = true → position ≠ none) ∧
        (c.isActive = false → (∀ d ∈ s.part.book.contracts, d.number = c.number → d = c) → position = none)))

/-- LIST DUE returns the number of contracts in the due list and up to 12 of its entries from the start position on, in
due-list order; a start position of 0 is refused BAD_FIELD, index 1, and one past the end gives no entries. It changes
nothing (R94). -/
def Obligations.ListDue : Prop :=
  ∀ (h : ReqHdr) (start : BitVec 16) (s : State), s.part.takes h 2 →
    let answer : Reply → Host.Outcome State Fault Refusal := fun r =>
      .next (s.answering (.listDue h start) h 0x07#8 r)
    (start.toNat = 0 → exec (.listDue h start) s = answer (.badField 1)) ∧
    (1 ≤ start.toNat → ∃ entries,
      exec (.listDue h start) s = answer (.done (.due s.part.book.dueList.length entries)) ∧
      entries.length = min 12 (s.part.book.dueList.length + 1 - start.toNat) ∧
      (∀ i, i < entries.length → entries[i]? = s.part.book.dueList[start.toNat - 1 + i]?) ∧
      (s.part.book.dueList.length < start.toNat → entries = []))

/-- The due list holds every ACTIVE contract and no PENDING one, each once, by due minute, earliest first, and by
contract number, lowest first, among equal due minutes (R82). -/
def Obligations.DueListOrder : Prop :=
  ∀ b : ContractTable,
    b.dueList.Perm (b.contracts.filter Contract.isActive) ∧
    b.dueList.Pairwise fun c d => c.due < d.due ∨ (c.due = d.due ∧ c.number ≤ d.number)

/-- LIST CLOSED, over a ring whose numbers rise: the reply carries the count, the oldest and the newest number, and the
first 8 records whose number is not below the one given (R95; over a ring that has gone on from the last number to 1
the place of a number is counted forward from the oldest record). Over a ring whose numbers follow one another, going on
from 4,294,967,295 to 1, 0 starts at the oldest record, a number held at its record, one that lies 1 to 2,147,483,647
steps forward of the newest gives no records, and any other starts at the oldest (R91, R95). It changes nothing. -/
def Obligations.ListClosed : Prop :=
  (∀ (h : ReqHdr) (sequence : BitVec 32) (s : State), s.part.takes h 4 →
    s.part.book.ring.Pairwise (fun a b => a.sequence < b.sequence) →
    (∀ r ∈ s.part.book.ring, 1 ≤ r.sequence ∧ r.sequence ≤ 4294967295) →
    (∀ r, s.part.book.ring.getLast? = some r →
      sequence.toNat ≤ r.sequence + 2147483647 ∧ (sequence.toNat = 0 ∨ r.sequence ≤ sequence.toNat + 2147483647)) →
    exec (.listClosed h sequence) s = .next (s.answering (.listClosed h sequence) h 0x08#8
      (.done (.closed s.part.book.ring.length (s.part.book.ring.head?.map (·.sequence))
        (s.part.book.ring.getLast?.map (·.sequence))
        ((s.part.book.ring.filter fun r => decide (sequence.toNat ≤ r.sequence)).head?.map (·.sequence))
        ((s.part.book.ring.filter fun r => decide (sequence.toNat ≤ r.sequence)).take 8))))) ∧
  (∀ (h : ReqHdr) (sequence : BitVec 32) (s : State), s.part.takes h 4 → s.part.book.ring.length ≤ 64 →
    let ring := s.part.book.ring
    (∀ r ∈ ring, 1 ≤ r.sequence ∧ r.sequence ≤ 4294967295) →
    (∀ (i : Nat) (a b : ClosingRecord), ring[i]? = some a → ring[i + 1]? = some b →
      b.sequence = if a.sequence = 4294967295 then 1 else a.sequence + 1) →
    let answer (records : List ClosingRecord) : Prop :=
      exec (.listClosed h sequence) s = .next (s.answering (.listClosed h sequence) h 0x08#8
        (.done (.closed ring.length (ring.head?.map (·.sequence)) (ring.getLast?.map (·.sequence))
          (records.head?.map (·.sequence)) (records.take 8))))
    (sequence.toNat = 0 → answer ring) ∧
    (∀ (i : Nat) (r : ClosingRecord), ring[i]? = some r → r.sequence = sequence.toNat → answer (ring.drop i)) ∧
    (∀ newest, ring.getLast? = some newest → sequence.toNat ≠ 0 → (∀ r ∈ ring, r.sequence ≠ sequence.toNat) →
      let forward := (sequence.toNat + 4294967295 - newest.sequence) % 4294967295
      (forward ≤ 2147483647 → answer []) ∧ (2147483647 < forward → answer ring)))

/-- LIST CHUTE returns the number of entries, the in-chute count, the flap lock, whether a drop is in progress and up to
10 entries from the start position on, in drop order; a start position of 0 is refused BAD_FIELD, index 1, and one past
the end gives no entries. It is answered during start-up and service hold and changes nothing (R114). -/
def Obligations.ListChute : Prop :=
  ∀ (h : ReqHdr) (start : Byte) (s : State), s.part.takes h 1 →
    let answer : Reply → Host.Outcome State Fault Refusal := fun r =>
      .next (s.answering (.listChute h start) h 0x09#8 r)
    (start.toNat = 0 → exec (.listChute h start) s = answer (.badField 1)) ∧
    (1 ≤ start.toNat → ∃ entries,
      exec (.listChute h start) s = answer (.done (.chute s.part.chute.log.length
        (s.part.chute.log.filter fun e => e.place == .inChute).length s.part.chute.flapLocked
        s.part.chute.drop.isSome entries)) ∧
      entries.length = min 10 (s.part.chute.log.length + 1 - start.toNat) ∧
      (∀ i, i < entries.length → entries[i]? = s.part.chute.log[start.toNat - 1 + i]?) ∧
      (s.part.chute.log.length < start.toNat → entries = []))

/-- LIST ALARMS returns the number of records, the overflow condition and up to 8 records in ascending order of number,
beginning with the first whose number is not below the one given; a starting number greater than every number gives no
records. It is answered during start-up and service hold and changes nothing (R144). -/
def Obligations.ListAlarms : Prop :=
  ∀ (h : ReqHdr) (start : BitVec 16) (s : State), s.part.takes h 2 → ∃ sorted : List Alarm,
    sorted.Perm s.part.alarm.list ∧ sorted.Pairwise (fun a b : Alarm => a.number ≤ b.number) ∧
    exec (.listAlarms h start) s = .next (s.answering (.listAlarms h start) h 0x0A#8
      (.done (.alarms s.part.alarm.list.length s.part.alarm.overflow
        ((sorted.filter fun a => decide (start.toNat ≤ a.number)).take 8)))) ∧
    ((∀ a ∈ s.part.alarm.list, a.number < start.toNat) →
      (sorted.filter fun a => decide (start.toNat ≤ a.number)).take 8 = [])

/-! ## Commands on the clock, the settings and the fleet table -/

/-- The requests that change custody, vehicles, contracts, settings or the clock, CHUTE EMPTIED and RESTART, with their
fields in range, are refused STARTING while start-up is in progress, and SERVICE_HOLD on the branch line while a service
hold stands, and change nothing then (R155, R170 and the rule of each). FACTORY CLEAR is refused STARTING on the service
line, and ACK ALARM SERVICE_HOLD on the branch line, also in start-up (R140). That STARTING comes before SERVICE_HOLD for
the requests whose rules give no order is the model's choice (log entry 37). -/
def Obligations.StartingAndHold : Prop :=
  (∀ (c : Instr) (h : ReqHdr) (kind : Byte) (body : List Byte) (s : State),
    encodeRequest c = some (h, kind, body) → s.part.takes h body.length →
    ((∃ seconds, c = .setClock h seconds) ∨
      (∃ g p u v w a b, c = .configure h g p u v w a b ∧ b.toNat ≤ 1) ∨
      (∃ unit, (c = .retireVehicle h unit ∨ c = .holdVehicle h unit ∨ c = .unholdVehicle h unit ∨
        c = .accountVehicle h unit) ∧ validUnit unit = true) ∨
      (∃ unit tag home, c = .enrolVehicle h unit tag home ∧ validUnit unit = true ∧ validTag tag.toNat = true ∧
        home.toNat ≤ 384) ∨
      (∃ unit slot, c = .setHomeSlot h unit slot ∧ validUnit unit = true ∧ slot.toNat ≤ 384) ∨
      (∃ n unit cls due hourRate dayRate grace, c = .openContract h n unit cls due hourRate dayRate grace ∧
        validContract n = true ∧ validUnit unit = true ∧ renterClass cls ≠ none ∧ dayRate.toNat ≤ 1000000) ∨
      (∃ n due, c = .extendContract h n due ∧ validContract n = true) ∨
      (∃ n reason, c = .closeContract h n reason ∧ validContract n = true ∧ manualReason reason ≠ none) ∨
      (∃ k unit slot, c = .release h k unit slot ∧
        (((k = 2#8 ∨ k = 3#8) ∧ validUnit unit = true ∧ slot.toNat = 0) ∨
          (k = 4#8 ∧ unit.toNat = 0 ∧ validSlot slot = true))) ∨
      (∃ n, c = .cancelRelease h n ∧ n.toNat ≠ 0) ∨
      (∃ slot setting, c = .slotServiceOff h slot setting ∧ validSlot slot = true ∧ setting.toNat ≤ 1) ∨
      (∃ slot, c = .slotServiceOn h slot ∧ validSlot slot = true) ∨ c = .chuteEmptied h ∨ ∃ i, c = .restart h i) →
    (s.part.inStartUp = true → exec c s = .next (s.answering c h kind .starting)) ∧
    (s.part.isReady = true → s.part.heldOff h.line = true → exec c s = .next (s.answering c h kind .serviceHold))) ∧
  (∀ (h : ReqHdr) (i : StartInputs) (s : State), s.part.takes h 0 → h.line = .service → s.part.inStartUp = true →
    exec (.factoryClear h i) s = .next (s.answering (.factoryClear h i) h 0x31#8 .starting)) ∧
  (∀ (c : Instr) (h : ReqHdr) (s : State), s.part.takes h 3 → s.part.heldOff h.line = true →
    (∃ n, n.toNat ≠ 0 ∧ c = .ackAlarm h n 0#8) ∨ (∃ n, c = .ackAlarmAll h n) →
    exec c s = .next (s.answering c h 0x27#8 .serviceHold))

/-- SET CLOCK: the count and the state SET, the end of the CLOCK_SUSPECT condition, the retained minute, the pending
boundary discarded and a full walk requested; nothing is evaluated, and no other table changes (R119; that the fraction
of a second runs on is the model's, log entry 4). -/
def Obligations.SetClock : Prop :=
  ∀ (h : ReqHdr) (seconds : BitVec 32) (s : State), s.part.commands h 4 → ∃ t,
    exec (.setClock h seconds) s = .next t ∧ t.pending = s.pending ∧
    t.part.replyOn h = some (.done (.clock seconds)) ∧
    t.part.late = { s.part.late with
      count := seconds, subMs := s.part.late.subMs % 1000, clock := .set, retainedMinute := seconds.toNat / 60
      pendingBoundary := false, fullWalk := true } ∧
    t.part.alarm.list = (Part.endCondition { s.part with late := { s.part.late with count := seconds } }
      .clockSuspect .clock).alarm.list ∧
    t.part.fleet = s.part.fleet ∧ t.part.book = s.part.book ∧ t.part.chute = s.part.chute ∧
    s.part.sameCabinet t.part ∧ s.part.sameSupply t.part

/-- CONFIGURE: the clamped settings replace the record and are returned; a full walk is requested where the default
grace, the prewarn or a threshold changes; the audit of every RUNNING column follows the audit setting (R37, R39); an
audit field that is neither off nor on is refused BAD_FIELD, index 7, before any other refusal (that order is the model's
choice, log entry 37). The clamped values lie in their ranges, and values in their ranges are taken as they are (R121,
R120). -/
def Obligations.Configure : Prop :=
  (∀ (h : ReqHdr) (g p : Byte) (t2 t3 : BitVec 16) (w : Byte) (ag : BitVec 16) (audit : Byte) (s : State),
    s.part.commands h 10 → audit.toNat ≤ 1 → ∃ t,
      exec (.configure h g p t2 t3 w ag audit) s = .next t ∧ t.pending = s.pending ∧
      t.part.replyOn h = some (.done (.configured (clampedSettings g p t2 t3 w ag (audit == 1#8)))) ∧
      t.part.late = { s.part.late with
        settings := clampedSettings g p t2 t3 w ag (audit == 1#8)
        fullWalk := t.part.late.fullWalk } ∧
      (t.part.late.fullWalk = true ↔ s.part.late.fullWalk = true ∨
        ¬ (t.part.late.settings.grace = s.part.late.settings.grace ∧
          t.part.late.settings.prewarn = s.part.late.settings.prewarn ∧
          t.part.late.settings.t2 = s.part.late.settings.t2 ∧
          t.part.late.settings.t3 = s.part.late.settings.t3)) ∧
      (∀ c : ColId, (s.part.column c).engine = .running → s.part.auditFollows t.part c) ∧
      t.part.liveNumbers = s.part.liveNumbers ∧
      t.part.fleet = s.part.fleet ∧ t.part.book = s.part.book ∧ t.part.chute = s.part.chute ∧
      s.part.sameSupply t.part) ∧
  (∀ (h : ReqHdr) (g p : Byte) (t2 t3 : BitVec 16) (w : Byte) (ag : BitVec 16) (audit : Byte) (s : State),
    s.part.takes h 10 → 1 < audit.toNat → exec (.configure h g p t2 t3 w ag audit) s =
      .next (s.answering (.configure h g p t2 t3 w ag audit) h 0x11#8 (.badField 7))) ∧
  (∀ (g p : Byte) (t2 t3 : BitVec 16) (w : Byte) (ag : BitVec 16) (audit : Bool),
    (clampedSettings g p t2 t3 w ag audit).inRange ∧
    (Settings.inRange ⟨g.toNat, p.toNat, t2.toNat, t3.toNat, w.toNat, ag.toNat, audit⟩ →
      clampedSettings g p t2 t3 w ag audit = ⟨g.toNat, p.toNat, t2.toNat, t3.toNat, w.toNat, ag.toNat, audit⟩))

/-- ENROL VEHICLE that passes its checks: a vehicle whose tag the part has not seen is AWAY; one whose tag stands in
FOREIGN(UNKNOWN) slots is IN at the slot with the lowest number, HELD there, and the others become DUPLICATE; else one
whose tag stands in UNKNOWN chute entries is DROPPED with the earliest of them, now NAMED, and the later ones become
CONFLICT (R45, R46, R47). It is refused DUPLICATE where the unit number, the tag or the home slot is taken, and TABLE_FULL
where the table holds 512 records, by the first of these that applies, and changes nothing then (R45). -/
def Obligations.EnrolVehicle : Prop :=
  (∀ (h : ReqHdr) (unit : BitVec 24) (tag : BitVec 32) (home : BitVec 16) (s : State), s.part.commands h 9 →
    1 ≤ unit.toNat → unit.toNat ≤ 999999 → 1 ≤ tag.toNat → tag.toNat ≤ 4294967294 → home.toNat ≤ 384 →
    let refused (r : Reply) : Prop := exec (.enrolVehicle h unit tag home) s =
      .next (s.answering (.enrolVehicle h unit tag home) h 0x12#8 r)
    let taken : Prop := (∃ v ∈ s.part.fleet, v.unit = unit.toNat) ∨ (∃ v ∈ s.part.fleet, v.tag = tag.toNat) ∨
      ∃ v ∈ s.part.fleet, home.toNat ≠ 0 ∧ v.home = slotField home
    (taken → refused .duplicate) ∧ (¬ taken → 512 ≤ s.part.fleet.length → refused .tableFull)) ∧
  ∀ (h : ReqHdr) (unit : BitVec 24) (tag : BitVec 32) (home : BitVec 16) (s : State), s.part.commands h 9 →
    1 ≤ unit.toNat → unit.toNat ≤ 999999 → 1 ≤ tag.toNat → tag.toNat ≤ 4294967294 → home.toNat ≤ 384 →
    s.part.findUnit unit.toNat = none → s.part.findTag tag.toNat = none →
    (∀ x, slotField home = some x → s.part.findHome x = none) → s.part.fleet.length < 512 → s.part.quiet →
    let v (st : VehicleStatus) : Vehicle :=
      ⟨unit.toNat, tag.toNat, st, slotField home, none, none, none, s.part.minute⟩
    let enrolled (st : VehicleStatus) (t : State) : Prop :=
      exec (.enrolVehicle h unit tag home) s = .next t ∧ t.pending = s.pending ∧
      t.part.replyOn h = some (.done (.enrolled st)) ∧ t.part.fleet = s.part.fleet ++ [v st] ∧
      t.part.book = s.part.book ∧ t.part.late = s.part.late ∧ t.part.sched = s.part.sched ∧ s.part.sameSupply t.part
    (s.part.adoptable tag.toNat = [] → s.part.chute.unknownEntries tag.toNat = [] → ∃ t, enrolled .away t ∧
      s.part.sameSlots t.part ∧ t.part.chute = s.part.chute ∧ t.part.alarm.list = s.part.alarm.list ∧
      t.part.lines.notices = s.part.lines.notices) ∧
    (∀ x others, s.part.adoptable tag.toNat = x :: others → (∀ r ∈ s.part.sched.queue, r.slot ≠ x) → ∃ t,
      enrolled (.inSlot x) t ∧
      (∃ reason arrived, s.part.custody x = .foreign tag.toNat reason arrived ∧
        t.part.custody x = .held tag.toNat unit.toNat arrived false) ∧
      (∀ y ∈ others, ∃ reason arrived, s.part.custody y = .foreign tag.toNat reason arrived ∧
        t.part.custody y = .foreign tag.toNat .duplicate arrived) ∧
      (∀ y, y ≠ x → y ∉ others → t.part.slot y = s.part.slot y) ∧
      t.part.chute.log = s.part.chute.log.map fun e =>
        if e.number ∈ s.part.chute.unknownEntries tag.toNat then { e with kind := .conflict tag.toNat } else e) ∧
    (∀ n later, s.part.adoptable tag.toNat = [] → s.part.chute.unknownEntries tag.toNat = n :: later →
      ∃ t, enrolled (.dropped n) t ∧ s.part.sameSlots t.part ∧
      t.part.chute.log = s.part.chute.log.map fun e =>
        if e.number ∈ later then { e with kind := .conflict tag.toNat }
        else if e.number = n then { e with kind := .named tag.toNat unit.toNat } else e)

/-- RETIRE VEHICLE and ACCOUNT VEHICLE. A vehicle that is AWAY, or IN with neither contract nor request, leaves the
table, and its HELD slot becomes FOREIGN(RETIRED) with its tag and arrival minute kept; a vehicle that is STRAY or OUT
for movement or staff becomes AWAY; every other vehicle is refused WRONG_STATE, and nothing changes (R48, R52; the detail
NONE is read from R165, Note 1, log entry 24). A slot that still stands RELEASING for the vehicle becomes
FOREIGN(RETIRED) too (R160). -/
def Obligations.RetireAndAccount : Prop :=
  ∀ (h : ReqHdr) (unit : BitVec 24) (v : Vehicle) (s : State), s.part.commands h 3 → 1 ≤ unit.toNat →
    unit.toNat ≤ 999999 → s.part.findUnit unit.toNat = some v →
    ((v.status = .away ∨ ((∃ x, v.status = .inSlot x) ∧ v.contract = none ∧ v.request = none)) → ∃ t,
      exec (.retireVehicle h unit) s = .next t ∧ t.pending = s.pending ∧ t.part.replyOn h = some (.done .bare) ∧
      t.part.fleet = s.part.fleet.filter (fun w => w.unit != unit.toNat) ∧
      (∀ x, v.status = .inSlot x → ∀ tag u arrived f, s.part.custody x = .held tag u arrived f →
        t.part.custody x = .foreign tag .retired arrived) ∧
      (∀ x, v.status = .inSlot x → ∀ tag u arrived k f, s.part.custody x = .releasing tag u arrived k f →
        t.part.custody x = .foreign tag .retired arrived) ∧
      (∀ y, v.status ≠ .inSlot y → t.part.slot y = s.part.slot y) ∧
      t.part.book = s.part.book ∧ t.part.chute = s.part.chute ∧ t.part.late = s.part.late ∧
      t.part.sched = s.part.sched ∧ t.part.alarm = s.part.alarm ∧
      t.part.lines.notices = s.part.lines.notices ∧ s.part.sameSupply t.part) ∧
    (¬ (v.status = .away ∨ ((∃ x, v.status = .inSlot x) ∧ v.contract = none ∧ v.request = none)) →
      exec (.retireVehicle h unit) s = .next (s.answering (.retireVehicle h unit) h 0x13#8 (.wrongState .none))) ∧
    (v.status = .stray ∨ v.status = .out .movement ∨ v.status = .out .staff → ∃ t,
      exec (.accountVehicle h unit) s = .next t ∧ t.pending = s.pending ∧ t.part.replyOn h = some (.done .bare) ∧
      t.part.fleet = s.part.fleet.map (fun w =>
        if w.unit = unit.toNat then { w with status := .away, lastChange := s.part.minute } else w) ∧
      t.part.alarm.list = (if v.status = .stray
        then (s.part.endCondition .forcedRemoval (.vehicle unit.toNat)).alarm.list else s.part.alarm.list) ∧
      t.part.book = s.part.book ∧ t.part.chute = s.part.chute ∧ t.part.late = s.part.late ∧
      s.part.sameCabinet t.part ∧ s.part.sameSupply t.part) ∧
    (¬ (v.status = .stray ∨ v.status = .out .movement ∨ v.status = .out .staff) →
      exec (.accountVehicle h unit) s = .next (s.answering (.accountVehicle h unit) h 0x17#8 (.wrongState .none)))

/-- SET HOME SLOT gives the named vehicle its home slot, or none, unless another vehicle names it (R49). LOCATE starts
the 30 s timer of the slot named, or of the named vehicle's slot, else of its home slot; a vehicle with neither is
refused WRONG_STATE (R53; the detail NONE is read from R165, Note 1, log entry 24). Nothing else changes. -/
def Obligations.SetHomeAndLocate : Prop :=
  (∀ (h : ReqHdr) (unit : BitVec 24) (slot : BitVec 16) (v : Vehicle) (s : State), s.part.commands h 5 →
    1 ≤ unit.toNat → unit.toNat ≤ 999999 → slot.toNat ≤ 384 → s.part.findUnit unit.toNat = some v →
    ((∀ w ∈ s.part.fleet, slot.toNat ≠ 0 → w.home = slotField slot → w.unit = unit.toNat) → ∃ t,
      exec (.setHomeSlot h unit slot) s = .next t ∧ t.pending = s.pending ∧
      t.part.replyOn h = some (.done .bare) ∧
      t.part.fleet = s.part.fleet.map (fun w =>
        if w.unit = unit.toNat then { w with home := slotField slot } else w) ∧
      t.part.book = s.part.book ∧ t.part.chute = s.part.chute ∧ t.part.late = s.part.late ∧
      s.part.sameCabinet t.part ∧ s.part.sameSupply t.part ∧ t.part.alarm = s.part.alarm ∧
      t.part.lines.notices = s.part.lines.notices) ∧
    ((∃ w ∈ s.part.fleet, slot.toNat ≠ 0 ∧ w.home = slotField slot ∧ w.unit ≠ unit.toNat) →
      exec (.setHomeSlot h unit slot) s = .next (s.answering (.setHomeSlot h unit slot) h 0x14#8 .duplicate))) ∧
  (∀ (h : ReqHdr) (unit : BitVec 24) (slot : BitVec 16) (s : State), s.part.takes h 5 → unit.toNat ≤ 999999 →
    slot.toNat ≤ 384 → (unit.toNat = 0 ∧ slot.toNat ≠ 0) ∨ (unit.toNat ≠ 0 ∧ slot.toNat = 0) →
    (∀ x, (unit.toNat = 0 ∧ slotField slot = some x) ∨
        (∃ v, s.part.findUnit unit.toNat = some v ∧ unit.toNat ≠ 0 ∧
          (v.status = .inSlot x ∨ ((∀ y, v.status ≠ .inSlot y) ∧ v.home = some x))) → ∃ t,
      exec (.locate h unit slot) s = .next t ∧ t.pending = s.pending ∧ t.part.replyOn h = some (.done (.located x)) ∧
      t.part.engine x = { s.part.engine x with locateUntil := some (s.part.uptime + 30000) } ∧
      t.part.record x = s.part.record x ∧ (∀ y, y ≠ x → t.part.slot y = s.part.slot y) ∧
      s.part.sameTables t.part ∧ t.part.sched = s.part.sched ∧ s.part.sameSupply t.part ∧
      t.part.alarm = s.part.alarm ∧ t.part.lines.notices = s.part.lines.notices) ∧
    (∀ v, s.part.findUnit unit.toNat = some v → unit.toNat ≠ 0 → (∀ y, v.status ≠ .inSlot y) → v.home = none →
      exec (.locate h unit slot) s = .next (s.answering (.locate h unit slot) h 0x18#8 (.wrongState .none))))

/-- HOLD VEHICLE sets a STAFF hold in every status, whatever hold stood before; a live request of the vehicle ends in
the same handling, CANCELLED where it was OPEN and HELD otherwise, and the vehicle's request link goes. UNHOLD VEHICLE
drops the hold, and no request that a selection could start is left waiting (R50, R51, R60). -/
def Obligations.HoldAndUnhold : Prop :=
  ∀ (h : ReqHdr) (unit : BitVec 24) (v : Vehicle) (s : State), s.part.commands h 3 → 1 ≤ unit.toNat →
    unit.toNat ≤ 999999 → s.part.findUnit unit.toNat = some v →
    (s.part.liveOf unit.toNat = [] → ∃ t,
      exec (.holdVehicle h unit) s = .next t ∧ t.pending = s.pending ∧ t.part.replyOn h = some (.done .bare) ∧
      t.part.fleet = s.part.fleet.map (fun w => if w.unit = unit.toNat then { w with hold := some .staff } else w) ∧
      t.part.book = s.part.book ∧ t.part.chute = s.part.chute ∧ t.part.late = s.part.late ∧
      t.part.liveNumbers = s.part.liveNumbers ∧ s.part.sameSupply t.part) ∧
    (∀ r, s.part.liveOf unit.toNat = [r] → s.part.liveNumbers.Nodup → ∃ t,
      exec (.holdVehicle h unit) s = .next t ∧ t.pending = s.pending ∧ t.part.replyOn h = some (.done .bare) ∧
      t.part.liveNumbers = s.part.liveNumbers.filter (fun n => n != r.number) ∧
      (r.number, if r.isOpen then ReleaseOutcome.cancelled else .held) ∈ t.part.sched.ended ∧
      (∀ w ∈ t.part.fleet, w.unit = unit.toNat → w.hold = some .staff ∧ w.request = none) ∧
      t.part.fleet.map (·.status) = s.part.fleet.map (·.status) ∧
      t.part.chute = s.part.chute ∧ t.part.late = s.part.late ∧ s.part.sameSupply t.part) ∧
    (∃ t, exec (.unholdVehicle h unit) s = .next t ∧ t.pending = s.pending ∧
      t.part.replyOn h = some (.done .bare) ∧
      t.part.fleet = s.part.fleet.map (fun w => if w.unit = unit.toNat then { w with hold := none } else w) ∧
      t.part.noneMayStart ∧ t.part.liveNumbers = s.part.liveNumbers ∧
      t.part.book = s.part.book ∧ t.part.chute = s.part.chute ∧ t.part.late = s.part.late ∧
      s.part.sameSupply t.part)

/-! ## Contracts and releases -/

/-- OPEN CONTRACT that passes the checks of R83 makes a PENDING contract with its terms and, in the same handling, a
CONTRACT request for the vehicle's slot with a number that no live request carries; the vehicle is linked to both, the
reply is ACCEPTED with the number, no request that may be started is left waiting, and the one that comes first by R64
has been selected, each selection charging one strike (R84, R59, R60, R61, R65). One that does not pass is refused by the
first row of R83 that applies, its row 8 by the rows 4 to 13 of R58, and changes nothing. -/
def Obligations.OpenContract : Prop :=
  (∀ (h : ReqHdr) (contract : BitVec 32) (unit : BitVec 24) (cls : Byte) (due : BitVec 32) (hourRate : BitVec 16)
    (dayRate : BitVec 32) (grace : Byte) (k : RenterClass) (v : Vehicle) (x : SlotId) (s : State),
    s.part.commands h 19 → 1 ≤ contract.toNat → contract.toNat ≤ 4294967294 → 1 ≤ unit.toNat →
    unit.toNat ≤ 999999 → renterClass cls = some k → dayRate.toNat ≤ 1000000 → s.part.late.clock ≠ .unset →
    s.part.minute < due.toNat → due.toNat ≤ s.part.minute + 131400 → s.part.findContract contract.toNat = none →
    s.part.book.contracts.length < 384 → s.part.findUnit unit.toNat = some v → v.request = none →
    v.contract = none → v.status = .inSlot x → v.hold = none → (s.part.record x).outOfService = false →
    (s.part.record x).unreachable = false → s.part.supply.mode ≠ .lowReserve → s.part.sched.queue.length < 16 →
    ∃ t n, exec (.openContract h contract unit cls due hourRate dayRate grace) s = .next t ∧
      t.pending = s.pending ∧ t.part.replyOn h = some (.accepted n) ∧
      1 ≤ n ∧ n ≤ 255 ∧ n ∉ s.part.liveNumbers ∧ t.part.liveNumbers = s.part.liveNumbers ++ [n] ∧
      (s.part.sched.lastNumber ≤ 255 → nextFree 255 s.part.sched.lastNumber s.part.liveNumbers n) ∧
      (∃ r ∈ t.part.sched.queue, r.number = n ∧ r.target = .contract unit.toNat contract.toNat ∧ r.slot = x ∧
        r.cls = (match k with | .standard => .standard | .priority => .priority) ∧ r.origin = h.line ∧
        r.submit = s.part.uptime) ∧
      t.part.book.contracts = s.part.book.contracts ++
        [⟨contract.toNat, unit.toNat, k, due.toNat, graceField grace, hourRate.toNat, dayRate.toNat, s.part.minute,
          .pending (some n), 0, false, 0, none⟩] ∧
      t.part.book.ring = s.part.book.ring ∧ t.part.book.closingSeq = s.part.book.closingSeq ∧
      t.part.fleet = s.part.fleet.map (fun w => if w.unit = unit.toNat
        then { w with request := some n, contract := some contract.toNat } else w) ∧
      (s.part.liveNumbers.Nodup →
        let queued : Part := { s.part with sched := { s.part.sched with queue := s.part.sched.queue ++
          [⟨n, .contract unit.toNat contract.toNat, x, (match k with | .standard => .standard | .priority => .priority),
            h.line, s.part.uptime, .waiting, false⟩] } }
        (∀ r, queued.isBest r → s.part.selected t.part r) ∧
        t.part.sched.strikes = s.part.sched.strikes ++
          List.replicate (t.part.sched.inFlight - s.part.sched.inFlight) ⟨s.part.uptime, false⟩) ∧
      t.part.noneMayStart ∧ t.part.chute = s.part.chute ∧ t.part.late = s.part.late ∧ s.part.sameSupply t.part) ∧
  (∀ (h : ReqHdr) (contract : BitVec 32) (unit : BitVec 24) (cls : Byte) (due : BitVec 32) (hourRate : BitVec 16)
    (dayRate : BitVec 32) (grace : Byte) (s : State), s.part.takes h 19 →
    let refused (r : Reply) : Prop := exec (.openContract h contract unit cls due hourRate dayRate grace) s =
      .next (s.answering (.openContract h contract unit cls due hourRate dayRate grace) h 0x20#8 r)
    (contract.toNat = 0 ∨ contract.toNat = 4294967295 → refused (.badField 1)) ∧
    (1 ≤ contract.toNat → contract.toNat ≤ 4294967294 →
      (unit.toNat = 0 ∨ 999999 < unit.toNat → refused (.badField 2)) ∧
      (1 ≤ unit.toNat → unit.toNat ≤ 999999 →
        (renterClass cls = none → refused (.badField 3)) ∧
        (renterClass cls ≠ none →
          (1000000 < dayRate.toNat → refused (.badField 6)) ∧
          (dayRate.toNat ≤ 1000000 → s.part.isReady = true → s.part.heldOff h.line = false →
            (s.part.late.clock = .unset → refused .clockUnset) ∧
            (s.part.late.clock ≠ .unset →
              (due.toNat ≤ s.part.minute ∨ s.part.minute + 131400 < due.toNat → refused (.badField 4)) ∧
              (s.part.minute < due.toNat → due.toNat ≤ s.part.minute + 131400 →
                ((∃ c ∈ s.part.book.contracts, c.number = contract.toNat) → refused .duplicate) ∧
                ((∀ c ∈ s.part.book.contracts, c.number ≠ contract.toNat) →
                  (384 ≤ s.part.book.contracts.length → refused .tableFull) ∧
                  (s.part.book.contracts.length < 384 →
                    ((∀ v ∈ s.part.fleet, v.unit ≠ unit.toNat) → refused .notFound) ∧
                    ∀ v, s.part.findUnit unit.toNat = some v →
                      (v.request ≠ none ∨ v.contract ≠ none → refused .duplicate) ∧
                      (v.request = none → v.contract = none →
                        ((∀ x, v.status ≠ .inSlot x) → refused (.wrongState .notIn)) ∧
                        ∀ x, v.status = .inSlot x →
                          (v.hold ≠ none → refused .onHold) ∧
                          (v.hold = none →
                            ((s.part.record x).outOfService = true → refused (.wrongState .slotOutOfService)) ∧
                            ((s.part.record x).outOfService = false →
                              ((s.part.record x).unreachable = true → refused (.wrongState .slotUnreachable)) ∧
                              ((s.part.record x).unreachable = false →
                                (s.part.supply.mode = .lowReserve → refused .reservePower) ∧
                                (s.part.supply.mode ≠ .lowReserve → 16 ≤ s.part.sched.queue.length →
                                  refused .queueFull))))))))))))))

/-- EXTEND CONTRACT replaces the due minute; a PENDING contract is not evaluated, and an ACTIVE one is evaluated at the
current minute, marked with the sweep number, and its level and charge are returned; a level reached at UNRETURNED from
below sets an escalation hold on a vehicle that carries none (R88, R126, R127, R51). -/
def Obligations.ExtendContract : Prop :=
  ∀ (h : ReqHdr) (contract due : BitVec 32) (c : Contract) (s : State), s.part.commands h 8 →
    1 ≤ contract.toNat → contract.toNat ≤ 4294967294 → s.part.findContract contract.toNat = some c →
    s.part.minute < due.toNat → due.toNat ≤ s.part.minute + 131400 →
    let extended (f : Contract → Contract) (d : Option (Level × Nat)) (t : State) : Prop :=
      exec (.extendContract h contract due) s = .next t ∧ t.pending = s.pending ∧
      t.part.replyOn h = some (.done (.extended d)) ∧
      t.part.book = { s.part.book with contracts := s.part.book.contracts.map fun d =>
        if d.number = contract.toNat then f d else d } ∧
      t.part.chute = s.part.chute ∧ t.part.late = s.part.late ∧ s.part.sameCabinet t.part ∧ s.part.sameSupply t.part
    (∀ request, c.state = .pending request → ∃ t, extended (fun d => { d with due := due.toNat }) none t ∧
      t.part.fleet = s.part.fleet ∧ t.part.alarm.list = s.part.alarm.list ∧
      t.part.lines.notices = s.part.lines.notices) ∧
    (∀ take level, c.state = .active take level →
      let e := evaluate s.part.late.settings { c with due := due.toNat } s.part.minute
      ∃ t, extended (fun d => { d with
        due := due.toNat, state := .active take e.level, hours := e.hours, charge := e.charge, capped := e.capped
        mark := some s.part.late.sweepNumber }) (some (e.level, e.charge)) t ∧
      (e.level = level → t.part.fleet = s.part.fleet ∧ t.part.alarm.list = s.part.alarm.list ∧
        t.part.lines.notices = s.part.lines.notices) ∧
      (e.level ≠ .unreturned → t.part.fleet = s.part.fleet) ∧
      (e.level = .unreturned → level ≠ .unreturned → t.part.fleet = s.part.fleet.map fun w =>
        if w.unit = c.unit then { w with hold := some (w.hold.getD .escalation) } else w))

/-- CLOSE CONTRACT of an ACTIVE contract evaluates it at the current minute, advances the closing sequence number by
one, from the last to 1, adds the closing record to the ring, which keeps the newest 64, takes the contract out of the
table, and makes its vehicle AWAY; a PENDING contract is refused WRONG_STATE, detail PENDING (R89, R90, R91, R92). -/
def Obligations.CloseContract : Prop :=
  ∀ (h : ReqHdr) (contract : BitVec 32) (reason : Byte) (m : ManualReason) (c : Contract) (s : State),
    s.part.commands h 5 → 1 ≤ contract.toNat → contract.toNat ≤ 4294967294 → manualReason reason = some m →
    s.part.findContract contract.toNat = some c →
    (∀ take level, c.state = .active take level →
      let e := evaluate s.part.late.settings c s.part.minute
      let n := if s.part.book.closingSeq < 4294967295 then s.part.book.closingSeq + 1 else 1
      ∃ t, exec (.closeContract h contract reason) s = .next t ∧ t.pending = s.pending ∧
        t.part.replyOn h = some (.done (.closing n)) ∧ t.part.book.closingSeq = n ∧
        t.part.book.ring = (s.part.book.ring ++ [ClosingRecord.mk n c.number c.unit c.cls take c.due s.part.minute (.manual m)
          e.level e.hours e.charge e.capped]).drop (s.part.book.ring.length - 63) ∧
        t.part.book.contracts = s.part.book.contracts.filter (fun d => d.number != contract.toNat) ∧
        t.part.fleet = s.part.fleet.map (fun w => if w.unit = c.unit
          then { w with status := .away, contract := none, lastChange := s.part.minute } else w) ∧
        t.part.chute = s.part.chute ∧ t.part.late = s.part.late ∧ s.part.sameCabinet t.part ∧
        s.part.sameSupply t.part) ∧
    (∀ request, c.state = .pending request → exec (.closeContract h contract reason) s =
      .next (s.answering (.closeContract h contract reason) h 0x22#8 (.wrongState .pending)))

/-- RELEASE that passes the checks of R58 is accepted: a WAITING request at the end of the queue with a number that no
live request carries, its kind, slot, class and origin, and the current uptime; the vehicle is linked to it; no request
that may be started by R61 is left waiting, and of those that may be with it the one that comes first by R64 has been
selected, each selection charging one strike (R59, R55, R57, R60 to R65, R69). One that does not pass is refused by the first
row of R58 that applies, and changes nothing; which index is answered where unit number and slot are both wrong is the
model's (log entry 34), and left out here. -/
def Obligations.ReleaseAccepted : Prop :=
  (∀ (h : ReqHdr) (kind : Byte) (unit : BitVec 24) (slot : BitVec 16) (x : SlotId) (s : State),
    s.part.commands h 6 → (s.part.record x).outOfService = false → (s.part.record x).unreachable = false →
    s.part.sched.queue.length < 16 →
    let accepted (target : Target) (cls : ReleaseClass) (t : State) (n : Nat) : Prop :=
      exec (.release h kind unit slot) s = .next t ∧ t.pending = s.pending ∧
      t.part.replyOn h = some (.accepted n) ∧ 1 ≤ n ∧ n ≤ 255 ∧ n ∉ s.part.liveNumbers ∧
      t.part.liveNumbers = s.part.liveNumbers ++ [n] ∧
      (s.part.sched.lastNumber ≤ 255 → nextFree 255 s.part.sched.lastNumber s.part.liveNumbers n) ∧
      (∃ r ∈ t.part.sched.queue, r.number = n ∧ r.target = target ∧ r.slot = x ∧ r.cls = cls ∧ r.origin = h.line ∧
        r.submit = s.part.uptime) ∧
      (s.part.liveNumbers.Nodup →
        let queued : Part := { s.part with sched := { s.part.sched with queue :=
          s.part.sched.queue ++ [⟨n, target, x, cls, h.line, s.part.uptime, .waiting, false⟩] } }
        (∀ r, queued.isBest r → s.part.selected t.part r) ∧
        t.part.sched.strikes = s.part.sched.strikes ++
          List.replicate (t.part.sched.inFlight - s.part.sched.inFlight) ⟨s.part.uptime, false⟩) ∧
      t.part.noneMayStart ∧ t.part.book = s.part.book ∧ t.part.chute = s.part.chute ∧ t.part.late = s.part.late ∧
      s.part.sameSupply t.part
    let linked (t : State) (n : Nat) : Prop :=
      t.part.fleet = s.part.fleet.map fun w => if w.unit = unit.toNat then { w with request := some n } else w
    (∀ v, 1 ≤ unit.toNat → unit.toNat ≤ 999999 → slot.toNat = 0 → s.part.findUnit unit.toNat = some v →
      v.request = none → v.status = .inSlot x → v.hold = none →
      (kind = 2#8 → s.part.supply.mode ≠ .lowReserve →
        ∃ t n, accepted (.movement unit.toNat) .standard t n ∧ linked t n) ∧
      (kind = 3#8 → ∃ t n, accepted (.staffVehicle unit.toNat) .staff t n ∧ linked t n)) ∧
    (kind = 4#8 → unit.toNat = 0 → slotField slot = some x → s.part.staffLiveOn x = [] →
      ((∃ m, s.part.custody x = .unread m) ∨ ∃ tag reason m, s.part.custody x = .foreign tag reason m) →
      ∃ t n, accepted .staffSlot .staff t n ∧ t.part.fleet = s.part.fleet)) ∧
  (∀ (h : ReqHdr) (kind : Byte) (unit : BitVec 24) (slot : BitVec 16) (s : State),
    let refused (r : Reply) : Prop := exec (.release h kind unit slot) s =
      .next (s.answering (.release h kind unit slot) h 0x23#8 r)
    let vehicleKind : Prop := kind = 2#8 ∨ kind = 3#8
    let full : Prop := 16 ≤ s.part.sched.queue.length
    (s.part.takes h 6 →
      (kind ≠ 2#8 → kind ≠ 3#8 → kind ≠ 4#8 → refused (.badField 1)) ∧
      (vehicleKind → unit.toNat = 0 ∨ 999999 < unit.toNat → slot.toNat = 0 → refused (.badField 2)) ∧
      (vehicleKind → 1 ≤ unit.toNat → unit.toNat ≤ 999999 → slot.toNat ≠ 0 → refused (.badField 3)) ∧
      (kind = 4#8 → unit.toNat ≠ 0 → 1 ≤ slot.toNat → slot.toNat ≤ 384 → refused (.badField 2)) ∧
      (kind = 4#8 → unit.toNat = 0 → slot.toNat = 0 ∨ 384 < slot.toNat → refused (.badField 3))) ∧
    (s.part.commands h 6 → vehicleKind → 1 ≤ unit.toNat → unit.toNat ≤ 999999 → slot.toNat = 0 →
      ((∀ v ∈ s.part.fleet, v.unit ≠ unit.toNat) → refused .notFound) ∧
      ∀ v, s.part.findUnit unit.toNat = some v →
        (v.request ≠ none → refused .duplicate) ∧
        (v.request = none →
          ((∀ x, v.status ≠ .inSlot x) → refused (.wrongState .notIn)) ∧
          ∀ x, v.status = .inSlot x →
            (v.hold ≠ none → refused .onHold) ∧
            (v.hold = none →
              ((s.part.record x).outOfService = true → refused (.wrongState .slotOutOfService)) ∧
              ((s.part.record x).outOfService = false →
                ((s.part.record x).unreachable = true → refused (.wrongState .slotUnreachable)) ∧
                ((s.part.record x).unreachable = false →
                  (kind = 2#8 → s.part.supply.mode = .lowReserve → refused .reservePower) ∧
                  (kind = 3#8 ∨ s.part.supply.mode ≠ .lowReserve → full → refused .queueFull)))))) ∧
    (∀ x, s.part.commands h 6 → kind = 4#8 → unit.toNat = 0 → slotField slot = some x →
      ((∃ r ∈ s.part.sched.queue, r.target = .staffSlot ∧ r.slot = x) → refused .duplicate) ∧
      ((∀ r ∈ s.part.sched.queue, r.target = .staffSlot → r.slot ≠ x) →
        (s.part.custody x = .empty → refused (.wrongState .slotEmpty)) ∧
        (∀ tag u m f, (s.part.custody x = .held tag u m f ∨ ∃ k, s.part.custody x = .releasing tag u m k f) →
          refused (.wrongState .slotBound)) ∧
        ((∃ m, s.part.custody x = .unread m) ∨ (∃ tag reason m, s.part.custody x = .foreign tag reason m) →
          ((s.part.record x).outOfService = true → refused (.wrongState .slotOutOfService)) ∧
          ((s.part.record x).outOfService = false →
            ((s.part.record x).unreachable = true → refused (.wrongState .slotUnreachable)) ∧
            ((s.part.record x).unreachable = false → full → refused .queueFull))))))

/-- CANCEL RELEASE ends the live request it names with outcome CANCELLED: the request leaves the queue and joins the
ended list, its vehicle's request link goes, and a PENDING contract of it is deleted. A request that has ended is
answered TOO_LATE with its outcome, and a number that is neither live nor in the ended list NOT_FOUND (R72, R75). -/
def Obligations.CancelRelease : Prop :=
  ∀ (h : ReqHdr) (number : Byte) (s : State), s.part.commands h 1 → number.toNat ≠ 0 →
    (∀ r, s.part.findRelease number.toNat = some r → ∃ t,
      exec (.cancelRelease h number) s = .next t ∧ t.pending = s.pending ∧ t.part.replyOn h = some (.done .bare) ∧
      t.part.liveNumbers = s.part.liveNumbers.filter (fun n => n != number.toNat) ∧
      (number.toNat, ReleaseOutcome.cancelled) ∈ t.part.sched.ended ∧
      (∀ u, r.target.unit = some u → ∀ w ∈ t.part.fleet, w.unit = u → w.request = none) ∧
      (∀ n c, r.target.contractNumber = some n → s.part.findContract n = some c → c.isActive = false →
        ∀ d ∈ t.part.book.contracts, d.number ≠ n) ∧
      t.part.fleet.map (·.status) = s.part.fleet.map (·.status) ∧ t.part.book.ring = s.part.book.ring ∧
      t.part.chute = s.part.chute ∧ t.part.late = s.part.late ∧ s.part.sameSupply t.part) ∧
    (∀ o, number.toNat ∉ s.part.liveNumbers →
      s.part.sched.ended.find? (fun e => e.1 == number.toNat) = some (number.toNat, o) →
      exec (.cancelRelease h number) s = .next (s.answering (.cancelRelease h number) h 0x24#8 (.tooLate o))) ∧
    (number.toNat ∉ s.part.liveNumbers → (∀ e ∈ s.part.sched.ended, e.1 ≠ number.toNat) →
      exec (.cancelRelease h number) s = .next (s.answering (.cancelRelease h number) h 0x24#8 .notFound))

/-! ## Commands of staff and technicians -/

/-- SLOT SERVICE off takes a slot that no release concerns out of service: its flag set, its presence no longer
watched, its reads gone, its record otherwise kept; where a release is live on it or its record is RELEASING it is
refused WRONG_STATE, detail RELEASE_LIVE. SLOT SERVICE on for a slot out of service of a RUNNING column whose sense
reports closed clears both flags, puts the latch in CLOSED and takes the contact level as the qualified level (R147,
R148, R6). -/
def Obligations.SlotService : Prop :=
  (∀ (h : ReqHdr) (slot : BitVec 16) (x : SlotId) (s : State), s.part.commands h 3 → slotField slot = some x →
    (s.part.releaseNames x = false → (s.part.record x).outOfService = false → s.part.quiet →
      (s.part.column x.col).engine ≠ .reconciling → ∃ t,
      exec (.slotServiceOff h slot 0#8) s = .next t ∧ t.pending = s.pending ∧
      t.part.replyOn h = some (.done (.slotService { s.part.record x with outOfService := true })) ∧
      t.part.record x = { s.part.record x with outOfService := true } ∧
      t.part.engine x = { s.part.engine x with qualified := none, candidate := none } ∧
      (∀ r ∈ (t.part.column x.col).readList, r.pos ≠ x.pos) ∧
      (∀ rd, (t.part.column x.col).reader = some rd → rd.pos ≠ x.pos) ∧
      (∀ y, y ≠ x → t.part.slot y = s.part.slot y) ∧ s.part.sameTables t.part ∧ t.part.sched = s.part.sched ∧
      s.part.sameSupply t.part) ∧
    (s.part.releaseNames x = true → exec (.slotServiceOff h slot 0#8) s =
      .next (s.answering (.slotServiceOff h slot 0#8) h 0x25#8 (.wrongState .releaseLive)))) ∧
  (∀ (h : ReqHdr) (slot : BitVec 16) (x : SlotId) (s : State), s.part.commands h 3 → slotField slot = some x →
    (s.part.record x).outOfService = true →
    ((s.part.column x.col).engine = .running → (s.part.engine x).senseOpen = false → s.part.liveOn x = [] →
      s.part.alarmRoom → ∃ t,
      exec (.slotServiceOn h slot) s = .next t ∧ t.pending = s.pending ∧
      (∃ r, t.part.replyOn h = some (.done (.slotService r)) ∧ r.outOfService = false ∧ r.latchFault = false) ∧
      (t.part.record x).outOfService = false ∧ (t.part.record x).latchFault = false ∧
      (t.part.engine x).latch = some (.closed none) ∧
      (t.part.engine x).qualified = some (s.part.engine x).contact ∧ (t.part.engine x).candidate = none ∧
      (∀ tag unit m f, s.part.custody x = .held tag unit m f → (s.part.engine x).contact = true →
        t.part.custody x = .held tag unit m f) ∧
      (∀ tag unit m f, s.part.custody x = .held tag unit m f → (s.part.engine x).contact = false →
        t.part.custody x = .empty ∧ (∀ w ∈ t.part.fleet, w.unit = unit → w.status = .stray) ∧
        t.part.alarmStands .forcedRemoval (.vehicle unit)) ∧
      t.part.liveNumbers = s.part.liveNumbers ∧ t.part.book = s.part.book ∧ t.part.chute = s.part.chute ∧
      t.part.late = s.part.late ∧ s.part.sameSupply t.part) ∧
    ((s.part.column x.col).engine = .running → (s.part.engine x).senseOpen = true →
      exec (.slotServiceOn h slot) s =
        .next (s.answering (.slotServiceOn h slot) h 0x25#8 (.wrongState .latchOpen))) ∧
    ((s.part.column x.col).engine = .reconciling → exec (.slotServiceOn h slot) s =
      .next (s.answering (.slotServiceOn h slot) h 0x25#8 (.wrongState .columnBusy))) ∧
    ((s.part.column x.col).engine = .lost ∨ (s.part.column x.col).engine = .stopped →
      exec (.slotServiceOn h slot) s =
        .next (s.answering (.slotServiceOn h slot) h 0x25#8 (.wrongState .slotUnreachable))))

/-- CHUTE EMPTIED removes the entries that name no vehicle, marks the NAMED ones TAKEN_OUT, and decides the flap lock
afresh; the reply counts the entries removed and the entries newly marked (R113, R110). -/
def Obligations.ChuteEmptied : Prop :=
  ∀ (h : ReqHdr) (s : State), s.part.commands h 0 → ∃ t,
    exec (.chuteEmptied h) s = .next t ∧ t.pending = s.pending ∧
    t.part.chute.log = (s.part.chute.log.filter fun e => match e.kind with | .named _ _ => true | _ => false).map
      (fun e => { e with place := .takenOut }) ∧
    t.part.chute = { s.part.chute with
      log := t.part.chute.log, flapLocked := decide (96 ≤ t.part.chute.log.length) } ∧
    (∃ removed marked, t.part.replyOn h = some (.done (.emptied removed marked)) ∧
      removed + t.part.chute.log.length = s.part.chute.log.length ∧
      marked = (s.part.chute.log.filter fun e => (match e.kind with | .named _ _ => true | _ => false) &&
        e.place == .inChute).length) ∧
    (s.part.alarmsDistinct → t.part.alarmOver .chuteUnread .chute ∧
      ∀ e ∈ s.part.chute.log, (∃ tag, e.kind = .conflict tag) → t.part.alarmOver .fobDuplicate (.entry e.number)) ∧
    t.part.fleet = s.part.fleet ∧ t.part.book = s.part.book ∧ t.part.late = s.part.late ∧
    s.part.sameCabinet t.part ∧ s.part.sameSupply t.part

/-- ACK ALARM for one record makes it ACTIVE_ACKED where it is ACTIVE_UNACKED and no event alarm (FOB_SWAP, and
FORCED_REMOVAL of a slot, are the event alarms, R136), leaves it where it is
ACTIVE_ACKED, and removes it otherwise; with ALL it does so to every record of the list. A removal clears the overflow
condition, and the drives follow (R140, R141, R138, R146). -/
def Obligations.AckAlarm : Prop :=
  (∀ (h : ReqHdr) (number : BitVec 16) (a : Alarm) (s : State), s.part.takes h 3 → s.part.heldOff h.line = false →
    number.toNat ≠ 0 → s.part.alarm.list.find? (fun b => b.number == number.toNat) = some a → ∃ t,
      exec (.ackAlarm h number 0#8) s = .next t ∧ t.pending = s.pending ∧
      t.part.replyOn h = some (.done (.ackedOne a.acked)) ∧
      (∀ st, a.acked = some st → t.part.alarm.list =
        (s.part.alarm.list.map fun b => if b.number = number.toNat then { b with state := st } else b) ∧
        t.part.alarm.overflow = s.part.alarm.overflow) ∧
      (a.acked = none → t.part.alarm.list = (s.part.alarm.list.filter fun b => b.number != number.toNat) ∧
        t.part.alarm.overflow = false) ∧
      t.part.signalsFollow ∧ t.part.lines.notices = s.part.lines.notices ∧ s.part.sameTables t.part ∧
      s.part.sameCabinet t.part ∧ s.part.sameSupply t.part) ∧
  (∀ a : Alarm,
    let event : Prop := a.kind = .fobSwap ∨ (a.kind = .forcedRemoval ∧ ∃ x, a.subject = .slot x)
    (a.state = .activeUnacked → event → a.acked = none) ∧
    (a.state = .activeUnacked → ¬ event → a.acked = some .activeAcked) ∧
    (a.state = .activeAcked → a.acked = some .activeAcked) ∧ (∀ m, a.state = .clearedUnacked m → a.acked = none)) ∧
  (∀ (h : ReqHdr) (number : BitVec 16) (s : State), s.part.takes h 3 → s.part.heldOff h.line = false →
    s.part.alarmsDistinct → ∃ t,
      exec (.ackAlarmAll h number) s = .next t ∧ t.pending = s.pending ∧
      t.part.alarm.list = (s.part.alarm.list.filterMap fun b => b.acked.map fun st => { b with state := st }) ∧
      (∃ acked removed, t.part.replyOn h = some (.done (.ackedAll acked removed t.part.alarm.list.length)) ∧
        removed + t.part.alarm.list.length = s.part.alarm.list.length) ∧
      (t.part.alarm.overflow = true ↔ s.part.alarm.overflow = true ∧ ∀ b ∈ s.part.alarm.list, b.acked ≠ none) ∧
      t.part.signalsFollow ∧ t.part.lines.notices = s.part.lines.notices ∧ s.part.sameTables t.part ∧
      s.part.sameCabinet t.part ∧ s.part.sameSupply t.part)

/-- SERVICE HOLD on, on the service line, makes the hold stand for ten minutes of uptime; off drops it, makes a
selection and is taken where none stands; the hold timer's end does the same as off (R170, R60). That the time still
missing to its moment passes with the timer's event is the model's (log entry 4). -/
def Obligations.ServiceHold : Prop :=
  (∀ (h : ReqHdr) (s : State), s.part.takes h 1 → h.line = .service →
    exec (.serviceHoldOn h) s = .next ⟨s.part.answered { s.part.received (.serviceHoldOn h) h with
      lines := { (s.part.received (.serviceHoldOn h) h).lines with holdUntil := some (s.part.uptime + 600000) } } h
      0x30#8 (.done (.hold true)), s.pending⟩) ∧
  (∀ (h : ReqHdr) (s : State), s.part.takes h 1 → h.line = .service → ∃ t,
    exec (.serviceHoldOff h 0#8) s = .next t ∧ t.pending = s.pending ∧
    t.part.replyOn h = some (.done (.hold false)) ∧ t.part.lines.holdUntil = none ∧
    (s.part.isReady = true → s.part.lines.holdUntil ≠ none → t.part.noneMayStart) ∧
    t.part.liveNumbers = s.part.liveNumbers ∧ s.part.sameTables t.part ∧ s.part.sameSupply t.part) ∧
  (∀ (s : State) (moment : Ms), s.part.halted = false → s.part.lines.holdUntil = some moment → ∃ t,
    exec .serviceHoldTimeout s = .next t ∧ t.pending = s.pending ∧ t.part.lines.holdUntil = none ∧
    t.part.uptime = s.part.timeAt moment ∧ (s.part.isReady = true → t.part.noneMayStart) ∧
    t.part.liveNumbers = s.part.liveNumbers ∧ t.part.fleet = s.part.fleet ∧ t.part.book = s.part.book ∧
    t.part.chute = s.part.chute ∧ t.part.supply = s.part.supply)

/-- RESTART, FACTORY CLEAR and POWER_ON lead to the same start-up: RESTART is answered DONE and starts the part up with
its retained records; FACTORY CLEAR is taken on the service line under a service hold, and clears them first, and is
refused in start-up and without a hold; POWER_ON starts a halted part up (R156, R161, R154). That the two requests are
one step with the start-up that follows, the reply standing and the buffer empty, is the model's reading (log
entry 14), and that FACTORY CLEAR answers STARTING first where no hold stands either is its choice (log entry 37). -/
def Obligations.StartUpCommands : Prop :=
  (∀ (h : ReqHdr) (i : StartInputs) (s : State), s.part.commands h 0 →
    exec (.restart h i) s = .next ⟨s.part.answered ((s.part.received (.restart h i) h).startUp .restart i false) h
      0x28#8 (.done .bare), s.pending⟩) ∧
  (∀ (h : ReqHdr) (i : StartInputs) (s : State), s.part.takes h 0 → h.line = .service → s.part.isReady = true →
    (s.part.lines.holdUntil ≠ none → exec (.factoryClear h i) s = .next ⟨s.part.answered
      ((s.part.received (.factoryClear h i) h).factoryRecords.startUp .factoryClear i false) h 0x31#8 (.done .bare),
      s.pending⟩) ∧
    (s.part.lines.holdUntil = none → exec (.factoryClear h i) s =
      .next (s.answering (.factoryClear h i) h 0x31#8 (.wrongState .noServiceHold)))) ∧
  (∀ (h : ReqHdr) (i : StartInputs) (s : State), s.part.takes h 0 → h.line = .service → s.part.inStartUp = true →
    exec (.factoryClear h i) s = .next (s.answering (.factoryClear h i) h 0x31#8 .starting)) ∧
  (∀ (i : StartInputs) (failed : Bool) (s : State), s.part.halted = true →
    exec (.powerOn i failed) s = .next { s with part := s.part.startUp .powerOn i failed }) ∧
  (∀ p : Part, p.factoryRecords.fleet = [] ∧ p.factoryRecords.book = ⟨[], 0, []⟩ ∧
    p.factoryRecords.chute.log = [] ∧ p.factoryRecords.chute.lastEntry = 0 ∧
    p.factoryRecords.chute.pocketEntry = none ∧ p.factoryRecords.alarm.list = [] ∧
    p.factoryRecords.alarm.lastNumber = 0 ∧ p.factoryRecords.alarm.overflow = false ∧
    p.factoryRecords.late = { p.late with
      settings := ⟨29, 60, 360, 2880, 20, 60, true⟩, clock := .unset, retainedMinute := p.minute } ∧
    (∀ c, (p.factoryRecords.column c).fitted = false) ∧
    ∀ x, p.factoryRecords.record x = ⟨.empty, false, false, false⟩)

/-- What every start-up leaves, whatever it began from: the volatile values at their start-up values, the retained
tables but for what start-up itself ends, the straps read, and each column by its port: RECONCILING or already RUNNING
where its board answered, LOST where it is fitted and did not, STOPPED otherwise (R43, R57, R63, R78, R128, R131, R153,
R154, R163, R166, R169, R18). The supply monitor's first decision (R149); the clock check: a count that ran on stands, a
failed backup supply resumes it at the retained minute, SUSPECT unless UNSET (R118; that the resumed second begins at its
start is the model's, log entry 4); and the examination of the PENDING contracts: one whose slot does not stand RELEASING
for a contract is deleted with a RELEASE_ENDED notice of outcome POWER and the vehicle's slot (R81). The marks of ACTIVE
contracts are dropped (R80, R128), the LOCATE timers stopped (R53), the audit pointers at position 24 (R38), the read
lists of the columns that did not answer empty and their readers idle (R25), and COLUMN_LOST stands for a fitted one of
them (R18). -/
def Obligations.StartUpLeaves : Prop :=
  ∀ (p : Part) (cause : Cause) (i : StartInputs) (failed : Bool),
    let q := p.startUp cause i failed
    q.supply.phase = .starting cause ∧ q.uptime = 0 ∧ q.sched = ⟨[], 0, [], []⟩ ∧
    q.lines.holdUntil = none ∧ q.lines.unitAddress = i.straps.toNat + 1 ∧ q.lines.baudOpen = i.baudOpen ∧
    q.lines.branch.buffer = none ∧ q.lines.service.buffer = none ∧
    q.lines.flags.reconciled = false ∧ q.lines.flags.supplyChanged = false ∧ q.lines.flags.lineOverrun = false ∧
    q.late.settings = p.late.settings ∧ q.late.sweepNumber = 0 ∧ q.late.sweep = none ∧ q.late.latestSweep = none ∧
    q.late.pendingBoundary = false ∧ q.late.fullWalk = true ∧
    q.book.ring = p.book.ring ∧ q.book.closingSeq = p.book.closingSeq ∧
    q.chute.log = p.chute.log ∧ q.chute.lastEntry = p.chute.lastEntry ∧ q.chute.flapLocked = true ∧
    q.chute.drop = none ∧
    (∀ w ∈ q.fleet, w.request = none) ∧ q.fleet.map (·.unit) = p.fleet.map (·.unit) ∧
    (∀ c ∈ q.book.contracts, c.state ≠ .pending none → c.isActive = true) ∧
    q.signalsFollow ∧
    (∀ c, (q.column c).fitted = ((p.column c).fitted || i.answers.getLsbD c.val)) ∧
    (∀ c, i.answers.getLsbD c.val = true → (q.column c).engine = .reconciling ∨ (q.column c).engine = .running) ∧
    (∀ c, i.answers.getLsbD c.val = false →
      (q.column c).engine = if (p.column c).fitted then .lost else .stopped) ∧
    (∀ c, (q.column c).auditPointer = 23) ∧ (∀ x, (q.engine x).locateUntil = none) ∧
    (∀ c, i.answers.getLsbD c.val = false → (q.column c).readList = [] ∧ (q.column c).reader = none ∧
      (q.column c).auditNext = none ∧ (∀ y : SlotId, y.col = c → (q.engine y).latch = none ∧
        (q.engine y).qualified = none ∧ (q.engine y).candidate = none) ∧
      ((p.column c).fitted = true → p.alarmsDistinct → p.alarm.list.length ≤ 30 →
        q.alarmStands .columnLost (.column c))) ∧
    (p.tablesDistinct → ∀ c ∈ p.book.contracts, c.isActive = true → 1 ≤ c.number →
      (∀ x tag u m f v, i.answers.getLsbD x.col.val = true → p.custody x = .releasing tag u m .contract f →
        p.findUnit u = some v → v.contract ≠ some c.number) →
      { c with mark := none } ∈ q.book.contracts) ∧
    (∀ x, i.answers.getLsbD x.col.val = false → (q.record x).custody = (p.record x).custody) ∧
    (∀ x, (q.record x).unreachable = !i.answers.getLsbD x.col.val) ∧
    q.supply.batteryIsLow = decide (p.supply.batteryPin < 2100) ∧
    q.supply.mode = (if p.supply.mainsPin then .mains else if p.supply.batteryPin < 2100 then .lowReserve
      else .reserve) ∧
    (p.alarmsDistinct → q.supply.mode = .mains → q.alarmOver .supplyReserve .supply ∧ q.alarmOver .supplyLow .supply) ∧
    q.late.retainedMinute = p.late.retainedMinute ∧
    (failed = false → q.late.count = p.late.count ∧ q.late.subMs = p.late.subMs ∧ q.late.clock = p.late.clock) ∧
    (failed = true → q.late.count = BitVec.ofNat 32 (60 * p.late.retainedMinute) ∧ q.late.subMs = 0 ∧
      q.late.clock = (if p.late.clock = .unset then .unset else .suspect) ∧
      (p.late.clock ≠ .unset → p.alarmsDistinct → p.alarm.list.length ≤ 30 → q.alarmStands .clockSuspect .clock)) ∧
    (p.tablesDistinct → ∀ c ∈ p.book.contracts, c.isActive = false →
      let awaitsSettlement : Prop := ∃ v x tag u m f, p.findUnit c.unit = some v ∧ v.status = .inSlot x ∧
        p.custody x = .releasing tag u m .contract f
      (¬ awaitsSettlement → (∀ d ∈ q.book.contracts, d.number ≠ c.number) ∧
        (∀ w ∈ q.fleet, w.unit = c.unit → w.contract = none) ∧
        (q.lines.flags.noticesLost = false → ∃ n ∈ q.lines.notices, ∃ slot,
          n.body = .releaseEnded none (.contract c.unit c.number) slot .power ∧
          (∀ v x, p.findUnit c.unit = some v → v.status = .inSlot x → slot = some x) ∧
          ((∀ v, p.findUnit c.unit = some v → ∀ x, v.status ≠ .inSlot x) → slot = none))) ∧
      (awaitsSettlement → i.answers = 0#16 → { c with mark := none, state := .pending none } ∈ q.book.contracts))

/-! ## Events on the lines and at the slots -/

/-- The receivers (R162, R163): a frame with a wrong CRC, a gap, an ignored frame and a length above 240 send the
receiver of their line back to hunting, a 0x7E takes it into a frame, and the end of a reply frees the buffer; no reply
is made, no flag is set and nothing else changes. While the part sends on the branch line it receives nothing: of these
the gap and the end of the reply alone have their effect. -/
def Obligations.FrameEvents : Prop :=
  ∀ (l : Line) (s : State), s.part.halted = false →
    (∀ c, c = .frameDiscarded l ∨ c = .frameIgnored l ∨ c = .frameLengthAbandoned l →
      exec c s = .next (if s.part.deaf l then s
        else { s with part := s.part.updLine l fun x => { x with inFrame := false } })) ∧
    exec (.frameGapTimeout l) s = .next { s with part := s.part.updLine l fun x => { x with inFrame := false } } ∧
    exec (.syncByteBeginsFrame l) s = .next (if s.part.deaf l then s
      else { s with part := s.part.updLine l fun x => { x with inFrame := true } }) ∧
    exec (.replySent l) s = .next { s with part := s.part.updLine l fun x =>
      { x with buffer := none, sendFrom := none } }

/-- Presence contacts and latch sense. A contact seen at the level opposite to the qualified one makes a candidate,
timed from its first sighting, and one that returns drops it (R4); the drop of a removal candidate ends a release whose
take deadline has passed NOT_TAKEN (R71). A sense report moves the latch by R12 to R14, and a latch that reaches CLOSED
lets a selection be made (R60). -/
def Obligations.ContactsAndSense : Prop :=
  (∀ (x : SlotId) (b : Bool) (s : State), s.part.halted = false → s.part.passedOn x = none → ∃ t,
    exec (.presenceContactChange x b) s = .next t ∧ t.pending = s.pending ∧
    t.part.engine x = { s.part.engine x with
      contact := b
      candidate := match (s.part.engine x).qualified with
        | none => (s.part.engine x).candidate
        | some q => if b = q then none else some ((s.part.engine x).candidate.getD s.part.uptime) } ∧
    t.part.record x = s.part.record x ∧ (∀ y, y ≠ x → t.part.slot y = s.part.slot y) ∧
    s.part.sameTables t.part ∧ t.part.sched = s.part.sched ∧ s.part.sameSupply t.part ∧
    t.part.alarm = s.part.alarm ∧ t.part.lines = s.part.lines) ∧
  (∀ (x : SlotId) (r : Release) (s : State), s.part.halted = false → s.part.passedOn x = some r →
    (s.part.engine x).qualified = some true → (s.part.engine x).candidate ≠ none → ∃ t,
    exec (.presenceContactChange x true) s = .next t ∧ t.pending = s.pending ∧
    (t.part.engine x).candidate = none ∧
    t.part.liveNumbers = s.part.liveNumbers.filter (fun n => n != r.number) ∧
    (r.number, ReleaseOutcome.notTaken) ∈ t.part.sched.ended ∧
    t.part.fleet.map (·.status) = s.part.fleet.map (·.status)) ∧
  (∀ (x : SlotId) (b : Bool) (l : Latch) (s : State), s.part.halted = false → (s.part.engine x).latch = some l →
    (∀ since, l = .closing since → b = true) → ∃ t,
    exec (.latchSenseChange x b) s = .next t ∧ t.pending = s.pending ∧
    t.part.engine x = { s.part.engine x with
      senseOpen := b
      latch := some (match l with
        | .closed since => .closed (if b then some (since.getD s.part.uptime) else none)
        | .striking since => if b then .heldOpen none else .striking since
        | .heldOpen since => .heldOpen (if b then none else some (since.getD s.part.uptime))
        | .closing since => .closing since) } ∧
    t.part.record x = s.part.record x ∧ (∀ y, y ≠ x → t.part.slot y = s.part.slot y) ∧
    s.part.sameTables t.part ∧ t.part.sched = s.part.sched ∧ s.part.sameSupply t.part ∧
    t.part.alarm = s.part.alarm ∧ t.part.lines = s.part.lines) ∧
  (∀ (x : SlotId) (since : Ms) (s : State), s.part.halted = false →
    (s.part.engine x).latch = some (.closing since) → ∃ t,
    exec (.latchSenseChange x false) s = .next t ∧ t.pending = s.pending ∧ (t.part.engine x).senseOpen = false ∧
    (s.part.liveOn x = [] → (t.part.engine x).latch = some (.closed none)) ∧
    (s.part.isReady = true → t.part.noneMayStart) ∧ t.part.liveNumbers = s.part.liveNumbers ∧
    s.part.sameTables t.part ∧ s.part.sameSupply t.part)

/-- A candidate to PRESENT that qualifies at an EMPTY slot, 150 ms after its first sighting in MAINS and 1,000 ms in the
reserve modes, makes the record UNREAD with the branch minute of the qualification, and a read of the slot is pending or
in progress then (R5, R7, R25). Where the record is not EMPTY it is first treated as forcibly removed (R7, R9). That the
time still missing to the qualification passes with the event is the model's (log entry 4). -/
def Obligations.QualifiedArrival : Prop :=
  (∀ (x : SlotId) (since : Ms) (s : State), s.part.halted = false → s.part.quiet →
    (s.part.engine x).qualified = some false → (s.part.engine x).candidate = some since →
    s.part.custody x = .empty → (s.part.column x.col).engine.watches = true → ∃ t,
    exec (.candidateQualified x) s = .next t ∧ t.pending = s.pending ∧
    t.part.uptime = s.part.timeAt (since + if s.part.supply.mode = .mains then 150 else 1000) ∧
    (t.part.engine x).qualified = some true ∧ (t.part.engine x).candidate = none ∧
    t.part.record x = { s.part.record x with custody := .unread t.part.minute } ∧
    (t.part.column x.col).readStands x.pos ∧
    (∀ y, y ≠ x → t.part.slot y = s.part.slot y) ∧ t.part.fleet = s.part.fleet ∧ t.part.book = s.part.book ∧
    t.part.chute = s.part.chute ∧ t.part.sched.queue = s.part.sched.queue ∧ t.part.supply = s.part.supply ∧
    t.part.alarm.list = s.part.alarm.list ∧ t.part.lines.notices = s.part.lines.notices) ∧
  (∀ (x : SlotId) (since : Ms) (s : State), s.part.halted = false → s.part.alarmRoom →
    (s.part.engine x).qualified = some false → (s.part.engine x).candidate = some since →
    s.part.custody x ≠ .empty → (s.part.column x.col).engine.watches = true → ∃ t,
    exec (.candidateQualified x) s = .next t ∧ t.pending = s.pending ∧
    t.part.uptime = s.part.timeAt (since + if s.part.supply.mode = .mains then 150 else 1000) ∧
    t.part.record x = { s.part.record x with custody := .unread t.part.minute } ∧
    (t.part.column x.col).readStands x.pos ∧
    (∀ tag unit m f, (s.part.custody x = .held tag unit m f ∨ ∃ k, s.part.custody x = .releasing tag unit m k f) →
      (∀ w ∈ t.part.fleet, w.unit = unit → w.status = .stray) ∧
      t.part.alarmStands .forcedRemoval (.vehicle unit)) ∧
    ((∃ m, s.part.custody x = .unread m) ∨ (∃ tag reason m, s.part.custody x = .foreign tag reason m) →
      t.part.alarmStands .forcedRemoval (.slot x) ∧
      t.part.fleet.map (·.status) = s.part.fleet.map (·.status)) ∧
    t.part.book.ring = s.part.book.ring ∧ t.part.chute = s.part.chute ∧ t.part.supply = s.part.supply)

/-- A removal that qualifies where no release is OPEN is a forced removal: the record is EMPTY with its flags kept; a
bound vehicle is STRAY, its alarm stands and its live requests end; for a FOREIGN or UNREAD record the alarm stands for
the slot, and the STAFF_SLOT requests of the slot end (R8, R9). -/
def Obligations.ForcedRemoval : Prop :=
  ∀ (x : SlotId) (since : Ms) (s : State), s.part.halted = false → s.part.alarmRoom →
    (s.part.engine x).qualified = some true → (s.part.engine x).candidate = some since →
    s.part.openOn x = none →
    (∀ tag unit m f, (s.part.custody x = .held tag unit m f ∨ ∃ k, s.part.custody x = .releasing tag unit m k f) → ∃ t,
      exec (.candidateQualified x) s = .next t ∧ t.pending = s.pending ∧
      t.part.record x = { s.part.record x with custody := .empty } ∧
      (t.part.engine x).qualified = some false ∧ (t.part.engine x).candidate = none ∧
      (∀ w ∈ t.part.fleet, w.unit = unit → w.status = .stray) ∧
      t.part.alarmStands .forcedRemoval (.vehicle unit) ∧
      (∀ r ∈ s.part.sched.queue, r.target.unit = some unit → r.number ∉ t.part.liveNumbers) ∧
      t.part.book.ring = s.part.book.ring ∧ t.part.chute = s.part.chute ∧ t.part.supply = s.part.supply) ∧
    ((∃ m, s.part.custody x = .unread m) ∨ (∃ tag reason m, s.part.custody x = .foreign tag reason m) → ∃ t,
      exec (.candidateQualified x) s = .next t ∧ t.pending = s.pending ∧
      t.part.record x = { s.part.record x with custody := .empty } ∧
      (t.part.engine x).qualified = some false ∧ (t.part.engine x).candidate = none ∧
      t.part.alarmStands .forcedRemoval (.slot x) ∧
      (∀ r ∈ s.part.sched.queue, r.target = .staffSlot → r.slot = x → r.number ∉ t.part.liveNumbers) ∧
      t.part.fleet.map (·.status) = s.part.fleet.map (·.status) ∧ t.part.book.ring = s.part.book.ring ∧
      t.part.chute = s.part.chute ∧ t.part.supply = s.part.supply)

/-- A removal that qualifies at the slot of an OPEN release is a take: the record is EMPTY, the release ends TAKEN, the
drive of the latch stops, the vehicle is OUT for the reason of the kind with its request link gone, and a PENDING
contract is ACTIVE from the minute of the removal, evaluated there (R8, R70, R75, R85). That the time still missing to
the qualification passes with the event is the model's (log entry 4). -/
def Obligations.Take : Prop :=
  ∀ (x : SlotId) (since : Ms) (r : Release) (s : State), s.part.halted = false →
    (s.part.engine x).qualified = some true → (s.part.engine x).candidate = some since →
    s.part.openOn x = some r → s.part.custody x ≠ .empty → (∀ tag unit m f, s.part.custody x ≠ .held tag unit m f) →
    ∃ t, exec (.candidateQualified x) s = .next t ∧ t.pending = s.pending ∧
      t.part.uptime = s.part.timeAt (since + if s.part.supply.mode = .mains then 150 else 1000) ∧
      t.part.record x = { s.part.record x with custody := .empty } ∧
      t.part.liveNumbers = s.part.liveNumbers.filter (fun n => n != r.number) ∧
      (r.number, ReleaseOutcome.taken) ∈ t.part.sched.ended ∧
      (∀ l, (s.part.engine x).latch = some l → l.driven = true →
        (t.part.engine x).latch = some (.closing t.part.uptime)) ∧
      (∀ u, r.target = .movement u → ∀ w ∈ t.part.fleet, w.unit = u →
        w.status = .out .movement ∧ w.request = none ∧ w.lastChange = t.part.minute) ∧
      (∀ u, r.target = .staffVehicle u → ∀ w ∈ t.part.fleet, w.unit = u →
        w.status = .out .staff ∧ w.request = none ∧ w.lastChange = t.part.minute) ∧
      (∀ u n, r.target = .contract u n →
        (∀ w ∈ t.part.fleet, w.unit = u →
          w.status = .out .contract ∧ w.request = none ∧ w.lastChange = t.part.minute) ∧
        (∀ c request, s.part.findContract n = some c → c.state = .pending request →
          let e := evaluate s.part.late.settings c t.part.minute
          t.part.findContract n = some { c with
            state := .active t.part.minute e.level, hours := e.hours, charge := e.charge, capped := e.capped
            mark := some s.part.late.sweepNumber })) ∧
      (r.target = .staffSlot → t.part.fleet = s.part.fleet ∧ t.part.book = s.part.book) ∧
      t.part.book.ring = s.part.book.ring ∧ t.part.chute = s.part.chute ∧ t.part.supply = s.part.supply

/-- The four latch faults: no open sense for 500 ms in STRIKING, closed sense for 500 ms in HELD_OPEN, no closed sense
for 500 ms in CLOSING, and open sense for 1 s in CLOSED. Each leaves the slot without latch state, out of service with
its latch-fault flag set and its presence not watched, raises LATCH_FAULT for it and ends the live releases on it; at a
slot without latch state nothing happens (R12, R13, R14, R15, R6). That the time still missing to the end of the timing
passes with the event is the model's (log entry 4), and so is what an event does at a slot without latch state (log
entry 6). -/
def Obligations.LatchFaults : Prop :=
  ∀ (x : SlotId) (since : Ms) (s : State), s.part.halted = false → s.part.alarmRoom →
    let faulty (c : Instr) (moment : Ms) : Prop := ∃ t, exec c s = .next t ∧ t.pending = s.pending ∧
      t.part.uptime = s.part.timeAt moment ∧
      (t.part.record x).latchFault = true ∧ (t.part.record x).outOfService = true ∧
      (t.part.engine x).latch = none ∧ (t.part.engine x).qualified = none ∧ (t.part.engine x).candidate = none ∧
      t.part.alarmStands .latchFault (.slot x) ∧
      (∀ r ∈ s.part.sched.queue, r.slot = x → r.number ∉ t.part.liveNumbers) ∧
      (s.part.liveOn x = [] → t.part.custody x = s.part.custody x) ∧
      t.part.fleet.map (·.status) = s.part.fleet.map (·.status) ∧ t.part.book.ring = s.part.book.ring ∧
      t.part.chute = s.part.chute ∧ t.part.supply = s.part.supply
    ((s.part.engine x).latch = some (.striking since) → (s.part.engine x).senseOpen = false →
      faulty (.strikeConfirmTimeout x) (since + 500)) ∧
    ((s.part.engine x).latch = some (.heldOpen (some since)) → faulty (.heldOpenClosedTimeout x) (since + 500)) ∧
    ((s.part.engine x).latch = some (.closing since) → (s.part.engine x).senseOpen = true →
      faulty (.closingConfirmTimeout x) (since + 500)) ∧
    ((s.part.engine x).latch = some (.closed (some since)) → faulty (.uncommandedOpen x) (since + 1000)) ∧
    ((s.part.engine x).latch = none → ∀ c, c = .strikeConfirmTimeout x ∨ c = .heldOpenClosedTimeout x ∨
      c = .closingConfirmTimeout x ∨ c = .uncommandedOpen x → exec c s = .next s)

/-! ## Events of the columns -/

/-- A board without an answer for 1 s makes its column LOST: no reads, no audit, every slot unreachable and unwatched,
its live releases ended, COLUMN_LOST raised, and a probe due 5 s later. A probe without an answer moves the next by 5 s;
an answered one brings the column to RECONCILING, or straight to RUNNING where nothing needs a read, with its slots
reachable, a fob found in an EMPTY slot UNREAD at the reconciliation minute, a bound fob found absent gone, and a fob
found present where one is recorded kept with a read of it standing (R20, R21, R19, R158, R159). A RELEASING slot is
settled by its contact: present, it is HELD again, its PENDING contract deleted, outcome POWER; absent, its vehicle is OUT
and its contract ACTIVE from the reconciliation minute, outcome TAKEN (R160, R85). That the time still missing to the
probe passes with its event is the model's (log entry 4). -/
def Obligations.BoardLostAndProbed : Prop :=
  (∀ (c : ColId) (s : State), s.part.halted = false → (s.part.column c).engine.watches = true → s.part.alarmRoom →
    ∃ t, exec (.boardSilenceTimeout c) s = .next t ∧ t.pending = s.pending ∧
      (t.part.column c).engine = .lost ∧ (t.part.column c).readList = [] ∧ (t.part.column c).reader = none ∧
      (t.part.column c).auditNext = none ∧ (t.part.column c).nextProbe = s.part.uptime + 5000 ∧
      (∀ x : SlotId, x.col = c → (t.part.record x).unreachable = true ∧ (t.part.engine x).qualified = none ∧
        (t.part.engine x).candidate = none ∧ (t.part.engine x).latch = none ∧
        (t.part.custody x = s.part.custody x ∨ t.part.custody x = (s.part.custody x).returned)) ∧
      (∀ r ∈ s.part.sched.queue, r.slot.col = c → r.number ∉ t.part.liveNumbers) ∧
      t.part.alarmStands .columnLost (.column c) ∧ t.part.fleet.map (·.status) = s.part.fleet.map (·.status) ∧
      t.part.book.ring = s.part.book.ring ∧ t.part.chute = s.part.chute ∧ s.part.sameSupply t.part) ∧
  (∀ (c : ColId) (s : State), s.part.halted = false → (s.part.column c).engine = .lost → s.part.quiet → ∃ t,
    exec (.columnProbe c false) s = .next t ∧ t.pending = s.pending ∧
    t.part.uptime = s.part.timeAt (s.part.column c).nextProbe ∧
    t.part.column c = { s.part.column c with nextProbe := (s.part.column c).nextProbe + 5000 } ∧
    s.part.sameSlots t.part ∧ t.part.fleet = s.part.fleet ∧ t.part.book = s.part.book ∧
    t.part.chute = s.part.chute ∧ t.part.sched.queue = s.part.sched.queue ∧ t.part.supply = s.part.supply) ∧
  (∀ (c : ColId) (s : State), s.part.halted = false → (s.part.column c).engine = .lost → ∃ t,
    exec (.columnProbe c true) s = .next t ∧ t.pending = s.pending ∧
    ((t.part.column c).engine = .reconciling ∨ (t.part.column c).engine = .running) ∧
    (∀ x : SlotId, x.col = c → (t.part.record x).unreachable = false) ∧
    (∀ x : SlotId, x.col = c → (s.part.record x).outOfService = false → (s.part.engine x).contact = true →
      s.part.custody x = .empty → t.part.custody x = .unread t.part.minute) ∧
    (∀ x : SlotId, x.col = c → (s.part.record x).outOfService = false → (s.part.engine x).contact = false →
      t.part.custody x = .empty) ∧
    (∀ x : SlotId, x.col = c → (s.part.record x).outOfService = true → s.part.liveOn x = [] →
      t.part.custody x = s.part.custody x) ∧
    (∀ x : SlotId, x.col = c → (s.part.record x).outOfService = false → (s.part.engine x).contact = true →
      s.part.custody x ≠ .empty → (t.part.column c).readStands x.pos ∧
      ((∀ tag unit m k f, s.part.custody x ≠ .releasing tag unit m k f) → t.part.custody x = s.part.custody x)) ∧
    (∀ (x : SlotId) (tag unit : Nat) (m : Minute) (k : VehicleKind) (f : Bool), x.col = c →
      (s.part.record x).outOfService = false → s.part.custody x = .releasing tag unit m k f → s.part.tablesDistinct →
      (∀ y : SlotId, y.col = c → y ≠ x → ∀ g n q, s.part.custody y ≠ .held g unit n q ∧
        ∀ j, s.part.custody y ≠ .releasing g unit n j q) →
      let linked (v : Vehicle) (n : Nat) (d : Contract) : Prop := k = .contract ∧ 1 ≤ n ∧
        s.part.findUnit unit = some v ∧ v.contract = some n ∧ s.part.findContract n = some d ∧ d.isActive = false ∧
        ∀ w ∈ s.part.fleet, w.contract = some n → w.unit = unit
      let reported (o : ReleaseOutcome) : Prop := t.part.lines.flags.noticesLost = false →
        ∃ a ∈ t.part.lines.notices, ∃ target, target.vehicleKind = some k ∧ target.unit = some unit ∧
          a.body = .releaseEnded none target (some x) o
      ((s.part.engine x).contact = true → t.part.custody x = .held tag unit m f ∧ reported .power ∧
        (∀ w ∈ t.part.fleet, w.unit = unit → ∃ v ∈ s.part.fleet, v.unit = unit ∧ w.status = v.status) ∧
        ∀ v n d, linked v n d → (∀ e ∈ t.part.book.contracts, e.number ≠ n) ∧
          ∀ w ∈ t.part.fleet, w.unit = unit → w.contract = none) ∧
      ((s.part.engine x).contact = false → t.part.custody x = .empty ∧ reported .taken ∧
        (∀ w ∈ t.part.fleet, w.unit = unit → w.status = .out k.outReason ∧ w.lastChange = t.part.minute) ∧
        ∀ v n d, linked v n d → let e := evaluate s.part.late.settings d t.part.minute
          t.part.findContract n = some { d with
            state := .active t.part.minute e.level, hours := e.hours, charge := e.charge, capped := e.capped
            mark := some s.part.late.sweepNumber })) ∧
    t.part.chute = s.part.chute)

/-- The readers and the audit. An attempt that is not GOOD and is not the third is followed by the next, at the column
readers and at the chute mouth; an attempt that brought fewer than six bytes has lasted its 40 ms (R23, R24, R106). The
audit tick comes every 5 s and gives an AUDIT request, and the pointer, to the first auditable slot of the walk that
starts after the pointer; where no slot of the column is auditable the pointer stays (R37, R38). That the time still
missing to the end of an attempt or to the tick passes with the event is the model's (log entry 4), and so is that an
attempt given no bytes brought none (log entry 18). -/
def Obligations.ReaderAndAudit : Prop :=
  (∀ (c : ColId) (bytes : List Byte) (rd : Read) (s : State), s.part.halted = false → s.part.quiet →
    (s.part.column c).reader = some rd → (∀ tag kind, classify bytes ≠ .good tag kind) → rd.attempt < 3 → ∃ t,
    exec (.readAttemptEnd c bytes) s = .next t ∧ t.pending = s.pending ∧
    t.part.uptime = (if bytes.length < 6 then s.part.timeAt (rd.since + 40) else s.part.uptime) ∧
    (t.part.column c).reader = some { rd with attempt := rd.attempt + 1, since := t.part.uptime } ∧
    (t.part.column c).readList = (s.part.column c).readList ∧ s.part.sameSlots t.part ∧
    t.part.fleet = s.part.fleet ∧ t.part.book = s.part.book ∧ t.part.chute = s.part.chute ∧
    t.part.sched.queue = s.part.sched.queue ∧ t.part.supply = s.part.supply ∧
    t.part.alarm.list = s.part.alarm.list ∧ t.part.lines.notices = s.part.lines.notices) ∧
  (∀ (bytes : List Byte) (detected : Minute) (n : Nat) (since : Ms) (s : State), s.part.halted = false →
    s.part.chute.drop = some ⟨detected, some (n, since)⟩ → (∀ tag kind, classify bytes ≠ .good tag kind) → n < 3 →
    ∃ t, exec (.chuteReadAttemptEnd bytes) s = .next t ∧ t.pending = s.pending ∧
    t.part.uptime = (if bytes.length < 6 then s.part.timeAt (since + 40) else s.part.uptime) ∧
    t.part.chute = { s.part.chute with drop := some ⟨detected, some (n + 1, t.part.uptime)⟩ } ∧
    t.part.columns = s.part.columns ∧ t.part.fleet = s.part.fleet ∧ t.part.book = s.part.book ∧
    t.part.sched.queue = s.part.sched.queue ∧ t.part.supply = s.part.supply) ∧
  (∀ (c : ColId) (moment : Ms) (s : State), s.part.halted = false → s.part.quiet →
      (s.part.column c).auditNext = some moment → ∃ t,
      exec (.auditTick c) s = .next t ∧ t.pending = s.pending ∧ t.part.uptime = s.part.timeAt moment ∧
      (t.part.column c).auditNext = some (moment + 5000) ∧
      ((∀ i, s.part.auditable ⟨c, i⟩ = false) → (t.part.column c).auditPointer = (s.part.column c).auditPointer) ∧
      (∀ k : Nat, k < 24 → let i : PosId := (s.part.column c).auditPointer + 1 + (Fin.ofNat 24 k)
        s.part.auditable ⟨c, i⟩ = true →
        (∀ j, j < k → s.part.auditable ⟨c, (s.part.column c).auditPointer + 1 + (Fin.ofNat 24 j)⟩ = false) →
        (t.part.column c).auditPointer = i ∧
        ((s.part.column c).engine.watches = true →
          (∃ r ∈ (t.part.column c).readList, r.pos = i ∧ r.purpose = .audit) ∨
          ∃ rd, (t.part.column c).reader = some rd ∧ rd.pos = i ∧ rd.purpose = .audit)) ∧
      s.part.sameSlots t.part ∧ t.part.fleet = s.part.fleet ∧ t.part.book = s.part.book ∧
      t.part.chute = s.part.chute ∧ t.part.sched.queue = s.part.sched.queue ∧ t.part.supply = s.part.supply)

/-- The identification of an arrival, at the read's end, by the rows of R30: unreadable after the third attempt, a fob
that is no vehicle key, a tag that is not enrolled, a tag of a vehicle that is IN, and a tag of any other vehicle, which
is bound with the arrival minute of the record. A contract of a vehicle that was OUT for it is closed at that minute,
path SLOT (R29, R30, R31, R96, R97, R92). The return of a vehicle that was OUT for a movement or for staff, or AWAY,
queues ARRIVAL, and no other return does (R98, R96); a home slot of another vehicle that is OUT queues MISPLACED, after
the notice of the return, and no other slot does (R101). -/
def Obligations.Identification : Prop :=
  ∀ (c : ColId) (rd : Read) (bytes : List Byte) (m : Minute) (s : State), s.part.halted = false →
    s.part.alarmRoom → (s.part.column c).reader = some rd → s.part.custody ⟨c, rd.pos⟩ = .unread m →
    let x : SlotId := ⟨c, rd.pos⟩
    let becomes (k : Custody) (t : State) : Prop :=
      exec (.readAttemptEnd c bytes) s = .next t ∧ t.pending = s.pending ∧
      t.part.record x = { s.part.record x with custody := k } ∧ t.part.supply = s.part.supply
    ((∀ tag kind, classify bytes ≠ .good tag kind) → 3 ≤ rd.attempt → ∃ t, becomes (.unread m) t ∧
      t.part.alarmStands .fobUnread (.slot x) ∧ t.part.fleet = s.part.fleet ∧ t.part.book = s.part.book) ∧
    (∀ tag kind, classify bytes = .good tag kind →
      (kind ≠ 1 → ∃ t, becomes (.foreign tag .wrongKind m) t ∧ t.part.alarmStands .fobUnknown (.slot x) ∧
        t.part.alarmOver .fobUnread (.slot x) ∧ t.part.fleet = s.part.fleet ∧ t.part.book = s.part.book) ∧
      (kind = 1 → s.part.findTag tag = none → ∃ t, becomes (.foreign tag .unknown m) t ∧
        t.part.alarmStands .fobUnknown (.slot x) ∧ t.part.alarmOver .fobUnread (.slot x) ∧
        t.part.fleet = s.part.fleet ∧ t.part.book = s.part.book) ∧
      (∀ v y, kind = 1 → s.part.findTag tag = some v → v.status = .inSlot y → ∃ t,
        becomes (.foreign tag .duplicate m) t ∧ t.part.alarmStands .fobDuplicate (.slot x) ∧
        t.part.alarmOver .fobUnread (.slot x) ∧ t.part.fleet = s.part.fleet ∧ t.part.book = s.part.book) ∧
      (∀ v, kind = 1 → s.part.findTag tag = some v → (∀ y, v.status ≠ .inSlot y) → s.part.liveOn x = [] → ∃ t,
        becomes (.held tag v.unit m false) t ∧ t.part.alarmOver .fobUnread (.slot x) ∧
        (∀ w ∈ t.part.fleet, w.unit = v.unit → w.status = .inSlot x ∧ w.lastChange = t.part.minute) ∧
        (v.status ≠ .out .contract → t.part.book = s.part.book) ∧
        (∀ n k take level, v.status = .out .contract → v.contract = some n → s.part.findContract n = some k →
          k.state = .active take level →
          let e := evaluate s.part.late.settings k m
          t.part.book.ring = (s.part.book.ring ++ [ClosingRecord.mk t.part.book.closingSeq n k.unit k.cls take k.due m
            (.slot x) e.level e.hours e.charge e.capped]).drop (s.part.book.ring.length - 63) ∧
          (∀ d ∈ t.part.book.contracts, d.number ≠ n)) ∧
        (∀ n, v.status = .dropped n → ∀ e ∈ t.part.chute.log, e.number ≠ n) ∧
        (v.status = .stray → t.part.alarmOver .forcedRemoval (.vehicle v.unit)) ∧
        (let arrives : Prop := v.status = .out .movement ∨ v.status = .out .staff ∨ v.status = .away
          let arrival : NoticeBody := .arrival x v.unit m v.status
          (arrives → s.part.reports t.part [arrival]) ∧
          (¬ arrives → s.part.silentOn t.part fun b => ∃ y unit minute before, b = .arrival y unit minute before) ∧
          (∀ w o, s.part.findHome x = some w → w.unit ≠ v.unit → w.status = .out o →
            s.part.reports t.part [.misplaced x v.unit w.unit m] ∧
            (arrives → s.part.reports t.part [arrival, .misplaced x v.unit w.unit m])) ∧
          ((∀ w, s.part.findHome x = some w → w.unit = v.unit ∨ ∀ o, w.status ≠ .out o) →
            s.part.silentOn t.part fun b => ∃ y unit home minute, b = .misplaced y unit home minute))))

/-- The outcome of a read of a HELD slot, of a RELEASING slot whose release is VERIFYING, and of a FOREIGN slot. The fob
recorded clears the
audit-failed mark, and an end UNREADABLE sets it and raises FOB_UNREAD (R33); the release then opens with the latch
struck and its deadline a take window away (R66, R69), or ends UNVERIFIED with the record HELD again and a PENDING
contract deleted (R68, R75). Another fob is a swap: the vehicle recorded is STRAY, the slot is handled as a new
arrival at the read minute, by the rows of R30 (an unknown tag or kind, the tag of another vehicle that is IN, the tag of
another vehicle, which is bound), FOB_SWAP stands (R34), and the release ends MISMATCH (R67). That every VERIFYING
request is for a vehicle is kept by every step (LimitsKept). A FOREIGN slot (R35): a read that served RECHECK identifies
the tag again with its arrival minute, or leaves the slot UNREAD with FOB_UNREAD raised; one that served AUDIT alone
identifies only an UNKNOWN or RETIRED tag that is enrolled now, and else changes nothing; another tag is a swap in both.
What became of a read that served AUDIT and VERIFY is the model's (log entry 30), and left out here. -/
def Obligations.HeldAndReleasingReads : Prop :=
  ∀ (c : ColId) (rd : Read) (bytes : List Byte) (tag unit : Nat) (m : Minute) (f : Bool) (s : State),
    s.part.halted = false → s.part.alarmsDistinct → s.part.alarm.list.length ≤ 45 →
    (s.part.column c).reader = some rd →
    (∀ q ∈ s.part.sched.queue, q.isVerifying = true → q.target ≠ .staffSlot) →
    let x : SlotId := ⟨c, rd.pos⟩
    let becomes (k : Custody) (t : State) : Prop :=
      exec (.readAttemptEnd c bytes) s = .next t ∧ t.pending = s.pending ∧
      t.part.record x = { s.part.record x with custody := k } ∧ t.part.supply = s.part.supply ∧
      t.part.chute = s.part.chute ∧ t.part.book.ring = s.part.book.ring
    let foreign (g : Nat) (kind : Nat) : Custody :=
      .foreign g (if kind = 1 then .unknown else .wrongKind) s.part.minute
    let swapped (t : State) : Prop := t.part.alarmStands .fobSwap (.slot x) ∧
      t.part.alarmStands .forcedRemoval (.vehicle unit) ∧ ∀ w ∈ t.part.fleet, w.unit = unit → w.status = .stray
    let bound (g other : Nat) (t : State) : Prop := exec (.readAttemptEnd c bytes) s = .next t ∧
      t.pending = s.pending ∧ t.part.supply = s.part.supply ∧
      t.part.record x = { s.part.record x with custody := .held g other s.part.minute false } ∧
      ∀ w ∈ t.part.fleet, w.unit = other → w.status = .inSlot x
    (s.part.custody x = .held tag unit m f → s.part.liveOn x = [] →
      (classify bytes = .good tag 1 → ∃ t, becomes (.held tag unit m false) t ∧
        t.part.alarmOver .fobUnread (.slot x) ∧ t.part.fleet = s.part.fleet ∧ t.part.book = s.part.book) ∧
      ((∀ g kind, classify bytes ≠ .good g kind) → 3 ≤ rd.attempt → ∃ t, becomes (.held tag unit m true) t ∧
        t.part.alarmStands .fobUnread (.slot x) ∧ t.part.fleet = s.part.fleet ∧ t.part.book = s.part.book) ∧
      (∀ g kind, classify bytes = .good g kind → (g ≠ tag ∨ kind ≠ 1) → kind ≠ 1 ∨ s.part.findTag g = none → ∃ t,
        becomes (foreign g kind) t ∧ swapped t) ∧
      (∀ g v, classify bytes = .good g 1 → g ≠ tag → s.part.findTag g = some v → v.tag = g → v.unit ≠ unit →
        ((∃ y, v.status = .inSlot y) → ∃ t, becomes (.foreign g .duplicate s.part.minute) t ∧ swapped t ∧
          t.part.alarmStands .fobDuplicate (.slot x)) ∧
        ((∀ y, v.status ≠ .inSlot y) → ∃ t, bound g v.unit t ∧ swapped t))) ∧
    (∀ k r, s.part.custody x = .releasing tag unit m k f → s.part.verifyingOn x = some r →
      s.part.liveNumbers.Nodup →
      (∀ selected, r.phase = .verifying selected → classify bytes = .good tag 1 → ∃ t,
        becomes (.releasing tag unit m k false) t ∧ t.part.alarmOver .fobUnread (.slot x) ∧
        (∀ deadline, deadline = t.part.uptime + s.part.late.settings.window * 1000 →
          t.part.findRelease r.number = some { r with phase := .opened selected t.part.uptime deadline false }) ∧
        (∀ since, (s.part.engine x).latch = some (.closed since) →
          (t.part.engine x).latch = some (.striking t.part.uptime)) ∧
        t.part.liveNumbers = s.part.liveNumbers ∧ t.part.fleet = s.part.fleet ∧ t.part.book = s.part.book) ∧
      (s.part.liveOn x = [r] → (∀ g kind, classify bytes ≠ .good g kind) → 3 ≤ rd.attempt → ∃ t,
        becomes (.held tag unit m true) t ∧ t.part.alarmStands .fobUnread (.slot x) ∧
        t.part.liveNumbers = s.part.liveNumbers.filter (fun n => n != r.number) ∧
        (r.number, ReleaseOutcome.unverified) ∈ t.part.sched.ended ∧
        (∀ u n d q, r.target = .contract u n → s.part.findContract n = some d → d.state = .pending q →
          ∀ e ∈ t.part.book.contracts, e.number ≠ n) ∧
        t.part.fleet.map (·.status) = s.part.fleet.map (·.status)) ∧
      (∀ g kind, s.part.liveOn x = [r] → (∀ q ∈ s.part.liveOf unit, q = r) → classify bytes = .good g kind → (g ≠ tag ∨ kind ≠ 1) →
        kind ≠ 1 ∨ s.part.findTag g = none → ∃ t, becomes (foreign g kind) t ∧ swapped t ∧
        r.number ∉ t.part.liveNumbers ∧ (r.number, ReleaseOutcome.mismatch) ∈ t.part.sched.ended) ∧
      (∀ g v, s.part.liveOn x = [r] → (∀ q ∈ s.part.liveOf unit, q = r) → classify bytes = .good g 1 → g ≠ tag →
        s.part.findTag g = some v → v.tag = g → v.unit ≠ unit →
        let ended (t : State) : Prop :=
          r.number ∉ t.part.liveNumbers ∧ (r.number, ReleaseOutcome.mismatch) ∈ t.part.sched.ended
        ((∃ y, v.status = .inSlot y) → ∃ t, becomes (.foreign g .duplicate s.part.minute) t ∧ swapped t ∧ ended t ∧
          t.part.alarmStands .fobDuplicate (.slot x)) ∧
        ((∀ y, v.status ≠ .inSlot y) → ∃ t, bound g v.unit t ∧ swapped t ∧ ended t))) ∧
    (∀ reason, s.part.custody x = .foreign tag reason m → (∀ r ∈ s.part.liveOn x, r.target = .staffSlot) →
      s.part.liveNumbers.Nodup →
      let cleared (k : AlarmKind) (t : State) : Prop := t.part.alarmOver k (.slot x)
      let ended (t : State) : Prop := cleared .fobUnknown t ∧ cleared .fobDuplicate t
      let identified (g kind : Nat) (arrived : Minute) (t : State) : Prop :=
        (kind ≠ 1 → becomes (.foreign g .wrongKind arrived) t ∧ t.part.alarmStands .fobUnknown (.slot x) ∧
          cleared .fobDuplicate t ∧ t.part.fleet = s.part.fleet ∧ t.part.book = s.part.book) ∧
        (kind = 1 → s.part.findTag g = none → becomes (.foreign g .unknown arrived) t ∧
          t.part.alarmStands .fobUnknown (.slot x) ∧ cleared .fobDuplicate t ∧ t.part.fleet = s.part.fleet ∧
          t.part.book = s.part.book) ∧
        (∀ v y, kind = 1 → s.part.findTag g = some v → v.status = .inSlot y →
          becomes (.foreign g .duplicate arrived) t ∧ t.part.alarmStands .fobDuplicate (.slot x) ∧
          cleared .fobUnknown t ∧ t.part.fleet = s.part.fleet ∧ t.part.book = s.part.book) ∧
        (∀ v, kind = 1 → s.part.findTag g = some v → (∀ y, v.status ≠ .inSlot y) →
          exec (.readAttemptEnd c bytes) s = .next t ∧ t.pending = s.pending ∧ t.part.supply = s.part.supply ∧
          t.part.record x = { s.part.record x with custody := .held g v.unit arrived false } ∧ ended t ∧
          t.part.liveOn x = [] ∧ ∀ w ∈ t.part.fleet, w.unit = v.unit → w.status = .inSlot x)
      let recheck : Prop := rd.purpose = .recheck ∨ .recheck ∈ rd.also
      let auditOnly : Prop := rd.purpose = .audit ∧ ∀ p ∈ rd.also, p = .audit
      let unchanged (t : State) : Prop := becomes (.foreign tag reason m) t ∧ t.part.fleet = s.part.fleet ∧
        t.part.book = s.part.book ∧ ∀ a, a.kind ≠ .fobUnread → a.kind ≠ .columnLost →
          (a ∈ t.part.alarm.list ↔ a ∈ s.part.alarm.list)
      (∀ kind, classify bytes = .good tag kind →
        let again : Prop := (reason = .unknown ∨ reason = .retired) ∧ kind = 1 ∧ s.part.findTag tag ≠ none
        (recheck ∨ (auditOnly ∧ again) → ∃ t, identified tag kind m t ∧ cleared .fobUnread t) ∧
        (auditOnly → ¬ again → ∃ t, unchanged t ∧ cleared .fobUnread t)) ∧
      ((∀ g kind, classify bytes ≠ .good g kind) → 3 ≤ rd.attempt →
        (recheck → ∃ t, becomes (.unread m) t ∧ ended t ∧ t.part.alarmStands .fobUnread (.slot x) ∧
          t.part.fleet = s.part.fleet ∧ t.part.book = s.part.book) ∧
        (auditOnly → ∃ t, unchanged t)) ∧
      (∀ g kind, classify bytes = .good g kind → g ≠ tag → recheck ∨ auditOnly → ∃ t,
        identified g kind s.part.minute t ∧ t.part.alarmStands .fobSwap (.slot x)))

/-! ## Timers of the scheduler, of LOCATE and of the chute -/

/-- The timers of the scheduler: the oldest charge leaves the window of the mode in force, and none older than 5 s is
kept (R63); a WAITING STANDARD request that has waited the aging time ranks as PRIORITY (R64); both are followed by a
selection (R60), which starts the request that comes first by R64 of those that may be started then (R61, R65). At its
take deadline an OPEN release ends NOT_TAKEN, its drive stopped and its record back, or only
takes the deadline passed mark while a removal candidate is in progress (R71). That the time still missing to the moment
passes with the event is the model's (log entry 4), and so are the marks of what has been handled (log entry 5). -/
def Obligations.ReleaseTimers : Prop :=
  (∀ (k : Strike) (s : State), s.part.halted = false → s.part.sched.strikes.find? (fun k => !k.left) = some k → ∃ t,
    exec .strikeChargeExpiry s = .next t ∧ t.pending = s.pending ∧
    t.part.uptime = s.part.timeAt (k.charged + if s.part.supply.mode = .mains then 2000 else 5000) ∧
    (∀ j ∈ t.part.sched.strikes, t.part.uptime < j.charged + 5000) ∧
    (s.part.isReady = true → t.part.noneMayStart ∧ (s.part.liveNumbers.Nodup →
      ∀ r, { s.part with uptime := t.part.uptime }.isBest r → s.part.selected t.part r)) ∧
    t.part.liveNumbers = s.part.liveNumbers ∧
    t.part.fleet = s.part.fleet ∧ t.part.book = s.part.book ∧ t.part.chute = s.part.chute ∧
    t.part.supply = s.part.supply) ∧
  (∀ (n : Nat) (r : Release) (s : State), s.part.halted = false → s.part.findRelease n = some r →
    r.phase = .waiting → r.cls = .standard → r.aged = false → ∃ t,
    exec (.agingReached n) s = .next t ∧ t.pending = s.pending ∧
    t.part.uptime = s.part.timeAt (r.submit + s.part.late.settings.aging * 1000) ∧ t.part.rank r = 1 ∧
    (∀ q ∈ t.part.sched.queue, q.number = n → q.aged = true) ∧
    (s.part.isReady = true → t.part.noneMayStart ∧ (s.part.liveNumbers.Nodup →
      ∀ r, { s.part with uptime := t.part.uptime }.isBest r → s.part.selected t.part r)) ∧
    t.part.liveNumbers = s.part.liveNumbers ∧
    t.part.fleet = s.part.fleet ∧ t.part.book = s.part.book ∧ t.part.chute = s.part.chute ∧
    t.part.supply = s.part.supply) ∧
  (∀ (n : Nat) (r : Release) (a b deadline : Ms) (s : State), s.part.halted = false →
    s.part.findRelease n = some r → r.phase = .opened a b deadline false →
    ((s.part.engine r.slot).removing = false → ∃ t,
      exec (.takeDeadline n) s = .next t ∧ t.pending = s.pending ∧ t.part.uptime = s.part.timeAt deadline ∧
      t.part.liveNumbers = s.part.liveNumbers.filter (fun m => m != n) ∧
      (n, ReleaseOutcome.notTaken) ∈ t.part.sched.ended ∧
      (∀ l, (s.part.engine r.slot).latch = some l → l.driven = true →
        (t.part.engine r.slot).latch = some (.closing t.part.uptime) ∧
        t.part.custody r.slot = if r.target = .staffSlot then s.part.custody r.slot
          else (s.part.custody r.slot).returned) ∧
      t.part.fleet.map (·.status) = s.part.fleet.map (·.status) ∧ t.part.book.ring = s.part.book.ring ∧
      t.part.chute = s.part.chute ∧ t.part.supply = s.part.supply) ∧
    ((s.part.engine r.slot).removing = true → s.part.quiet → ∃ t,
      exec (.takeDeadline n) s = .next t ∧ t.pending = s.pending ∧ t.part.uptime = s.part.timeAt deadline ∧
      t.part.findRelease n = some { r with phase := .opened a b deadline true } ∧
      t.part.liveNumbers = s.part.liveNumbers ∧ t.part.sched.ended = s.part.sched.ended ∧ s.part.sameSlots t.part ∧
      t.part.fleet = s.part.fleet ∧ t.part.book = s.part.book ∧ t.part.chute = s.part.chute ∧
      t.part.supply = s.part.supply))

/-- The LOCATE timer of a slot stops when it runs out (R53). A drop begins where the flap passes a fob, with the current
minute as its detection minute and the mouth reader at its first attempt; an empty pocket ends the drive, the drop and
the pocket entry number; a drive that has lasted 2 s stops, and the pocket is driven again (R106). Until start-up has
ended, in a halt, and where the flap passes no fob, no drop is detected and the report moves the pin alone, as the pocket
that reports empty without a drive does (R115, R152; the model's reading, log entries 2 and 22). That the drives of a
pocket that does not empty begin 5 s apart is the model's reading (log entry 10), and that the time still missing to the
end of a timer passes with its event is the model's (log entry 4). -/
def Obligations.LocateAndPocketTimers : Prop :=
  (∀ (x : SlotId) (moment : Ms) (s : State), s.part.halted = false →
    (s.part.engine x).locateUntil = some moment → ∃ t,
    exec (.locateTimerExpiry x) s = .next t ∧ t.pending = s.pending ∧ t.part.uptime = s.part.timeAt moment ∧
    t.part.engine x = { s.part.engine x with locateUntil := none } ∧ t.part.record x = s.part.record x ∧
    (∀ y, y ≠ x → t.part.slot y = s.part.slot y) ∧ t.part.fleet = s.part.fleet ∧ t.part.book = s.part.book ∧
    t.part.chute = s.part.chute ∧ t.part.sched.queue = s.part.sched.queue ∧ t.part.supply = s.part.supply ∧
    t.part.alarm = s.part.alarm) ∧
  (∀ s : State,
    let passes : Prop := s.part.isReady = true ∧ s.part.chute.flapLocked = false ∧ s.part.chute.drop = none ∧
      s.part.chute.drive = none
    (passes → exec .dropDetected s = .next { s with part := { s.part with chute := { s.part.chute with
      pocketFob := true, drop := some ⟨s.part.minute, some (1, s.part.uptime)⟩ } } }) ∧
    (¬ passes → exec .dropDetected s = .next { s with part := { s.part with chute :=
      { s.part.chute with pocketFob := true } } })) ∧
  (∀ s : State,
    (s.part.chute.drive ≠ none → exec .pocketEmpty s = .next { s with part := { s.part with chute :=
      { s.part.chute with pocketFob := false, drop := none, drive := none, pocketEntry := none } } }) ∧
    (s.part.chute.drive = none → exec .pocketEmpty s = .next { s with part := { s.part with chute :=
      { s.part.chute with pocketFob := false } } })) ∧
  (∀ (began : Ms) (s : State), s.part.halted = false →
    (s.part.chute.drive = some ⟨began, true⟩ → ∃ t,
      exec .pocketDriveTimeout s = .next t ∧ t.pending = s.pending ∧
      t.part.uptime = s.part.timeAt (began + 2000) ∧
      t.part.chute = { s.part.chute with drive := some ⟨began, false⟩ } ∧ t.part.columns = s.part.columns ∧
      t.part.fleet = s.part.fleet ∧ t.part.book = s.part.book ∧ t.part.sched.queue = s.part.sched.queue ∧
      t.part.supply = s.part.supply ∧ t.part.alarm = s.part.alarm) ∧
    (s.part.chute.drive = some ⟨began, false⟩ → ∃ t,
      exec .pocketRetry s = .next t ∧ t.pending = s.pending ∧ t.part.uptime = s.part.timeAt (began + 5000) ∧
      t.part.chute = { s.part.chute with drive := some ⟨t.part.uptime, true⟩ } ∧ t.part.columns = s.part.columns ∧
      t.part.fleet = s.part.fleet ∧ t.part.book = s.part.book ∧ t.part.sched.queue = s.part.sched.queue ∧
      t.part.supply = s.part.supply ∧ t.part.alarm = s.part.alarm))

/-- The end of the mouth reader's read, at a GOOD attempt or at the third that is not: the drop is recorded at the end of
the log under the next free number, with its detection minute and the kind that R107 gives, the alarm of its row stands,
the flap lock follows the bounds of the log, the CHUTE_DROP notice is the last one made, and the pocket is driven (R105,
R106, R107, R109, R110). A vehicle of a NAMED entry is DROPPED; the contract of one that was OUT for it is closed at the
detection minute with path CHUTE and the entry, and the FORCED_REMOVAL condition of one that was STRAY ends (R108, R89,
R92). -/
def Obligations.DropRecorded : Prop :=
  ∀ (bytes : List Byte) (detected : Minute) (attempt : Nat) (since : Ms) (outcome : ReadOutcome) (s : State),
    s.part.halted = false → s.part.chute.drop = some ⟨detected, some (attempt, since)⟩ →
    ((∃ tag kind, classify bytes = .good tag kind ∧ outcome = .good tag kind) ∨
      ((∀ tag kind, classify bytes ≠ .good tag kind) ∧ 3 ≤ attempt ∧ outcome = .unreadable)) →
    s.part.chute.log.length ≤ 96 → s.part.alarmRoom → ∃ t num kind closing,
    exec (.chuteReadAttemptEnd bytes) s = .next t ∧ t.pending = s.pending ∧
    (s.part.chute.lastEntry ≤ 65535 →
      nextFree 65535 s.part.chute.lastEntry (s.part.chute.log.map (·.number)) num) ∧
    (s.part.lines.notices.length ≤ 27 → t.part.lines.notices.getLast? =
      some ⟨t.part.lines.counter, t.part.minute, .chuteDrop num detected kind closing⟩) ∧
    t.part.chute.log = s.part.chute.log ++ [⟨num, detected, kind, .inChute⟩] ∧
    (∀ e ∈ s.part.chute.log, e.number ≠ num) ∧ 1 ≤ num ∧ num ≤ 65535 ∧
    t.part.chute.lastEntry = num ∧ t.part.chute.pocketEntry = some num ∧
    t.part.chute.drop = some ⟨detected, none⟩ ∧ t.part.chute.drive = some ⟨t.part.uptime, true⟩ ∧
    (t.part.chute.flapLocked = true ↔ 96 ≤ t.part.chute.log.length ∨
      64 ≤ (t.part.chute.log.filter fun e => e.place == .inChute).length) ∧
    (outcome = .unreadable → kind = .unread ∧ t.part.alarmStands .chuteUnread .chute ∧
      t.part.fleet = s.part.fleet ∧ t.part.book = s.part.book) ∧
    (∀ tag code, outcome = .good tag code →
      (code ≠ 1 → kind = .unread ∧ t.part.alarmStands .chuteUnread .chute ∧ t.part.fleet = s.part.fleet ∧
        t.part.book = s.part.book) ∧
      (code = 1 → s.part.findTag tag = none → kind = .unknown tag ∧ t.part.fleet = s.part.fleet ∧
        t.part.book = s.part.book) ∧
      (∀ v, code = 1 → s.part.findTag tag = some v →
        (((∃ y, v.status = .inSlot y) ∨ ∃ n, v.status = .dropped n) → kind = .conflict tag ∧
          t.part.alarmStands .fobDuplicate (.entry num) ∧ t.part.fleet = s.part.fleet ∧
          t.part.book = s.part.book) ∧
        ((∃ o, v.status = .out o) ∨ v.status = .stray ∨ v.status = .away → kind = .named tag v.unit ∧
          ∀ w ∈ t.part.fleet, w.unit = v.unit → w.status = .dropped num ∧ w.lastChange = t.part.minute) ∧
        (v.status = .stray → s.part.findUnit v.unit = some v → t.part.alarmOver .forcedRemoval (.vehicle v.unit)) ∧
        (v.status ≠ .out .contract → s.part.findUnit v.unit = some v → t.part.book = s.part.book ∧ closing = none) ∧
        (∀ n k take level, v.status = .out .contract → s.part.findUnit v.unit = some v → v.contract = some n →
          s.part.findContract n = some k → k.state = .active take level →
          let e := evaluate s.part.late.settings k detected
          t.part.book.closingSeq = (if s.part.book.closingSeq < 4294967295 then s.part.book.closingSeq + 1 else 1) ∧
          closing = some t.part.book.closingSeq ∧
          t.part.book.ring = (s.part.book.ring ++ [ClosingRecord.mk t.part.book.closingSeq k.number k.unit k.cls take k.due
            detected (.chute num) e.level e.hours e.charge e.capped]).drop (s.part.book.ring.length - 63) ∧
          (∀ d ∈ t.part.book.contracts, d.number ≠ n) ∧
          (s.part.lines.notices.length ≤ 27 → ∃ a ∈ t.part.lines.notices, ∃ rec,
            a.body = .contractClosed rec ∧ rec.sequence = t.part.book.closingSeq)))) ∧
    (t.part.book.closingSeq = s.part.book.closingSeq → closing = none) ∧
    t.part.columns = s.part.columns ∧ t.part.sched.queue = s.part.sched.queue ∧ t.part.supply = s.part.supply

/-! ## The clock and the sweep -/

/-- A minute boundary takes the count to the next multiple of 60, or from its last minute to 0, and writes the retained
minute (R117, R118); that the event does so from any count, the time still missing passing with it, is the model's (log
entry 4). With the clock SET or SUSPECT and start-up ended a sweep of the new minute begins, or a pending boundary is noted
behind the sweep in progress; else neither (R117, R118, R129, R131). An examination of the sweep ends it where no
contract is left to examine, or, unless it is a full walk, where the next one is not due within the prewarn time; a noted
boundary then begins the next sweep. Otherwise it evaluates the next contract of the due list at the sweep minute, marks
it, and a change of its level is reported, with the OVERDUE alarm and the escalation hold following it (R129, R130, R126,
R127, R51). -/
def Obligations.MinuteSweep : Prop :=
  (∀ s : State, s.part.halted = false → ∃ t,
    exec .minuteBoundary s = .next t ∧ t.pending = s.pending ∧ s.part.uptime ≤ t.part.uptime ∧
    t.part.late.count.toNat =
      (if s.part.late.count.toNat < 4294967280 then (s.part.late.count.toNat / 60 + 1) * 60 else 0) ∧
    t.part.late.retainedMinute = t.part.late.count.toNat / 60 ∧ t.part.late.clock = s.part.late.clock ∧
    t.part.late.settings = s.part.late.settings ∧
    (s.part.isReady = true → s.part.late.clock ≠ .unset →
      (s.part.late.sweep = none → t.part.late.sweep = some ⟨t.part.minute, s.part.late.fullWalk⟩ ∧
        t.part.late.sweepNumber = (s.part.late.sweepNumber + 1) % 65536 ∧
        t.part.late.latestSweep = some t.part.minute ∧ t.part.late.fullWalk = false ∧
        t.part.late.pendingBoundary = s.part.late.pendingBoundary) ∧
      (∀ w, s.part.late.sweep = some w → t.part.late.sweep = some w ∧ t.part.late.pendingBoundary = true ∧
        t.part.late.sweepNumber = s.part.late.sweepNumber ∧ t.part.late.fullWalk = s.part.late.fullWalk)) ∧
    (s.part.isReady = false ∨ s.part.late.clock = .unset → t.part.late.sweep = s.part.late.sweep ∧
      t.part.late.pendingBoundary = s.part.late.pendingBoundary ∧
      t.part.late.sweepNumber = s.part.late.sweepNumber ∧ t.part.late.fullWalk = s.part.late.fullWalk) ∧
    t.part.columns = s.part.columns ∧ t.part.fleet = s.part.fleet ∧ t.part.book = s.part.book ∧
    t.part.chute = s.part.chute ∧ t.part.sched.queue = s.part.sched.queue ∧ t.part.alarm = s.part.alarm ∧
    t.part.supply = s.part.supply ∧ t.part.lines = s.part.lines) ∧
  (∀ (w : Machine.Sweep) (s : State), s.part.halted = false → s.part.late.sweep = some w →
    let examined (c : Contract) : Prop := c.mark = some s.part.late.sweepNumber
    (((∀ c ∈ s.part.book.dueList, examined c) ∨
        (w.full = false ∧ ∃ pre c post, s.part.book.dueList = pre ++ c :: post ∧ (∀ d ∈ pre, examined d) ∧
          ¬ examined c ∧ w.minute + s.part.late.settings.prewarn < c.due)) → ∃ t,
      exec .sweepExamination s = .next t ∧ t.pending = s.pending ∧
      t.part.late = (if s.part.late.pendingBoundary then { s.part.late with
          pendingBoundary := false, sweepNumber := (s.part.late.sweepNumber + 1) % 65536
          sweep := some ⟨s.part.minute, s.part.late.fullWalk⟩, latestSweep := some s.part.minute, fullWalk := false }
        else { s.part.late with sweep := none }) ∧
      t.part.fleet = s.part.fleet ∧ t.part.book = s.part.book ∧ t.part.chute = s.part.chute ∧
      s.part.sameCabinet t.part ∧ s.part.sameSupply t.part ∧ t.part.alarm.list = s.part.alarm.list) ∧
    (∀ pre c post take old, s.part.book.dueList = pre ++ c :: post → (∀ d ∈ pre, examined d) → ¬ examined c →
      (w.full = true ∨ c.due ≤ w.minute + s.part.late.settings.prewarn) →
      s.part.findContract c.number = some c → c.state = .active take old → ∃ t,
      let e := evaluate s.part.late.settings c w.minute
      exec .sweepExamination s = .next t ∧ t.pending = s.pending ∧
      t.part.findContract c.number = some { c with
        state := .active take e.level, hours := e.hours, charge := e.charge, capped := e.capped
        mark := some s.part.late.sweepNumber } ∧
      (∀ d, d.number ≠ c.number → (d ∈ t.part.book.contracts ↔ d ∈ s.part.book.contracts)) ∧
      t.part.book.ring = s.part.book.ring ∧ t.part.late = s.part.late ∧
      (e.level = old → t.part.fleet = s.part.fleet ∧ t.part.alarm.list = s.part.alarm.list ∧
        t.part.lines.notices = s.part.lines.notices) ∧
      (e.level ≠ old → s.part.lines.notices.length < 32 →
        ∃ n ∈ t.part.lines.notices, n.body = .levelChanged c.number (some old) e.level e.charge) ∧
      (old.rank < Level.overdue.rank → Level.overdue.rank ≤ e.level.rank → s.part.alarmRoom →
        t.part.alarmStands .overdue (.contract c.number)) ∧
      (Level.overdue.rank ≤ old.rank → e.level.rank < Level.overdue.rank → s.part.alarmsDistinct →
        t.part.alarmOver .overdue (.contract c.number)) ∧
      (old ≠ .unreturned → e.level = .unreturned → ∀ v ∈ t.part.fleet, v.unit = c.unit → v.hold ≠ none) ∧
      t.part.fleet.map (·.status) = s.part.fleet.map (·.status) ∧ t.part.chute = s.part.chute ∧
      s.part.sameCabinet t.part ∧ s.part.sameSupply t.part))

/-- An evaluation: the effective grace is the override, or else the default grace, held below T2 (R122); the lateness, an
exact signed integer, gives the level by the table of R123, and the level and the lateness give the billable hours of
R124, held at 65,535; the charge is whole days and a part-day that never costs more than a day, held at 16,777,215, and
the capped mark says whether hours or charge were held (R125). -/
def Obligations.LevelAndHours : Prop :=
  (∀ (st : Settings) (c : Contract) (now : Minute), st.inRange →
    let override := c.grace.getD st.grace
    let g : Int := if override < st.t2 then override else st.t2 - 1
    let s : Int := (now : Int) - (c.due : Int)
    let e := evaluate st c now
    (now ≤ 71582788 → c.due ≤ 71582788 → -71582788 ≤ s ∧ s ≤ 71582788) ∧
    (e.level = .current ↔ s < -(st.prewarn : Int)) ∧
    (e.level = .dueSoon ↔ -(st.prewarn : Int) ≤ s ∧ s ≤ 0) ∧
    (e.level = .grace ↔ 0 < s ∧ s ≤ g) ∧
    (e.level = .late ↔ 0 < s ∧ g < s ∧ s < (st.t2 : Int)) ∧
    (e.level = .overdue ↔ (st.t2 : Int) ≤ s ∧ s < (st.t3 : Int)) ∧
    (e.level = .unreturned ↔ (st.t3 : Int) ≤ s) ∧
    (e.level = .current ∨ e.level = .dueSoon ∨ e.level = .grace → e.hours = 0 ∧ e.charge = 0) ∧
    (e.level = .late ∨ e.level = .overdue ∨ e.level = .unreturned → 1 ≤ s ∧ 1 ≤ e.hours ∧
      e.hours = min ((s.toNat + 59) / 60) 65535) ∧
    e.charge = min (e.hours / 24 * c.dayRate + min (e.hours % 24 * c.hourRate) c.dayRate) 16777215 ∧
    (e.capped = true ↔ (0 < s ∧ g < s ∧ 65535 < (s.toNat + 59) / 60) ∨
      16777215 < e.hours / 24 * c.dayRate + min (e.hours % 24 * c.hourRate) c.dayRate)) ∧
  ([Level.current, .dueSoon, .grace, .late, .overdue, .unreturned].map Level.rank = [0, 1, 2, 3, 4, 5]) ∧
  (∀ (st : Settings) (c : Contract), st.inRange → c.grace = some 29 → 30 < st.t2 →
    (evaluate st c (c.due + 30)).hours = 1 ∧ (evaluate st c (c.due + 60)).hours = 1 ∧
    (evaluate st c (c.due + 61)).hours = 2)

/-! ## The supply -/

/-- The pins of the supply monitor and their timings, and the mode changes. The timing of mains runs while the input is
away from the level of the mode in force, that of the battery while its sense is in the band of the other state; a halted
part times nothing (R149, R150). Mains absent for 200 ms gives RESERVE, and LOW_RESERVE where the battery is LOW; mains
present for 5 s gives MAINS; a battery state that changes takes a reserve mode with it. Every change of mode sets the
flag, and the audits of the RUNNING columns follow it (R37, R39); SUPPLY_RESERVE stands from the fall out of MAINS to the
return, SUPPLY_LOW in LOW_RESERVE; and the releases fit the new mode (R76, R77, R150, R151). That the time still missing
to the end of a timing passes with its event is the model's (log entry 4), and so is that the pins move in a halt (log
entry 2). -/
def Obligations.SupplyModes : Prop :=
  (∀ (present : Bool) (s : State), exec (.mainsInputChange present) s = .next { s with part := { s.part with
    supply := { s.part.supply with
      mainsPin := present
      mainsSince := if s.part.halted then none
        else if present = decide (s.part.supply.mode = .mains) then none
        else some (s.part.supply.mainsSince.getD s.part.uptime) } } }) ∧
  (∀ (mv : Nat) (s : State), exec (.batterySenseChange mv) s = .next { s with part := { s.part with
    supply := { s.part.supply with
      batteryPin := mv
      batterySince := if s.part.halted then none
        else if (s.part.supply.batteryIsLow = true ∧ 2250 < mv) ∨ (s.part.supply.batteryIsLow = false ∧ mv < 2100)
        then some (s.part.supply.batterySince.getD s.part.uptime) else none } } }) ∧
  (∀ s : State, s.part.halted = false → s.part.liveNumbers.Nodup →
    let carried (t : State) : Prop := t.pending = s.pending ∧
      t.part.sched.inFlight ≤ t.part.supply.mode.holdLimit ∧
      (s.part.isReady = true → t.part.noneMayStart) ∧
      (∀ c : ColId, (s.part.column c).engine = .running → s.part.auditFollows t.part c) ∧
      t.part.fleet.map (·.status) = s.part.fleet.map (·.status) ∧ t.part.book.ring = s.part.book.ring ∧
      t.part.chute = s.part.chute
    (∀ since, s.part.supply.mode = .mains → s.part.supply.mainsSince = some since → ∃ t,
      exec .mainsAbsentQualified s = .next t ∧ carried t ∧ t.part.uptime = s.part.timeAt (since + 200) ∧
      t.part.supply = { s.part.supply with
        mainsSince := none, mode := if s.part.supply.batteryIsLow then .lowReserve else .reserve } ∧
      t.part.lines.flags.supplyChanged = true ∧
      (s.part.alarmRoom → t.part.alarmStands .supplyReserve .supply) ∧
      (s.part.alarmsDistinct → s.part.alarm.list.length ≤ 46 → s.part.supply.batteryIsLow = true →
        t.part.alarmStands .supplyLow .supply) ∧
      (s.part.supply.batteryIsLow = true → ∀ r ∈ t.part.sched.queue, r.cls = .staff)) ∧
    (∀ since, s.part.supply.mode ≠ .mains → s.part.supply.mainsSince = some since →
      s.part.sched.inFlight ≤ s.part.supply.mode.holdLimit → ∃ t,
      exec .mainsPresentQualified s = .next t ∧ carried t ∧ t.part.uptime = s.part.timeAt (since + 5000) ∧
      t.part.supply = { s.part.supply with mainsSince := none, mode := .mains } ∧
      t.part.lines.flags.supplyChanged = true ∧ t.part.liveNumbers = s.part.liveNumbers ∧
      (s.part.alarmsDistinct → t.part.alarmOver .supplyReserve .supply ∧
        (s.part.supply.mode = .lowReserve → t.part.alarmOver .supplyLow .supply))) ∧
    (∀ since, s.part.supply.batterySince = some since →
      s.part.sched.inFlight ≤ s.part.supply.mode.holdLimit → ∃ t,
      exec .batteryStateQualified s = .next t ∧ t.pending = s.pending ∧
      t.part.uptime = s.part.timeAt (since + 2000) ∧
      t.part.supply = { s.part.supply with
        batterySince := none, batteryIsLow := !s.part.supply.batteryIsLow
        mode := if s.part.supply.mode = .mains then .mains
          else if s.part.supply.batteryIsLow then .reserve else .lowReserve } ∧
      t.part.sched.inFlight ≤ t.part.supply.mode.holdLimit ∧
      ((s.part.supply.mode = .reserve ∧ s.part.supply.batteryIsLow = false ∨
          s.part.supply.mode = .lowReserve ∧ s.part.supply.batteryIsLow = true) →
        ∀ c : ColId, (s.part.column c).engine = .running → s.part.auditFollows t.part c) ∧
      (s.part.supply.mode = .reserve → s.part.supply.batteryIsLow = false →
        (∀ r ∈ t.part.sched.queue, r.cls = .staff) ∧ t.part.lines.flags.supplyChanged = true ∧
        (s.part.alarmRoom → t.part.alarmStands .supplyLow .supply)) ∧
      (s.part.supply.mode = .lowReserve → s.part.supply.batteryIsLow = true →
        t.part.lines.flags.supplyChanged = true ∧ (s.part.alarmsDistinct → t.part.alarmOver .supplyLow .supply)) ∧
      (s.part.supply.mode ≠ .reserve ∨ s.part.supply.batteryIsLow = true →
        t.part.liveNumbers = s.part.liveNumbers) ∧
      t.part.fleet.map (·.status) = s.part.fleet.map (·.status) ∧ t.part.chute = s.part.chute))

/-- The stop halts the part: every latch undriven, nothing watched or timed at the slots, the flap locked, every output
and line driver released, and every record kept; a halted part takes no command but POWER_ON and the levels of its
input pins, the mouth sensor's among them (R152; the pins are the model's, log entry 2). Steps 7 to 9 of start-up, when no
column is RECONCILING any more: the chute check, the RECONCILED notice and flag, and the end of STARTING (R154, R115,
R157; that a completion with a column RECONCILING changes nothing is the model's, log entry 6, and so is that a fob found
in the pocket is read inside the command, in no time, log entry 17, and recorded also past the bounds of a full chute, log
entry 35). A fob that is recorded already is let fall with no new entry, and the pocket's next report of empty drops its
number (R115, R106; that the number stands until that report is the model's, log entry 38). -/
def Obligations.StopAndCompletion : Prop :=
  (∀ s : State, s.part.halted = false → ∃ t, exec .supplyStop s = .next t ∧ t.pending = s.pending ∧
    t.part.halted = true ∧ t.part.fleet = s.part.fleet ∧ t.part.book = s.part.book ∧ t.part.late = s.part.late ∧
    t.part.chute = { s.part.chute with flapLocked := true, drop := none, drive := none } ∧
    t.part.supply = { s.part.supply with phase := .halted } ∧
    t.part.alarm = { s.part.alarm with buzzer := false, staffLamp := false } ∧ t.part.lines.attention = false ∧
    (∀ l, (t.part.line l).inFrame = false ∧ (t.part.line l).buffer = none) ∧
    (∀ x, t.part.record x = s.part.record x ∧ t.part.engine x = { s.part.engine x with
      qualified := none, candidate := none, latch := none, locateUntil := none }) ∧
    (∀ c, (t.part.column c).fitted = (s.part.column c).fitted ∧ (t.part.column c).engine = .stopped)) ∧
  (∀ (c : Instr) (s : State), s.part.halted = true →
    (∀ i b, c ≠ .powerOn i b) → (∀ x b, c ≠ .presenceContactChange x b) → (∀ x b, c ≠ .latchSenseChange x b) →
    (∀ b, c ≠ .mainsInputChange b) → (∀ m, c ≠ .batterySenseChange m) → c ≠ .pocketEmpty → c ≠ .dropDetected →
    exec c s = .next s) ∧
  (∀ (cause : Cause) (attempts : List (List Byte)) (s : State), s.part.supply.phase = .starting cause →
    ((∃ c : ColId, (s.part.column c).engine = .reconciling) → exec (.startupCompletion attempts) s = .next s) ∧
    ((∀ c : ColId, (s.part.column c).engine ≠ .reconciling) → ∃ t,
      exec (.startupCompletion attempts) s = .next t ∧ t.pending = s.pending ∧
      t.part.supply = { s.part.supply with phase := .ready } ∧ t.part.lines.flags.reconciled = true ∧
      t.part.chute.flapLocked = t.part.chute.bounded ∧ t.part.columns = s.part.columns ∧
      t.part.sched = s.part.sched ∧ t.part.uptime = s.part.uptime ∧
      (s.part.chute.pocketFob = false →
        t.part.chute = { s.part.chute with pocketEntry := none, flapLocked := s.part.chute.bounded } ∧
        t.part.fleet = s.part.fleet ∧ t.part.book = s.part.book ∧
        (s.part.lines.notices.length ≤ 30 → ∃ fitted lost : BitVec 16,
          (∀ c : ColId, fitted.getLsbD c.val = (s.part.column c).fitted) ∧
          (∀ c : ColId, lost.getLsbD c.val = ((s.part.column c).engine == .lost)) ∧
          t.part.lines.notices.getLast? = some ⟨t.part.lines.counter, s.part.minute, .reconciled cause
            s.part.supply.mode s.part.late.clock fitted lost s.part.supply.settledTaken
            s.part.supply.settledPower⟩)) ∧
      (s.part.chute.pocketFob = true → (∃ e ∈ s.part.chute.log, s.part.chute.pocketEntry = some e.number) →
        t.part.chute = { s.part.chute with
          drive := some ⟨s.part.uptime, true⟩, flapLocked := s.part.chute.bounded } ∧
        exec .pocketEmpty t = .next { t with part := { t.part with chute := { t.part.chute with
          pocketFob := false, drop := none, drive := none, pocketEntry := none } } } ∧
        t.part.fleet = s.part.fleet ∧ t.part.book = s.part.book) ∧
      (s.part.chute.pocketFob = true → (∀ e ∈ s.part.chute.log, s.part.chute.pocketEntry ≠ some e.number) →
        ∃ e, t.part.chute.log = s.part.chute.log ++ [e] ∧ e.dropMinute = s.part.minute ∧ e.place = .inChute ∧
          t.part.chute.pocketEntry = some e.number ∧ t.part.chute.drive = some ⟨s.part.uptime, true⟩)))

/-! ## Fobs, alarms and lamps -/

/-- The classification of an attempt: fewer than six bytes are NO_RESPONSE; six give GOOD, with the tag ID and the kind
they carry, where the check byte agrees and the tag ID is valid, and BAD_CHECK otherwise; bytes after the sixth do not
count; a GOOD record with one byte changed is BAD_CHECK; the records of Example 1 give the results stated there (R22,
R23). -/
def Obligations.FobRecords : Prop :=
  (∀ bytes : List Byte, bytes.length < 6 ↔ classify bytes = .noResponse) ∧
  (∀ (record extra : List Byte), record.length = 6 → classify (record ++ extra) = classify record) ∧
  (∀ (b1 b2 b3 b4 kind check : Byte), let tag := ((b1.toNat * 256 + b2.toNat) * 256 + b3.toNat) * 256 + b4.toNat
    (check = crc8 [b1, b2, b3, b4, kind] → tag ≠ 0 → tag ≠ 4294967295 →
      classify [b1, b2, b3, b4, kind, check] = .good tag kind.toNat) ∧
    (check ≠ crc8 [b1, b2, b3, b4, kind] ∨ tag = 0 ∨ tag = 4294967295 →
      classify [b1, b2, b3, b4, kind, check] = .badCheck)) ∧
  (∀ (pre post : List Byte) (a b : Byte) (tag kind : Nat), (pre ++ a :: post).length = 6 → a ≠ b →
    classify (pre ++ a :: post) = .good tag kind → classify (pre ++ b :: post) = .badCheck) ∧
  classify [0x00#8, 0x00#8, 0x01#8, 0x2C#8, 0x01#8, 0x3E#8] = .good 300 1 ∧
  classify [0x00#8, 0x00#8, 0x00#8, 0x01#8, 0x01#8, 0x12#8] = .good 1 1 ∧
  classify [0x00#8, 0x00#8, 0x00#8, 0x01#8, 0x02#8, 0x1B#8] = .good 1 2 ∧
  classify [0x00#8, 0x00#8, 0x01#8, 0x2C#8, 0x01#8, 0x12#8] = .badCheck ∧
  classify [0#8, 0#8, 0#8, 0#8, 0#8, 0#8] = .badCheck

/-- A raise and the end of a condition, row by row: what becomes of the record of the kind and subject, when a new one is
made and under which number, the next free one after the last assigned, which record gives way to it in a full list, and when the overflow condition is set and
cleared instead (R135, R137, R138, R139, R145). -/
def Obligations.AlarmRules : Prop :=
  ∀ (p : Part) (k : AlarmKind) (x : Subject), p.alarmsDistinct →
    let fresh (p q : Part) : Prop := ∃ n, 1 ≤ n ∧ n ≤ 65535 ∧
      (p.alarm.lastNumber ≤ 65535 → nextFree 65535 p.alarm.lastNumber (p.alarm.list.map (·.number)) n) ∧
      (∀ b ∈ p.alarm.list, b.number ≠ n) ∧
      q.alarm.list = p.alarm.list ++ [⟨n, k, x, p.minute, .activeUnacked⟩] ∧ q.alarm.lastNumber = n ∧
      q.lines.flags = { p.lines.flags with
        alarmRaised := true, noticesLost := p.lines.flags.noticesLost || decide (32 ≤ p.lines.notices.length) } ∧
      (p.lines.notices.length < 32 → ∃ m, q.lines.notices = p.lines.notices ++
        [⟨m, p.minute, .alarmRaised n k x p.minute⟩])
    (p.alarmStands k x → p.raise k x = p) ∧
    (∀ a ∈ p.alarm.list, ∀ m, a.kind = k → a.subject = x → a.state = .clearedUnacked m →
      (p.raise k x).alarm = { p.alarm with list := p.alarm.list.map fun b =>
        if b.number = a.number then { b with state := .activeUnacked, raised := p.minute } else b } ∧
      (p.raise k x).lines.flags.alarmRaised = true ∧
      (p.lines.notices.length < 32 → ∃ n, (p.raise k x).lines.notices = p.lines.notices ++
        [⟨n, p.minute, .alarmRaised a.number k x p.minute⟩])) ∧
    ((∀ a ∈ p.alarm.list, ¬ (a.kind = k ∧ a.subject = x)) →
      (p.alarm.list.length < 48 → fresh p (p.raise k x) ∧ (p.raise k x).alarm.overflow = p.alarm.overflow) ∧
      (∀ pre a m post, p.alarm.list.length = 48 → p.alarm.list = pre ++ a :: post → a.state = .clearedUnacked m →
        (∀ b ∈ pre, ∀ m, b.state ≠ .clearedUnacked m) →
        fresh { p with alarm := { p.alarm with list := pre ++ post, overflow := false } } (p.raise k x) ∧
        (p.raise k x).alarm.overflow = false) ∧
      (p.alarm.list.length = 48 → (∀ b ∈ p.alarm.list, ∀ m, b.state ≠ .clearedUnacked m) →
        p.raise k x = { p with
          alarm := { p.alarm with overflow := true }
          lines := { p.lines with flags := { p.lines.flags with alarmOverflow := true } } })) ∧
    (∀ a ∈ p.alarm.list, a.kind = k → a.subject = x → a.state = .activeUnacked →
      (p.endCondition k x).alarm = { p.alarm with list := p.alarm.list.map fun b =>
        if b.number = a.number then { b with state := .clearedUnacked p.minute } else b } ∧
      (p.lines.notices.length < 32 → ∃ n, (p.endCondition k x).lines.notices = p.lines.notices ++
        [⟨n, p.minute, .alarmCleared a.number k x p.minute false⟩])) ∧
    (∀ a ∈ p.alarm.list, a.kind = k → a.subject = x → a.state = .activeAcked →
      (p.endCondition k x).alarm = { p.alarm with
        list := p.alarm.list.filter (fun b => b.number != a.number), overflow := false } ∧
      (p.lines.notices.length < 32 → ∃ n, (p.endCondition k x).lines.notices = p.lines.notices ++
        [⟨n, p.minute, .alarmCleared a.number k x p.minute true⟩])) ∧
    (p.alarmOver k x → p.endCondition k x = p)

/-- The lamp of a slot shows the first row of R16 that holds, rows 3 to 7 in MAINS alone, and the beacon of a column what
R17 says; both are off where the column is not watched (R16, R17, R143). -/
def Obligations.LampsAndBeacons : Prop :=
  ∀ (p : Part) (x : SlotId),
    let isOpen : Prop := ∃ r ∈ p.sched.queue, r.isOpen = true ∧ r.slot = x
    let alarmed (y : SlotId) : Prop := ∃ a ∈ p.alarm.list, a.state ≠ .activeAcked ∧
      (a.subject = .slot y ∨ ∃ unit v, a.subject = .vehicle unit ∧ p.findUnit unit = some v ∧
        (v.status = .inSlot y ∨ ((∀ z, v.status ≠ .inSlot z) ∧ v.home = some y)))
    let out : Prop := (p.record x).latchFault = true ∨ (p.record x).outOfService = true
    let onHold : Prop := ∃ tag unit m f v, (p.custody x = .held tag unit m f ∨
      ∃ k, p.custody x = .releasing tag unit m k f) ∧ p.findUnit unit = some v ∧ v.hold ≠ none
    let waiting : Prop := (∃ m, p.custody x = .unread m) ∨ ∃ tag reason m, p.custody x = .foreign tag reason m
    let located : Prop := (p.engine x).locateUntil ≠ none
    let reserved : Prop := ∃ v ∈ p.fleet, v.home = some x ∧ (∃ o, v.status = .out o) ∧
      ∃ c ∈ p.book.contracts, c.unit = v.unit ∧ ∃ take l, c.state = .active take l ∧ l ≠ .current
    ((p.column x.col).engine.watches = false → p.lamp x = .off ∧ p.beacon x.col = .off) ∧
    ((p.column x.col).engine.watches = true →
      (isOpen → p.lamp x = .greenFastBlink) ∧
      (¬ isOpen → alarmed x → p.lamp x = .redFastBlink) ∧
      (¬ isOpen → ¬ alarmed x → p.supply.mode ≠ .mains → p.lamp x = .off) ∧
      (¬ isOpen → ¬ alarmed x → p.supply.mode = .mains →
        (out → p.lamp x = .amberSlowBlink) ∧
        (¬ out → onHold → p.lamp x = .redSteady) ∧
        (¬ out → waiting → p.lamp x = .redSlowBlink) ∧
        (¬ out → ¬ onHold → ¬ waiting → located → p.lamp x = .greenSlowBlink) ∧
        (¬ out → ¬ located → p.custody x = .empty → reserved → p.lamp x = .amberSteady) ∧
        (¬ out → ¬ located → p.custody x = .empty → ¬ reserved → p.lamp x = .off) ∧
        (¬ out → ¬ onHold → ¬ waiting → ¬ located → p.custody x ≠ .empty → p.lamp x = .off)) ∧
      ((∃ r ∈ p.sched.queue, r.isOpen = true ∧ r.slot.col = x.col) → p.beacon x.col = .steady) ∧
      ((∀ r ∈ p.sched.queue, r.isOpen = true → r.slot.col ≠ x.col) →
        (p.supply.mode = .mains → (∃ i, alarmed ⟨x.col, i⟩) → p.beacon x.col = .slowBlink) ∧
        (p.supply.mode ≠ .mains ∨ (∀ i, ¬ alarmed ⟨x.col, i⟩) → p.beacon x.col = .off)))

/-! ## What every step keeps -/

/-- Every step keeps the outputs in line with the state: the buzzer, the staff lamp and the attention line follow the
alarm list and the notice queue and are released in a halt, and the flap is locked while the part is not ready, and else
exactly while a bound of the chute is reached (R104, R110, R115, R146, R152, R168; that the flap decision waits for the
chute check of a start-up is the model's reading, log entry 11). -/
def Obligations.OutputsKept : Prop :=
  ∀ s t : State, s.part.signalsFollow → s.part.flapFollows → step s = .next t →
    t.part.signalsFollow ∧ t.part.flapFollows

/-- Every step keeps the capacities of the collections, and keeps the releases VERIFYING or OPEN within the hold limit of
the mode in force, one to a column, the VERIFYING ones for vehicles, the STAFF_SLOT requests of the class STAFF (R40, R55,
R56, R57, R61, R65, R76, R80, R92, R134, R166).
Where the flap follows the chute's bounds (OutputsKept), every step keeps the chute log at 96 entries and the in-chute
count at 64 at most (R104, R110), but where a start-up has yet to record a fob that is in the pocket at a full chute: the
rows of R115 can pass a bound by one there (log entry 35). -/
def Obligations.LimitsKept : Prop :=
  ∀ s t : State, s.part.withinCapacities → s.part.withinBudget → step s = .next t →
    t.part.withinCapacities ∧ t.part.withinBudget ∧
    (s.part.chuteWithin → s.part.flapFollows → ¬ s.part.unrecordedAtBound → t.part.chuteWithin)

/-- Every step keeps the records lawful: the settings in their ranges, no latch-fault flag without the out-of-service
flag, units, tags, home slots, contract numbers and alarm records distinct, no charge above its cap and none below level
LATE, and no contract while the clock is UNSET (R2, R40, R49, R80, R117, R120, R125, R134). -/
def Obligations.RecordsKept : Prop :=
  ∀ s t : State, s.part.recordsLawful → step s = .next t → t.part.recordsLawful

/-- What every step keeps holds of the part right after reset, which has empty tables, queues and lists, the default
settings, the clock UNSET with a full walk requested, and every column STOPPED (R25, R38, R104, R117, R120, R131, R153;
that reset is a part just manufactured and powered on is the model's, log entries 1 and 2). -/
def Obligations.ResetSatisfies : Prop :=
  State.reset.part.signalsFollow ∧ State.reset.part.flapFollows ∧ State.reset.part.withinCapacities ∧
  State.reset.part.withinBudget ∧ State.reset.part.chuteWithin ∧ State.reset.part.recordsLawful ∧
  State.reset.pending = [] ∧ State.reset.part.fleet = [] ∧ State.reset.part.book = ⟨[], 0, []⟩ ∧
  State.reset.part.sched = ⟨[], 0, [], []⟩ ∧ State.reset.part.chute.log = [] ∧
  State.reset.part.alarm.list = [] ∧ State.reset.part.lines.notices = [] ∧
  State.reset.part.late.clock = .unset ∧ State.reset.part.late.fullWalk = true ∧
  State.reset.part.late.settings = ⟨29, 60, 360, 2880, 20, 60, true⟩ ∧
  (∀ x : SlotId, State.reset.part.record x = ⟨.empty, false, false, true⟩) ∧
  (∀ c : ColId, (State.reset.part.column c).engine = .stopped ∧ (State.reset.part.column c).auditPointer = 23)

/-- A request and the frame that carries it agree: the bytes of the frame of a well-formed request with its kind's body
length, addressed to the part, make that request again, with every field at every value its width admits, after whatever
bytes without a 0x7E the receiver passes over; with another CRC they are discarded; cut short by a gap they are
abandoned; a length above 240 abandons a frame; and the hunt goes on at the byte that follows (R162, R163, R172,
Table 11.2; that a length above 240 abandons the frame at the length byte is the model's reading, log entry 26). -/
def Obligations.FrameRoundTrip : Prop :=
  (∀ (c : Instr) (h : ReqHdr) (kind : Byte) (body : List Byte) (unit : Nat) (inputs : StartInputs)
    (frame noise more : List Byte), c.wf = true → encodeRequest c = some (h, kind, body) → h.bodyLen = body.length →
    1 ≤ unit → unit ≤ 8 → encodeFrame unit c = some frame → (∀ b ∈ noise, b ≠ 0x7E#8) →
    let commands : List Byte → List Instr := commandsOfBytes unit (c.inputs inputs) h.line
    commands (noise ++ frame ++ more) = .syncByteBeginsFrame h.line :: c :: commands more ∧
    (∀ (pre : List Byte) (a b a' b' : Byte), frame = pre ++ [a, b] → (a' ≠ a ∨ b' ≠ b) →
      commands (noise ++ pre ++ [a', b'] ++ more) =
        .syncByteBeginsFrame h.line :: .frameDiscarded h.line :: commands more) ∧
    (∀ pre post : List Byte, frame = pre ++ post → pre ≠ [] → post ≠ [] →
      commands (noise ++ pre) = [.syncByteBeginsFrame h.line, .frameGapTimeout h.line])) ∧
  (∀ (unit : Nat) (inputs : StartInputs) (line : Line) (address length : Byte) (more : List Byte),
    240 < length.toNat → commandsOfBytes unit inputs line (0x7E#8 :: address :: length :: more) =
      .syncByteBeginsFrame line :: .frameLengthAbandoned line :: commandsOfBytes unit inputs line more)

end
end

