-- ==== Sys2Proof/Laws/State.lean ====
section
/-! SUPPORT. One lemma for each field and each update of the part: what an update leaves alone, and what it puts in the
field it changes. Each is true by unfolding; later proofs cite them and unfold no update. -/

namespace Sys2Proof.Machine

variable (p : Part)

/-! ### updColumn -/

@[simp] theorem Part.updColumn_uptime (c : ColId) (f : Column → Column) : (p.updColumn c f).uptime = p.uptime := rfl
@[simp] theorem Part.updColumn_fleet (c : ColId) (f : Column → Column) : (p.updColumn c f).fleet = p.fleet := rfl
@[simp] theorem Part.updColumn_sched (c : ColId) (f : Column → Column) : (p.updColumn c f).sched = p.sched := rfl
@[simp] theorem Part.updColumn_book (c : ColId) (f : Column → Column) : (p.updColumn c f).book = p.book := rfl
@[simp] theorem Part.updColumn_chute (c : ColId) (f : Column → Column) : (p.updColumn c f).chute = p.chute := rfl
@[simp] theorem Part.updColumn_late (c : ColId) (f : Column → Column) : (p.updColumn c f).late = p.late := rfl
@[simp] theorem Part.updColumn_alarm (c : ColId) (f : Column → Column) : (p.updColumn c f).alarm = p.alarm := rfl
@[simp] theorem Part.updColumn_supply (c : ColId) (f : Column → Column) : (p.updColumn c f).supply = p.supply := rfl
@[simp] theorem Part.updColumn_lines (c : ColId) (f : Column → Column) : (p.updColumn c f).lines = p.lines := rfl
@[simp] theorem Part.updColumn_choices (c : ColId) (f : Column → Column) : (p.updColumn c f).choices = p.choices := rfl

/-! ### updSlot -/

@[simp] theorem Part.updSlot_uptime (x : SlotId) (f : Slot → Slot) : (p.updSlot x f).uptime = p.uptime := rfl
@[simp] theorem Part.updSlot_fleet (x : SlotId) (f : Slot → Slot) : (p.updSlot x f).fleet = p.fleet := rfl
@[simp] theorem Part.updSlot_sched (x : SlotId) (f : Slot → Slot) : (p.updSlot x f).sched = p.sched := rfl
@[simp] theorem Part.updSlot_book (x : SlotId) (f : Slot → Slot) : (p.updSlot x f).book = p.book := rfl
@[simp] theorem Part.updSlot_chute (x : SlotId) (f : Slot → Slot) : (p.updSlot x f).chute = p.chute := rfl
@[simp] theorem Part.updSlot_late (x : SlotId) (f : Slot → Slot) : (p.updSlot x f).late = p.late := rfl
@[simp] theorem Part.updSlot_alarm (x : SlotId) (f : Slot → Slot) : (p.updSlot x f).alarm = p.alarm := rfl
@[simp] theorem Part.updSlot_supply (x : SlotId) (f : Slot → Slot) : (p.updSlot x f).supply = p.supply := rfl
@[simp] theorem Part.updSlot_lines (x : SlotId) (f : Slot → Slot) : (p.updSlot x f).lines = p.lines := rfl
@[simp] theorem Part.updSlot_choices (x : SlotId) (f : Slot → Slot) : (p.updSlot x f).choices = p.choices := rfl

/-! ### updRecord -/

@[simp] theorem Part.updRecord_uptime (x : SlotId) (f : SlotRecord → SlotRecord) : (p.updRecord x f).uptime = p.uptime := rfl
@[simp] theorem Part.updRecord_fleet (x : SlotId) (f : SlotRecord → SlotRecord) : (p.updRecord x f).fleet = p.fleet := rfl
@[simp] theorem Part.updRecord_sched (x : SlotId) (f : SlotRecord → SlotRecord) : (p.updRecord x f).sched = p.sched := rfl
@[simp] theorem Part.updRecord_book (x : SlotId) (f : SlotRecord → SlotRecord) : (p.updRecord x f).book = p.book := rfl
@[simp] theorem Part.updRecord_chute (x : SlotId) (f : SlotRecord → SlotRecord) : (p.updRecord x f).chute = p.chute := rfl
@[simp] theorem Part.updRecord_late (x : SlotId) (f : SlotRecord → SlotRecord) : (p.updRecord x f).late = p.late := rfl
@[simp] theorem Part.updRecord_alarm (x : SlotId) (f : SlotRecord → SlotRecord) : (p.updRecord x f).alarm = p.alarm := rfl
@[simp] theorem Part.updRecord_supply (x : SlotId) (f : SlotRecord → SlotRecord) : (p.updRecord x f).supply = p.supply := rfl
@[simp] theorem Part.updRecord_lines (x : SlotId) (f : SlotRecord → SlotRecord) : (p.updRecord x f).lines = p.lines := rfl
@[simp] theorem Part.updRecord_choices (x : SlotId) (f : SlotRecord → SlotRecord) : (p.updRecord x f).choices = p.choices := rfl

/-! ### updEngine -/

@[simp] theorem Part.updEngine_uptime (x : SlotId) (f : SlotEngine → SlotEngine) : (p.updEngine x f).uptime = p.uptime := rfl
@[simp] theorem Part.updEngine_fleet (x : SlotId) (f : SlotEngine → SlotEngine) : (p.updEngine x f).fleet = p.fleet := rfl
@[simp] theorem Part.updEngine_sched (x : SlotId) (f : SlotEngine → SlotEngine) : (p.updEngine x f).sched = p.sched := rfl
@[simp] theorem Part.updEngine_book (x : SlotId) (f : SlotEngine → SlotEngine) : (p.updEngine x f).book = p.book := rfl
@[simp] theorem Part.updEngine_chute (x : SlotId) (f : SlotEngine → SlotEngine) : (p.updEngine x f).chute = p.chute := rfl
@[simp] theorem Part.updEngine_late (x : SlotId) (f : SlotEngine → SlotEngine) : (p.updEngine x f).late = p.late := rfl
@[simp] theorem Part.updEngine_alarm (x : SlotId) (f : SlotEngine → SlotEngine) : (p.updEngine x f).alarm = p.alarm := rfl
@[simp] theorem Part.updEngine_supply (x : SlotId) (f : SlotEngine → SlotEngine) : (p.updEngine x f).supply = p.supply := rfl
@[simp] theorem Part.updEngine_lines (x : SlotId) (f : SlotEngine → SlotEngine) : (p.updEngine x f).lines = p.lines := rfl
@[simp] theorem Part.updEngine_choices (x : SlotId) (f : SlotEngine → SlotEngine) : (p.updEngine x f).choices = p.choices := rfl

/-! ### setCustody -/

@[simp] theorem Part.setCustody_uptime (x : SlotId) (k : Custody) : (p.setCustody x k).uptime = p.uptime := rfl
@[simp] theorem Part.setCustody_fleet (x : SlotId) (k : Custody) : (p.setCustody x k).fleet = p.fleet := rfl
@[simp] theorem Part.setCustody_sched (x : SlotId) (k : Custody) : (p.setCustody x k).sched = p.sched := rfl
@[simp] theorem Part.setCustody_book (x : SlotId) (k : Custody) : (p.setCustody x k).book = p.book := rfl
@[simp] theorem Part.setCustody_chute (x : SlotId) (k : Custody) : (p.setCustody x k).chute = p.chute := rfl
@[simp] theorem Part.setCustody_late (x : SlotId) (k : Custody) : (p.setCustody x k).late = p.late := rfl
@[simp] theorem Part.setCustody_alarm (x : SlotId) (k : Custody) : (p.setCustody x k).alarm = p.alarm := rfl
@[simp] theorem Part.setCustody_supply (x : SlotId) (k : Custody) : (p.setCustody x k).supply = p.supply := rfl
@[simp] theorem Part.setCustody_lines (x : SlotId) (k : Custody) : (p.setCustody x k).lines = p.lines := rfl
@[simp] theorem Part.setCustody_choices (x : SlotId) (k : Custody) : (p.setCustody x k).choices = p.choices := rfl

/-! ### updLatch -/

@[simp] theorem Part.updLatch_uptime (x : SlotId) (f : Latch → Latch) : (p.updLatch x f).uptime = p.uptime := rfl
@[simp] theorem Part.updLatch_fleet (x : SlotId) (f : Latch → Latch) : (p.updLatch x f).fleet = p.fleet := rfl
@[simp] theorem Part.updLatch_sched (x : SlotId) (f : Latch → Latch) : (p.updLatch x f).sched = p.sched := rfl
@[simp] theorem Part.updLatch_book (x : SlotId) (f : Latch → Latch) : (p.updLatch x f).book = p.book := rfl
@[simp] theorem Part.updLatch_chute (x : SlotId) (f : Latch → Latch) : (p.updLatch x f).chute = p.chute := rfl
@[simp] theorem Part.updLatch_late (x : SlotId) (f : Latch → Latch) : (p.updLatch x f).late = p.late := rfl
@[simp] theorem Part.updLatch_alarm (x : SlotId) (f : Latch → Latch) : (p.updLatch x f).alarm = p.alarm := rfl
@[simp] theorem Part.updLatch_supply (x : SlotId) (f : Latch → Latch) : (p.updLatch x f).supply = p.supply := rfl
@[simp] theorem Part.updLatch_lines (x : SlotId) (f : Latch → Latch) : (p.updLatch x f).lines = p.lines := rfl
@[simp] theorem Part.updLatch_choices (x : SlotId) (f : Latch → Latch) : (p.updLatch x f).choices = p.choices := rfl

/-! ### strike -/

@[simp] theorem Part.strike_uptime (x : SlotId) : (p.strike x).uptime = p.uptime := rfl
@[simp] theorem Part.strike_fleet (x : SlotId) : (p.strike x).fleet = p.fleet := rfl
@[simp] theorem Part.strike_sched (x : SlotId) : (p.strike x).sched = p.sched := rfl
@[simp] theorem Part.strike_book (x : SlotId) : (p.strike x).book = p.book := rfl
@[simp] theorem Part.strike_chute (x : SlotId) : (p.strike x).chute = p.chute := rfl
@[simp] theorem Part.strike_late (x : SlotId) : (p.strike x).late = p.late := rfl
@[simp] theorem Part.strike_alarm (x : SlotId) : (p.strike x).alarm = p.alarm := rfl
@[simp] theorem Part.strike_supply (x : SlotId) : (p.strike x).supply = p.supply := rfl
@[simp] theorem Part.strike_lines (x : SlotId) : (p.strike x).lines = p.lines := rfl
@[simp] theorem Part.strike_choices (x : SlotId) : (p.strike x).choices = p.choices := rfl

/-! ### stopLatch -/

@[simp] theorem Part.stopLatch_uptime (x : SlotId) : (p.stopLatch x).uptime = p.uptime := rfl
@[simp] theorem Part.stopLatch_fleet (x : SlotId) : (p.stopLatch x).fleet = p.fleet := rfl
@[simp] theorem Part.stopLatch_sched (x : SlotId) : (p.stopLatch x).sched = p.sched := rfl
@[simp] theorem Part.stopLatch_book (x : SlotId) : (p.stopLatch x).book = p.book := rfl
@[simp] theorem Part.stopLatch_chute (x : SlotId) : (p.stopLatch x).chute = p.chute := rfl
@[simp] theorem Part.stopLatch_late (x : SlotId) : (p.stopLatch x).late = p.late := rfl
@[simp] theorem Part.stopLatch_alarm (x : SlotId) : (p.stopLatch x).alarm = p.alarm := rfl
@[simp] theorem Part.stopLatch_supply (x : SlotId) : (p.stopLatch x).supply = p.supply := rfl
@[simp] theorem Part.stopLatch_lines (x : SlotId) : (p.stopLatch x).lines = p.lines := rfl
@[simp] theorem Part.stopLatch_choices (x : SlotId) : (p.stopLatch x).choices = p.choices := rfl

/-! ### placeRead -/

@[simp] theorem Part.placeRead_uptime (x : SlotId) (u : Purpose) : (p.placeRead x u).uptime = p.uptime := rfl
@[simp] theorem Part.placeRead_fleet (x : SlotId) (u : Purpose) : (p.placeRead x u).fleet = p.fleet := rfl
@[simp] theorem Part.placeRead_sched (x : SlotId) (u : Purpose) : (p.placeRead x u).sched = p.sched := rfl
@[simp] theorem Part.placeRead_book (x : SlotId) (u : Purpose) : (p.placeRead x u).book = p.book := rfl
@[simp] theorem Part.placeRead_chute (x : SlotId) (u : Purpose) : (p.placeRead x u).chute = p.chute := rfl
@[simp] theorem Part.placeRead_late (x : SlotId) (u : Purpose) : (p.placeRead x u).late = p.late := rfl
@[simp] theorem Part.placeRead_alarm (x : SlotId) (u : Purpose) : (p.placeRead x u).alarm = p.alarm := rfl
@[simp] theorem Part.placeRead_supply (x : SlotId) (u : Purpose) : (p.placeRead x u).supply = p.supply := rfl
@[simp] theorem Part.placeRead_lines (x : SlotId) (u : Purpose) : (p.placeRead x u).lines = p.lines := rfl
@[simp] theorem Part.placeRead_choices (x : SlotId) (u : Purpose) : (p.placeRead x u).choices = p.choices := rfl

/-! ### cancelReads -/

@[simp] theorem Part.cancelReads_uptime (x : SlotId) : (p.cancelReads x).uptime = p.uptime := rfl
@[simp] theorem Part.cancelReads_fleet (x : SlotId) : (p.cancelReads x).fleet = p.fleet := rfl
@[simp] theorem Part.cancelReads_sched (x : SlotId) : (p.cancelReads x).sched = p.sched := rfl
@[simp] theorem Part.cancelReads_book (x : SlotId) : (p.cancelReads x).book = p.book := rfl
@[simp] theorem Part.cancelReads_chute (x : SlotId) : (p.cancelReads x).chute = p.chute := rfl
@[simp] theorem Part.cancelReads_late (x : SlotId) : (p.cancelReads x).late = p.late := rfl
@[simp] theorem Part.cancelReads_alarm (x : SlotId) : (p.cancelReads x).alarm = p.alarm := rfl
@[simp] theorem Part.cancelReads_supply (x : SlotId) : (p.cancelReads x).supply = p.supply := rfl
@[simp] theorem Part.cancelReads_lines (x : SlotId) : (p.cancelReads x).lines = p.lines := rfl
@[simp] theorem Part.cancelReads_choices (x : SlotId) : (p.cancelReads x).choices = p.choices := rfl

/-! ### dropVerify -/

@[simp] theorem Part.dropVerify_uptime (x : SlotId) : (p.dropVerify x).uptime = p.uptime := rfl
@[simp] theorem Part.dropVerify_fleet (x : SlotId) : (p.dropVerify x).fleet = p.fleet := rfl
@[simp] theorem Part.dropVerify_sched (x : SlotId) : (p.dropVerify x).sched = p.sched := rfl
@[simp] theorem Part.dropVerify_book (x : SlotId) : (p.dropVerify x).book = p.book := rfl
@[simp] theorem Part.dropVerify_chute (x : SlotId) : (p.dropVerify x).chute = p.chute := rfl
@[simp] theorem Part.dropVerify_late (x : SlotId) : (p.dropVerify x).late = p.late := rfl
@[simp] theorem Part.dropVerify_alarm (x : SlotId) : (p.dropVerify x).alarm = p.alarm := rfl
@[simp] theorem Part.dropVerify_supply (x : SlotId) : (p.dropVerify x).supply = p.supply := rfl
@[simp] theorem Part.dropVerify_lines (x : SlotId) : (p.dropVerify x).lines = p.lines := rfl
@[simp] theorem Part.dropVerify_choices (x : SlotId) : (p.dropVerify x).choices = p.choices := rfl

/-! ### requeueRead -/

@[simp] theorem Part.requeueRead_uptime (x : SlotId) : (p.requeueRead x).uptime = p.uptime := rfl
@[simp] theorem Part.requeueRead_fleet (x : SlotId) : (p.requeueRead x).fleet = p.fleet := rfl
@[simp] theorem Part.requeueRead_sched (x : SlotId) : (p.requeueRead x).sched = p.sched := rfl
@[simp] theorem Part.requeueRead_book (x : SlotId) : (p.requeueRead x).book = p.book := rfl
@[simp] theorem Part.requeueRead_chute (x : SlotId) : (p.requeueRead x).chute = p.chute := rfl
@[simp] theorem Part.requeueRead_late (x : SlotId) : (p.requeueRead x).late = p.late := rfl
@[simp] theorem Part.requeueRead_alarm (x : SlotId) : (p.requeueRead x).alarm = p.alarm := rfl
@[simp] theorem Part.requeueRead_supply (x : SlotId) : (p.requeueRead x).supply = p.supply := rfl
@[simp] theorem Part.requeueRead_lines (x : SlotId) : (p.requeueRead x).lines = p.lines := rfl
@[simp] theorem Part.requeueRead_choices (x : SlotId) : (p.requeueRead x).choices = p.choices := rfl

/-! ### placeRecheck -/

@[simp] theorem Part.placeRecheck_uptime (x : SlotId) : (p.placeRecheck x).uptime = p.uptime := rfl
@[simp] theorem Part.placeRecheck_fleet (x : SlotId) : (p.placeRecheck x).fleet = p.fleet := rfl
@[simp] theorem Part.placeRecheck_sched (x : SlotId) : (p.placeRecheck x).sched = p.sched := rfl
@[simp] theorem Part.placeRecheck_book (x : SlotId) : (p.placeRecheck x).book = p.book := rfl
@[simp] theorem Part.placeRecheck_chute (x : SlotId) : (p.placeRecheck x).chute = p.chute := rfl
@[simp] theorem Part.placeRecheck_late (x : SlotId) : (p.placeRecheck x).late = p.late := rfl
@[simp] theorem Part.placeRecheck_alarm (x : SlotId) : (p.placeRecheck x).alarm = p.alarm := rfl
@[simp] theorem Part.placeRecheck_supply (x : SlotId) : (p.placeRecheck x).supply = p.supply := rfl
@[simp] theorem Part.placeRecheck_lines (x : SlotId) : (p.placeRecheck x).lines = p.lines := rfl
@[simp] theorem Part.placeRecheck_choices (x : SlotId) : (p.placeRecheck x).choices = p.choices := rfl

/-! ### updVehicle -/

@[simp] theorem Part.updVehicle_uptime (u : Nat) (f : Vehicle → Vehicle) : (p.updVehicle u f).uptime = p.uptime := rfl
@[simp] theorem Part.updVehicle_columns (u : Nat) (f : Vehicle → Vehicle) : (p.updVehicle u f).columns = p.columns := rfl
@[simp] theorem Part.updVehicle_sched (u : Nat) (f : Vehicle → Vehicle) : (p.updVehicle u f).sched = p.sched := rfl
@[simp] theorem Part.updVehicle_book (u : Nat) (f : Vehicle → Vehicle) : (p.updVehicle u f).book = p.book := rfl
@[simp] theorem Part.updVehicle_chute (u : Nat) (f : Vehicle → Vehicle) : (p.updVehicle u f).chute = p.chute := rfl
@[simp] theorem Part.updVehicle_late (u : Nat) (f : Vehicle → Vehicle) : (p.updVehicle u f).late = p.late := rfl
@[simp] theorem Part.updVehicle_alarm (u : Nat) (f : Vehicle → Vehicle) : (p.updVehicle u f).alarm = p.alarm := rfl
@[simp] theorem Part.updVehicle_supply (u : Nat) (f : Vehicle → Vehicle) : (p.updVehicle u f).supply = p.supply := rfl
@[simp] theorem Part.updVehicle_lines (u : Nat) (f : Vehicle → Vehicle) : (p.updVehicle u f).lines = p.lines := rfl
@[simp] theorem Part.updVehicle_choices (u : Nat) (f : Vehicle → Vehicle) : (p.updVehicle u f).choices = p.choices := rfl

/-! ### setStatus -/

@[simp] theorem Part.setStatus_uptime (u : Nat) (st : VehicleStatus) : (p.setStatus u st).uptime = p.uptime := rfl
@[simp] theorem Part.setStatus_columns (u : Nat) (st : VehicleStatus) : (p.setStatus u st).columns = p.columns := rfl
@[simp] theorem Part.setStatus_sched (u : Nat) (st : VehicleStatus) : (p.setStatus u st).sched = p.sched := rfl
@[simp] theorem Part.setStatus_book (u : Nat) (st : VehicleStatus) : (p.setStatus u st).book = p.book := rfl
@[simp] theorem Part.setStatus_chute (u : Nat) (st : VehicleStatus) : (p.setStatus u st).chute = p.chute := rfl
@[simp] theorem Part.setStatus_late (u : Nat) (st : VehicleStatus) : (p.setStatus u st).late = p.late := rfl
@[simp] theorem Part.setStatus_alarm (u : Nat) (st : VehicleStatus) : (p.setStatus u st).alarm = p.alarm := rfl
@[simp] theorem Part.setStatus_supply (u : Nat) (st : VehicleStatus) : (p.setStatus u st).supply = p.supply := rfl
@[simp] theorem Part.setStatus_lines (u : Nat) (st : VehicleStatus) : (p.setStatus u st).lines = p.lines := rfl
@[simp] theorem Part.setStatus_choices (u : Nat) (st : VehicleStatus) : (p.setStatus u st).choices = p.choices := rfl

/-! ### escalate -/

@[simp] theorem Part.escalate_uptime (u : Nat) : (p.escalate u).uptime = p.uptime := rfl
@[simp] theorem Part.escalate_columns (u : Nat) : (p.escalate u).columns = p.columns := rfl
@[simp] theorem Part.escalate_sched (u : Nat) : (p.escalate u).sched = p.sched := rfl
@[simp] theorem Part.escalate_book (u : Nat) : (p.escalate u).book = p.book := rfl
@[simp] theorem Part.escalate_chute (u : Nat) : (p.escalate u).chute = p.chute := rfl
@[simp] theorem Part.escalate_late (u : Nat) : (p.escalate u).late = p.late := rfl
@[simp] theorem Part.escalate_alarm (u : Nat) : (p.escalate u).alarm = p.alarm := rfl
@[simp] theorem Part.escalate_supply (u : Nat) : (p.escalate u).supply = p.supply := rfl
@[simp] theorem Part.escalate_lines (u : Nat) : (p.escalate u).lines = p.lines := rfl
@[simp] theorem Part.escalate_choices (u : Nat) : (p.escalate u).choices = p.choices := rfl

/-! ### dropContractLink -/

@[simp] theorem Part.dropContractLink_uptime (u : Nat) : (p.dropContractLink u).uptime = p.uptime := rfl
@[simp] theorem Part.dropContractLink_columns (u : Nat) : (p.dropContractLink u).columns = p.columns := rfl
@[simp] theorem Part.dropContractLink_sched (u : Nat) : (p.dropContractLink u).sched = p.sched := rfl
@[simp] theorem Part.dropContractLink_book (u : Nat) : (p.dropContractLink u).book = p.book := rfl
@[simp] theorem Part.dropContractLink_chute (u : Nat) : (p.dropContractLink u).chute = p.chute := rfl
@[simp] theorem Part.dropContractLink_late (u : Nat) : (p.dropContractLink u).late = p.late := rfl
@[simp] theorem Part.dropContractLink_alarm (u : Nat) : (p.dropContractLink u).alarm = p.alarm := rfl
@[simp] theorem Part.dropContractLink_supply (u : Nat) : (p.dropContractLink u).supply = p.supply := rfl
@[simp] theorem Part.dropContractLink_lines (u : Nat) : (p.dropContractLink u).lines = p.lines := rfl
@[simp] theorem Part.dropContractLink_choices (u : Nat) : (p.dropContractLink u).choices = p.choices := rfl

/-! ### updRelease -/

@[simp] theorem Part.updRelease_uptime (n : Nat) (f : Release → Release) : (p.updRelease n f).uptime = p.uptime := rfl
@[simp] theorem Part.updRelease_columns (n : Nat) (f : Release → Release) : (p.updRelease n f).columns = p.columns := rfl
@[simp] theorem Part.updRelease_fleet (n : Nat) (f : Release → Release) : (p.updRelease n f).fleet = p.fleet := rfl
@[simp] theorem Part.updRelease_book (n : Nat) (f : Release → Release) : (p.updRelease n f).book = p.book := rfl
@[simp] theorem Part.updRelease_chute (n : Nat) (f : Release → Release) : (p.updRelease n f).chute = p.chute := rfl
@[simp] theorem Part.updRelease_late (n : Nat) (f : Release → Release) : (p.updRelease n f).late = p.late := rfl
@[simp] theorem Part.updRelease_alarm (n : Nat) (f : Release → Release) : (p.updRelease n f).alarm = p.alarm := rfl
@[simp] theorem Part.updRelease_supply (n : Nat) (f : Release → Release) : (p.updRelease n f).supply = p.supply := rfl
@[simp] theorem Part.updRelease_lines (n : Nat) (f : Release → Release) : (p.updRelease n f).lines = p.lines := rfl
@[simp] theorem Part.updRelease_choices (n : Nat) (f : Release → Release) : (p.updRelease n f).choices = p.choices := rfl

/-! ### openRelease -/

@[simp] theorem Part.openRelease_uptime (r : Release) : (p.openRelease r).uptime = p.uptime := rfl
@[simp] theorem Part.openRelease_fleet (r : Release) : (p.openRelease r).fleet = p.fleet := rfl
@[simp] theorem Part.openRelease_book (r : Release) : (p.openRelease r).book = p.book := rfl
@[simp] theorem Part.openRelease_chute (r : Release) : (p.openRelease r).chute = p.chute := rfl
@[simp] theorem Part.openRelease_late (r : Release) : (p.openRelease r).late = p.late := rfl
@[simp] theorem Part.openRelease_alarm (r : Release) : (p.openRelease r).alarm = p.alarm := rfl
@[simp] theorem Part.openRelease_supply (r : Release) : (p.openRelease r).supply = p.supply := rfl
@[simp] theorem Part.openRelease_lines (r : Release) : (p.openRelease r).lines = p.lines := rfl
@[simp] theorem Part.openRelease_choices (r : Release) : (p.openRelease r).choices = p.choices := rfl

/-! ### leaveQueue -/

@[simp] theorem Part.leaveQueue_uptime (r : Release) (o : ReleaseOutcome) : (p.leaveQueue r o).uptime = p.uptime := rfl
@[simp] theorem Part.leaveQueue_columns (r : Release) (o : ReleaseOutcome) : (p.leaveQueue r o).columns = p.columns := rfl
@[simp] theorem Part.leaveQueue_fleet (r : Release) (o : ReleaseOutcome) : (p.leaveQueue r o).fleet = p.fleet := rfl
@[simp] theorem Part.leaveQueue_book (r : Release) (o : ReleaseOutcome) : (p.leaveQueue r o).book = p.book := rfl
@[simp] theorem Part.leaveQueue_chute (r : Release) (o : ReleaseOutcome) : (p.leaveQueue r o).chute = p.chute := rfl
@[simp] theorem Part.leaveQueue_late (r : Release) (o : ReleaseOutcome) : (p.leaveQueue r o).late = p.late := rfl
@[simp] theorem Part.leaveQueue_alarm (r : Release) (o : ReleaseOutcome) : (p.leaveQueue r o).alarm = p.alarm := rfl
@[simp] theorem Part.leaveQueue_supply (r : Release) (o : ReleaseOutcome) : (p.leaveQueue r o).supply = p.supply := rfl
@[simp] theorem Part.leaveQueue_lines (r : Release) (o : ReleaseOutcome) : (p.leaveQueue r o).lines = p.lines := rfl
@[simp] theorem Part.leaveQueue_choices (r : Release) (o : ReleaseOutcome) : (p.leaveQueue r o).choices = p.choices := rfl

/-! ### markCharges -/

@[simp] theorem Part.markCharges_uptime : (p.markCharges).uptime = p.uptime := rfl
@[simp] theorem Part.markCharges_columns : (p.markCharges).columns = p.columns := rfl
@[simp] theorem Part.markCharges_fleet : (p.markCharges).fleet = p.fleet := rfl
@[simp] theorem Part.markCharges_book : (p.markCharges).book = p.book := rfl
@[simp] theorem Part.markCharges_chute : (p.markCharges).chute = p.chute := rfl
@[simp] theorem Part.markCharges_late : (p.markCharges).late = p.late := rfl
@[simp] theorem Part.markCharges_alarm : (p.markCharges).alarm = p.alarm := rfl
@[simp] theorem Part.markCharges_supply : (p.markCharges).supply = p.supply := rfl
@[simp] theorem Part.markCharges_lines : (p.markCharges).lines = p.lines := rfl
@[simp] theorem Part.markCharges_choices : (p.markCharges).choices = p.choices := rfl

/-! ### dropOldCharges -/

@[simp] theorem Part.dropOldCharges_uptime : (p.dropOldCharges).uptime = p.uptime := rfl
@[simp] theorem Part.dropOldCharges_columns : (p.dropOldCharges).columns = p.columns := rfl
@[simp] theorem Part.dropOldCharges_fleet : (p.dropOldCharges).fleet = p.fleet := rfl
@[simp] theorem Part.dropOldCharges_book : (p.dropOldCharges).book = p.book := rfl
@[simp] theorem Part.dropOldCharges_chute : (p.dropOldCharges).chute = p.chute := rfl
@[simp] theorem Part.dropOldCharges_late : (p.dropOldCharges).late = p.late := rfl
@[simp] theorem Part.dropOldCharges_alarm : (p.dropOldCharges).alarm = p.alarm := rfl
@[simp] theorem Part.dropOldCharges_supply : (p.dropOldCharges).supply = p.supply := rfl
@[simp] theorem Part.dropOldCharges_lines : (p.dropOldCharges).lines = p.lines := rfl
@[simp] theorem Part.dropOldCharges_choices : (p.dropOldCharges).choices = p.choices := rfl

/-! ### markAged -/

@[simp] theorem Part.markAged_uptime : (p.markAged).uptime = p.uptime := rfl
@[simp] theorem Part.markAged_columns : (p.markAged).columns = p.columns := rfl
@[simp] theorem Part.markAged_fleet : (p.markAged).fleet = p.fleet := rfl
@[simp] theorem Part.markAged_book : (p.markAged).book = p.book := rfl
@[simp] theorem Part.markAged_chute : (p.markAged).chute = p.chute := rfl
@[simp] theorem Part.markAged_late : (p.markAged).late = p.late := rfl
@[simp] theorem Part.markAged_alarm : (p.markAged).alarm = p.alarm := rfl
@[simp] theorem Part.markAged_supply : (p.markAged).supply = p.supply := rfl
@[simp] theorem Part.markAged_lines : (p.markAged).lines = p.lines := rfl
@[simp] theorem Part.markAged_choices : (p.markAged).choices = p.choices := rfl

/-! ### updContract -/

@[simp] theorem Part.updContract_uptime (n : Nat) (f : Contract → Contract) : (p.updContract n f).uptime = p.uptime := rfl
@[simp] theorem Part.updContract_columns (n : Nat) (f : Contract → Contract) : (p.updContract n f).columns = p.columns := rfl
@[simp] theorem Part.updContract_fleet (n : Nat) (f : Contract → Contract) : (p.updContract n f).fleet = p.fleet := rfl
@[simp] theorem Part.updContract_sched (n : Nat) (f : Contract → Contract) : (p.updContract n f).sched = p.sched := rfl
@[simp] theorem Part.updContract_chute (n : Nat) (f : Contract → Contract) : (p.updContract n f).chute = p.chute := rfl
@[simp] theorem Part.updContract_late (n : Nat) (f : Contract → Contract) : (p.updContract n f).late = p.late := rfl
@[simp] theorem Part.updContract_alarm (n : Nat) (f : Contract → Contract) : (p.updContract n f).alarm = p.alarm := rfl
@[simp] theorem Part.updContract_supply (n : Nat) (f : Contract → Contract) : (p.updContract n f).supply = p.supply := rfl
@[simp] theorem Part.updContract_lines (n : Nat) (f : Contract → Contract) : (p.updContract n f).lines = p.lines := rfl
@[simp] theorem Part.updContract_choices (n : Nat) (f : Contract → Contract) : (p.updContract n f).choices = p.choices := rfl

/-! ### dropContract -/

@[simp] theorem Part.dropContract_uptime (n : Nat) : (p.dropContract n).uptime = p.uptime := rfl
@[simp] theorem Part.dropContract_columns (n : Nat) : (p.dropContract n).columns = p.columns := rfl
@[simp] theorem Part.dropContract_fleet (n : Nat) : (p.dropContract n).fleet = p.fleet := rfl
@[simp] theorem Part.dropContract_sched (n : Nat) : (p.dropContract n).sched = p.sched := rfl
@[simp] theorem Part.dropContract_chute (n : Nat) : (p.dropContract n).chute = p.chute := rfl
@[simp] theorem Part.dropContract_late (n : Nat) : (p.dropContract n).late = p.late := rfl
@[simp] theorem Part.dropContract_alarm (n : Nat) : (p.dropContract n).alarm = p.alarm := rfl
@[simp] theorem Part.dropContract_supply (n : Nat) : (p.dropContract n).supply = p.supply := rfl
@[simp] theorem Part.dropContract_lines (n : Nat) : (p.dropContract n).lines = p.lines := rfl
@[simp] theorem Part.dropContract_choices (n : Nat) : (p.dropContract n).choices = p.choices := rfl

/-! ### updEntry -/

@[simp] theorem Part.updEntry_uptime (n : Nat) (f : ChuteEntry → ChuteEntry) : (p.updEntry n f).uptime = p.uptime := rfl
@[simp] theorem Part.updEntry_columns (n : Nat) (f : ChuteEntry → ChuteEntry) : (p.updEntry n f).columns = p.columns := rfl
@[simp] theorem Part.updEntry_fleet (n : Nat) (f : ChuteEntry → ChuteEntry) : (p.updEntry n f).fleet = p.fleet := rfl
@[simp] theorem Part.updEntry_sched (n : Nat) (f : ChuteEntry → ChuteEntry) : (p.updEntry n f).sched = p.sched := rfl
@[simp] theorem Part.updEntry_book (n : Nat) (f : ChuteEntry → ChuteEntry) : (p.updEntry n f).book = p.book := rfl
@[simp] theorem Part.updEntry_late (n : Nat) (f : ChuteEntry → ChuteEntry) : (p.updEntry n f).late = p.late := rfl
@[simp] theorem Part.updEntry_alarm (n : Nat) (f : ChuteEntry → ChuteEntry) : (p.updEntry n f).alarm = p.alarm := rfl
@[simp] theorem Part.updEntry_supply (n : Nat) (f : ChuteEntry → ChuteEntry) : (p.updEntry n f).supply = p.supply := rfl
@[simp] theorem Part.updEntry_lines (n : Nat) (f : ChuteEntry → ChuteEntry) : (p.updEntry n f).lines = p.lines := rfl
@[simp] theorem Part.updEntry_choices (n : Nat) (f : ChuteEntry → ChuteEntry) : (p.updEntry n f).choices = p.choices := rfl

/-! ### setDrive -/

@[simp] theorem Part.setDrive_uptime (t : Ms) (b : Bool) : (p.setDrive t b).uptime = p.uptime := rfl
@[simp] theorem Part.setDrive_columns (t : Ms) (b : Bool) : (p.setDrive t b).columns = p.columns := rfl
@[simp] theorem Part.setDrive_fleet (t : Ms) (b : Bool) : (p.setDrive t b).fleet = p.fleet := rfl
@[simp] theorem Part.setDrive_sched (t : Ms) (b : Bool) : (p.setDrive t b).sched = p.sched := rfl
@[simp] theorem Part.setDrive_book (t : Ms) (b : Bool) : (p.setDrive t b).book = p.book := rfl
@[simp] theorem Part.setDrive_late (t : Ms) (b : Bool) : (p.setDrive t b).late = p.late := rfl
@[simp] theorem Part.setDrive_alarm (t : Ms) (b : Bool) : (p.setDrive t b).alarm = p.alarm := rfl
@[simp] theorem Part.setDrive_supply (t : Ms) (b : Bool) : (p.setDrive t b).supply = p.supply := rfl
@[simp] theorem Part.setDrive_lines (t : Ms) (b : Bool) : (p.setDrive t b).lines = p.lines := rfl
@[simp] theorem Part.setDrive_choices (t : Ms) (b : Bool) : (p.setDrive t b).choices = p.choices := rfl

/-! ### beginDrop -/

@[simp] theorem Part.beginDrop_uptime : (p.beginDrop).uptime = p.uptime := rfl
@[simp] theorem Part.beginDrop_columns : (p.beginDrop).columns = p.columns := rfl
@[simp] theorem Part.beginDrop_fleet : (p.beginDrop).fleet = p.fleet := rfl
@[simp] theorem Part.beginDrop_sched : (p.beginDrop).sched = p.sched := rfl
@[simp] theorem Part.beginDrop_book : (p.beginDrop).book = p.book := rfl
@[simp] theorem Part.beginDrop_late : (p.beginDrop).late = p.late := rfl
@[simp] theorem Part.beginDrop_alarm : (p.beginDrop).alarm = p.alarm := rfl
@[simp] theorem Part.beginDrop_supply : (p.beginDrop).supply = p.supply := rfl
@[simp] theorem Part.beginDrop_lines : (p.beginDrop).lines = p.lines := rfl
@[simp] theorem Part.beginDrop_choices : (p.beginDrop).choices = p.choices := rfl

/-! ### beginSweep -/

@[simp] theorem Part.beginSweep_uptime (m : Minute) : (p.beginSweep m).uptime = p.uptime := rfl
@[simp] theorem Part.beginSweep_columns (m : Minute) : (p.beginSweep m).columns = p.columns := rfl
@[simp] theorem Part.beginSweep_fleet (m : Minute) : (p.beginSweep m).fleet = p.fleet := rfl
@[simp] theorem Part.beginSweep_sched (m : Minute) : (p.beginSweep m).sched = p.sched := rfl
@[simp] theorem Part.beginSweep_book (m : Minute) : (p.beginSweep m).book = p.book := rfl
@[simp] theorem Part.beginSweep_chute (m : Minute) : (p.beginSweep m).chute = p.chute := rfl
@[simp] theorem Part.beginSweep_alarm (m : Minute) : (p.beginSweep m).alarm = p.alarm := rfl
@[simp] theorem Part.beginSweep_supply (m : Minute) : (p.beginSweep m).supply = p.supply := rfl
@[simp] theorem Part.beginSweep_lines (m : Minute) : (p.beginSweep m).lines = p.lines := rfl
@[simp] theorem Part.beginSweep_choices (m : Minute) : (p.beginSweep m).choices = p.choices := rfl

/-! ### updAlarm -/

@[simp] theorem Part.updAlarm_uptime (n : Nat) (f : Alarm → Alarm) : (p.updAlarm n f).uptime = p.uptime := rfl
@[simp] theorem Part.updAlarm_columns (n : Nat) (f : Alarm → Alarm) : (p.updAlarm n f).columns = p.columns := rfl
@[simp] theorem Part.updAlarm_fleet (n : Nat) (f : Alarm → Alarm) : (p.updAlarm n f).fleet = p.fleet := rfl
@[simp] theorem Part.updAlarm_sched (n : Nat) (f : Alarm → Alarm) : (p.updAlarm n f).sched = p.sched := rfl
@[simp] theorem Part.updAlarm_book (n : Nat) (f : Alarm → Alarm) : (p.updAlarm n f).book = p.book := rfl
@[simp] theorem Part.updAlarm_chute (n : Nat) (f : Alarm → Alarm) : (p.updAlarm n f).chute = p.chute := rfl
@[simp] theorem Part.updAlarm_late (n : Nat) (f : Alarm → Alarm) : (p.updAlarm n f).late = p.late := rfl
@[simp] theorem Part.updAlarm_supply (n : Nat) (f : Alarm → Alarm) : (p.updAlarm n f).supply = p.supply := rfl
@[simp] theorem Part.updAlarm_lines (n : Nat) (f : Alarm → Alarm) : (p.updAlarm n f).lines = p.lines := rfl
@[simp] theorem Part.updAlarm_choices (n : Nat) (f : Alarm → Alarm) : (p.updAlarm n f).choices = p.choices := rfl

/-! ### removeAlarm -/

@[simp] theorem Part.removeAlarm_uptime (n : Nat) : (p.removeAlarm n).uptime = p.uptime := rfl
@[simp] theorem Part.removeAlarm_columns (n : Nat) : (p.removeAlarm n).columns = p.columns := rfl
@[simp] theorem Part.removeAlarm_fleet (n : Nat) : (p.removeAlarm n).fleet = p.fleet := rfl
@[simp] theorem Part.removeAlarm_sched (n : Nat) : (p.removeAlarm n).sched = p.sched := rfl
@[simp] theorem Part.removeAlarm_book (n : Nat) : (p.removeAlarm n).book = p.book := rfl
@[simp] theorem Part.removeAlarm_chute (n : Nat) : (p.removeAlarm n).chute = p.chute := rfl
@[simp] theorem Part.removeAlarm_late (n : Nat) : (p.removeAlarm n).late = p.late := rfl
@[simp] theorem Part.removeAlarm_supply (n : Nat) : (p.removeAlarm n).supply = p.supply := rfl
@[simp] theorem Part.removeAlarm_lines (n : Nat) : (p.removeAlarm n).lines = p.lines := rfl
@[simp] theorem Part.removeAlarm_choices (n : Nat) : (p.removeAlarm n).choices = p.choices := rfl

/-! ### setFlags -/

@[simp] theorem Part.setFlags_uptime (f : Flags → Flags) : (p.setFlags f).uptime = p.uptime := rfl
@[simp] theorem Part.setFlags_columns (f : Flags → Flags) : (p.setFlags f).columns = p.columns := rfl
@[simp] theorem Part.setFlags_fleet (f : Flags → Flags) : (p.setFlags f).fleet = p.fleet := rfl
@[simp] theorem Part.setFlags_sched (f : Flags → Flags) : (p.setFlags f).sched = p.sched := rfl
@[simp] theorem Part.setFlags_book (f : Flags → Flags) : (p.setFlags f).book = p.book := rfl
@[simp] theorem Part.setFlags_chute (f : Flags → Flags) : (p.setFlags f).chute = p.chute := rfl
@[simp] theorem Part.setFlags_late (f : Flags → Flags) : (p.setFlags f).late = p.late := rfl
@[simp] theorem Part.setFlags_alarm (f : Flags → Flags) : (p.setFlags f).alarm = p.alarm := rfl
@[simp] theorem Part.setFlags_supply (f : Flags → Flags) : (p.setFlags f).supply = p.supply := rfl
@[simp] theorem Part.setFlags_choices (f : Flags → Flags) : (p.setFlags f).choices = p.choices := rfl
@[simp] theorem Part.setFlags_lines_branch (f : Flags → Flags) : (p.setFlags f).lines.branch = p.lines.branch := rfl
@[simp] theorem Part.setFlags_lines_service (f : Flags → Flags) : (p.setFlags f).lines.service = p.lines.service := rfl
@[simp] theorem Part.setFlags_lines_notices (f : Flags → Flags) : (p.setFlags f).lines.notices = p.lines.notices := rfl
@[simp] theorem Part.setFlags_lines_counter (f : Flags → Flags) : (p.setFlags f).lines.counter = p.lines.counter := rfl
@[simp] theorem Part.setFlags_lines_holdUntil (f : Flags → Flags) : (p.setFlags f).lines.holdUntil = p.lines.holdUntil := rfl
@[simp] theorem Part.setFlags_lines_attention (f : Flags → Flags) : (p.setFlags f).lines.attention = p.lines.attention := rfl
@[simp] theorem Part.setFlags_lines_unitAddress (f : Flags → Flags) : (p.setFlags f).lines.unitAddress = p.lines.unitAddress := rfl
@[simp] theorem Part.setFlags_lines_baudOpen (f : Flags → Flags) : (p.setFlags f).lines.baudOpen = p.lines.baudOpen := rfl

/-! ### flagSupplyChanged -/

@[simp] theorem Part.flagSupplyChanged_uptime : (p.flagSupplyChanged).uptime = p.uptime := rfl
@[simp] theorem Part.flagSupplyChanged_columns : (p.flagSupplyChanged).columns = p.columns := rfl
@[simp] theorem Part.flagSupplyChanged_fleet : (p.flagSupplyChanged).fleet = p.fleet := rfl
@[simp] theorem Part.flagSupplyChanged_sched : (p.flagSupplyChanged).sched = p.sched := rfl
@[simp] theorem Part.flagSupplyChanged_book : (p.flagSupplyChanged).book = p.book := rfl
@[simp] theorem Part.flagSupplyChanged_chute : (p.flagSupplyChanged).chute = p.chute := rfl
@[simp] theorem Part.flagSupplyChanged_late : (p.flagSupplyChanged).late = p.late := rfl
@[simp] theorem Part.flagSupplyChanged_alarm : (p.flagSupplyChanged).alarm = p.alarm := rfl
@[simp] theorem Part.flagSupplyChanged_supply : (p.flagSupplyChanged).supply = p.supply := rfl
@[simp] theorem Part.flagSupplyChanged_choices : (p.flagSupplyChanged).choices = p.choices := rfl
@[simp] theorem Part.flagSupplyChanged_lines_branch : (p.flagSupplyChanged).lines.branch = p.lines.branch := rfl
@[simp] theorem Part.flagSupplyChanged_lines_service : (p.flagSupplyChanged).lines.service = p.lines.service := rfl
@[simp] theorem Part.flagSupplyChanged_lines_notices : (p.flagSupplyChanged).lines.notices = p.lines.notices := rfl
@[simp] theorem Part.flagSupplyChanged_lines_counter : (p.flagSupplyChanged).lines.counter = p.lines.counter := rfl
@[simp] theorem Part.flagSupplyChanged_lines_holdUntil : (p.flagSupplyChanged).lines.holdUntil = p.lines.holdUntil := rfl
@[simp] theorem Part.flagSupplyChanged_lines_attention : (p.flagSupplyChanged).lines.attention = p.lines.attention := rfl
@[simp] theorem Part.flagSupplyChanged_lines_unitAddress : (p.flagSupplyChanged).lines.unitAddress = p.lines.unitAddress := rfl
@[simp] theorem Part.flagSupplyChanged_lines_baudOpen : (p.flagSupplyChanged).lines.baudOpen = p.lines.baudOpen := rfl

/-! ### flagLineOverrun -/

@[simp] theorem Part.flagLineOverrun_uptime : (p.flagLineOverrun).uptime = p.uptime := rfl
@[simp] theorem Part.flagLineOverrun_columns : (p.flagLineOverrun).columns = p.columns := rfl
@[simp] theorem Part.flagLineOverrun_fleet : (p.flagLineOverrun).fleet = p.fleet := rfl
@[simp] theorem Part.flagLineOverrun_sched : (p.flagLineOverrun).sched = p.sched := rfl
@[simp] theorem Part.flagLineOverrun_book : (p.flagLineOverrun).book = p.book := rfl
@[simp] theorem Part.flagLineOverrun_chute : (p.flagLineOverrun).chute = p.chute := rfl
@[simp] theorem Part.flagLineOverrun_late : (p.flagLineOverrun).late = p.late := rfl
@[simp] theorem Part.flagLineOverrun_alarm : (p.flagLineOverrun).alarm = p.alarm := rfl
@[simp] theorem Part.flagLineOverrun_supply : (p.flagLineOverrun).supply = p.supply := rfl
@[simp] theorem Part.flagLineOverrun_choices : (p.flagLineOverrun).choices = p.choices := rfl
@[simp] theorem Part.flagLineOverrun_lines_branch : (p.flagLineOverrun).lines.branch = p.lines.branch := rfl
@[simp] theorem Part.flagLineOverrun_lines_service : (p.flagLineOverrun).lines.service = p.lines.service := rfl
@[simp] theorem Part.flagLineOverrun_lines_notices : (p.flagLineOverrun).lines.notices = p.lines.notices := rfl
@[simp] theorem Part.flagLineOverrun_lines_counter : (p.flagLineOverrun).lines.counter = p.lines.counter := rfl
@[simp] theorem Part.flagLineOverrun_lines_holdUntil : (p.flagLineOverrun).lines.holdUntil = p.lines.holdUntil := rfl
@[simp] theorem Part.flagLineOverrun_lines_attention : (p.flagLineOverrun).lines.attention = p.lines.attention := rfl
@[simp] theorem Part.flagLineOverrun_lines_unitAddress : (p.flagLineOverrun).lines.unitAddress = p.lines.unitAddress := rfl
@[simp] theorem Part.flagLineOverrun_lines_baudOpen : (p.flagLineOverrun).lines.baudOpen = p.lines.baudOpen := rfl

/-! ### flagAlarmRaised -/

@[simp] theorem Part.flagAlarmRaised_uptime : (p.flagAlarmRaised).uptime = p.uptime := rfl
@[simp] theorem Part.flagAlarmRaised_columns : (p.flagAlarmRaised).columns = p.columns := rfl
@[simp] theorem Part.flagAlarmRaised_fleet : (p.flagAlarmRaised).fleet = p.fleet := rfl
@[simp] theorem Part.flagAlarmRaised_sched : (p.flagAlarmRaised).sched = p.sched := rfl
@[simp] theorem Part.flagAlarmRaised_book : (p.flagAlarmRaised).book = p.book := rfl
@[simp] theorem Part.flagAlarmRaised_chute : (p.flagAlarmRaised).chute = p.chute := rfl
@[simp] theorem Part.flagAlarmRaised_late : (p.flagAlarmRaised).late = p.late := rfl
@[simp] theorem Part.flagAlarmRaised_alarm : (p.flagAlarmRaised).alarm = p.alarm := rfl
@[simp] theorem Part.flagAlarmRaised_supply : (p.flagAlarmRaised).supply = p.supply := rfl
@[simp] theorem Part.flagAlarmRaised_choices : (p.flagAlarmRaised).choices = p.choices := rfl
@[simp] theorem Part.flagAlarmRaised_lines_branch : (p.flagAlarmRaised).lines.branch = p.lines.branch := rfl
@[simp] theorem Part.flagAlarmRaised_lines_service : (p.flagAlarmRaised).lines.service = p.lines.service := rfl
@[simp] theorem Part.flagAlarmRaised_lines_notices : (p.flagAlarmRaised).lines.notices = p.lines.notices := rfl
@[simp] theorem Part.flagAlarmRaised_lines_counter : (p.flagAlarmRaised).lines.counter = p.lines.counter := rfl
@[simp] theorem Part.flagAlarmRaised_lines_holdUntil : (p.flagAlarmRaised).lines.holdUntil = p.lines.holdUntil := rfl
@[simp] theorem Part.flagAlarmRaised_lines_attention : (p.flagAlarmRaised).lines.attention = p.lines.attention := rfl
@[simp] theorem Part.flagAlarmRaised_lines_unitAddress : (p.flagAlarmRaised).lines.unitAddress = p.lines.unitAddress := rfl
@[simp] theorem Part.flagAlarmRaised_lines_baudOpen : (p.flagAlarmRaised).lines.baudOpen = p.lines.baudOpen := rfl

/-! ### flagReconciled -/

@[simp] theorem Part.flagReconciled_uptime : (p.flagReconciled).uptime = p.uptime := rfl
@[simp] theorem Part.flagReconciled_columns : (p.flagReconciled).columns = p.columns := rfl
@[simp] theorem Part.flagReconciled_fleet : (p.flagReconciled).fleet = p.fleet := rfl
@[simp] theorem Part.flagReconciled_sched : (p.flagReconciled).sched = p.sched := rfl
@[simp] theorem Part.flagReconciled_book : (p.flagReconciled).book = p.book := rfl
@[simp] theorem Part.flagReconciled_chute : (p.flagReconciled).chute = p.chute := rfl
@[simp] theorem Part.flagReconciled_late : (p.flagReconciled).late = p.late := rfl
@[simp] theorem Part.flagReconciled_alarm : (p.flagReconciled).alarm = p.alarm := rfl
@[simp] theorem Part.flagReconciled_supply : (p.flagReconciled).supply = p.supply := rfl
@[simp] theorem Part.flagReconciled_choices : (p.flagReconciled).choices = p.choices := rfl
@[simp] theorem Part.flagReconciled_lines_branch : (p.flagReconciled).lines.branch = p.lines.branch := rfl
@[simp] theorem Part.flagReconciled_lines_service : (p.flagReconciled).lines.service = p.lines.service := rfl
@[simp] theorem Part.flagReconciled_lines_notices : (p.flagReconciled).lines.notices = p.lines.notices := rfl
@[simp] theorem Part.flagReconciled_lines_counter : (p.flagReconciled).lines.counter = p.lines.counter := rfl
@[simp] theorem Part.flagReconciled_lines_holdUntil : (p.flagReconciled).lines.holdUntil = p.lines.holdUntil := rfl
@[simp] theorem Part.flagReconciled_lines_attention : (p.flagReconciled).lines.attention = p.lines.attention := rfl
@[simp] theorem Part.flagReconciled_lines_unitAddress : (p.flagReconciled).lines.unitAddress = p.lines.unitAddress := rfl
@[simp] theorem Part.flagReconciled_lines_baudOpen : (p.flagReconciled).lines.baudOpen = p.lines.baudOpen := rfl

/-! ### flagAlarmOverflow -/

@[simp] theorem Part.flagAlarmOverflow_uptime : (p.flagAlarmOverflow).uptime = p.uptime := rfl
@[simp] theorem Part.flagAlarmOverflow_columns : (p.flagAlarmOverflow).columns = p.columns := rfl
@[simp] theorem Part.flagAlarmOverflow_fleet : (p.flagAlarmOverflow).fleet = p.fleet := rfl
@[simp] theorem Part.flagAlarmOverflow_sched : (p.flagAlarmOverflow).sched = p.sched := rfl
@[simp] theorem Part.flagAlarmOverflow_book : (p.flagAlarmOverflow).book = p.book := rfl
@[simp] theorem Part.flagAlarmOverflow_chute : (p.flagAlarmOverflow).chute = p.chute := rfl
@[simp] theorem Part.flagAlarmOverflow_late : (p.flagAlarmOverflow).late = p.late := rfl
@[simp] theorem Part.flagAlarmOverflow_alarm : (p.flagAlarmOverflow).alarm = p.alarm := rfl
@[simp] theorem Part.flagAlarmOverflow_supply : (p.flagAlarmOverflow).supply = p.supply := rfl
@[simp] theorem Part.flagAlarmOverflow_choices : (p.flagAlarmOverflow).choices = p.choices := rfl
@[simp] theorem Part.flagAlarmOverflow_lines_branch : (p.flagAlarmOverflow).lines.branch = p.lines.branch := rfl
@[simp] theorem Part.flagAlarmOverflow_lines_service : (p.flagAlarmOverflow).lines.service = p.lines.service := rfl
@[simp] theorem Part.flagAlarmOverflow_lines_notices : (p.flagAlarmOverflow).lines.notices = p.lines.notices := rfl
@[simp] theorem Part.flagAlarmOverflow_lines_counter : (p.flagAlarmOverflow).lines.counter = p.lines.counter := rfl
@[simp] theorem Part.flagAlarmOverflow_lines_holdUntil : (p.flagAlarmOverflow).lines.holdUntil = p.lines.holdUntil := rfl
@[simp] theorem Part.flagAlarmOverflow_lines_attention : (p.flagAlarmOverflow).lines.attention = p.lines.attention := rfl
@[simp] theorem Part.flagAlarmOverflow_lines_unitAddress : (p.flagAlarmOverflow).lines.unitAddress = p.lines.unitAddress := rfl
@[simp] theorem Part.flagAlarmOverflow_lines_baudOpen : (p.flagAlarmOverflow).lines.baudOpen = p.lines.baudOpen := rfl

/-! ### beginHold -/

@[simp] theorem Part.beginHold_uptime : (p.beginHold).uptime = p.uptime := rfl
@[simp] theorem Part.beginHold_columns : (p.beginHold).columns = p.columns := rfl
@[simp] theorem Part.beginHold_fleet : (p.beginHold).fleet = p.fleet := rfl
@[simp] theorem Part.beginHold_sched : (p.beginHold).sched = p.sched := rfl
@[simp] theorem Part.beginHold_book : (p.beginHold).book = p.book := rfl
@[simp] theorem Part.beginHold_chute : (p.beginHold).chute = p.chute := rfl
@[simp] theorem Part.beginHold_late : (p.beginHold).late = p.late := rfl
@[simp] theorem Part.beginHold_alarm : (p.beginHold).alarm = p.alarm := rfl
@[simp] theorem Part.beginHold_supply : (p.beginHold).supply = p.supply := rfl
@[simp] theorem Part.beginHold_choices : (p.beginHold).choices = p.choices := rfl

/-! ### decideDrives -/

@[simp] theorem Part.decideDrives_uptime : (p.decideDrives).uptime = p.uptime := rfl
@[simp] theorem Part.decideDrives_columns : (p.decideDrives).columns = p.columns := rfl
@[simp] theorem Part.decideDrives_fleet : (p.decideDrives).fleet = p.fleet := rfl
@[simp] theorem Part.decideDrives_sched : (p.decideDrives).sched = p.sched := rfl
@[simp] theorem Part.decideDrives_book : (p.decideDrives).book = p.book := rfl
@[simp] theorem Part.decideDrives_chute : (p.decideDrives).chute = p.chute := rfl
@[simp] theorem Part.decideDrives_late : (p.decideDrives).late = p.late := rfl
@[simp] theorem Part.decideDrives_supply : (p.decideDrives).supply = p.supply := rfl
@[simp] theorem Part.decideDrives_choices : (p.decideDrives).choices = p.choices := rfl
@[simp] theorem Part.decideDrives_lines_branch : (p.decideDrives).lines.branch = p.lines.branch := rfl
@[simp] theorem Part.decideDrives_lines_service : (p.decideDrives).lines.service = p.lines.service := rfl
@[simp] theorem Part.decideDrives_lines_notices : (p.decideDrives).lines.notices = p.lines.notices := rfl
@[simp] theorem Part.decideDrives_lines_counter : (p.decideDrives).lines.counter = p.lines.counter := rfl
@[simp] theorem Part.decideDrives_lines_flags : (p.decideDrives).lines.flags = p.lines.flags := rfl
@[simp] theorem Part.decideDrives_lines_holdUntil : (p.decideDrives).lines.holdUntil = p.lines.holdUntil := rfl
@[simp] theorem Part.decideDrives_lines_unitAddress : (p.decideDrives).lines.unitAddress = p.lines.unitAddress := rfl
@[simp] theorem Part.decideDrives_lines_baudOpen : (p.decideDrives).lines.baudOpen = p.lines.baudOpen := rfl

/-! ### clearMainsTiming -/

@[simp] theorem Part.clearMainsTiming_uptime : (p.clearMainsTiming).uptime = p.uptime := rfl
@[simp] theorem Part.clearMainsTiming_columns : (p.clearMainsTiming).columns = p.columns := rfl
@[simp] theorem Part.clearMainsTiming_fleet : (p.clearMainsTiming).fleet = p.fleet := rfl
@[simp] theorem Part.clearMainsTiming_sched : (p.clearMainsTiming).sched = p.sched := rfl
@[simp] theorem Part.clearMainsTiming_book : (p.clearMainsTiming).book = p.book := rfl
@[simp] theorem Part.clearMainsTiming_chute : (p.clearMainsTiming).chute = p.chute := rfl
@[simp] theorem Part.clearMainsTiming_late : (p.clearMainsTiming).late = p.late := rfl
@[simp] theorem Part.clearMainsTiming_alarm : (p.clearMainsTiming).alarm = p.alarm := rfl
@[simp] theorem Part.clearMainsTiming_lines : (p.clearMainsTiming).lines = p.lines := rfl
@[simp] theorem Part.clearMainsTiming_choices : (p.clearMainsTiming).choices = p.choices := rfl

/-! ### startLocate -/

@[simp] theorem Part.startLocate_uptime (x : SlotId) : (p.startLocate x).uptime = p.uptime := rfl
@[simp] theorem Part.startLocate_fleet (x : SlotId) : (p.startLocate x).fleet = p.fleet := rfl
@[simp] theorem Part.startLocate_sched (x : SlotId) : (p.startLocate x).sched = p.sched := rfl
@[simp] theorem Part.startLocate_book (x : SlotId) : (p.startLocate x).book = p.book := rfl
@[simp] theorem Part.startLocate_chute (x : SlotId) : (p.startLocate x).chute = p.chute := rfl
@[simp] theorem Part.startLocate_late (x : SlotId) : (p.startLocate x).late = p.late := rfl
@[simp] theorem Part.startLocate_alarm (x : SlotId) : (p.startLocate x).alarm = p.alarm := rfl
@[simp] theorem Part.startLocate_supply (x : SlotId) : (p.startLocate x).supply = p.supply := rfl
@[simp] theorem Part.startLocate_lines (x : SlotId) : (p.startLocate x).lines = p.lines := rfl
@[simp] theorem Part.startLocate_choices (x : SlotId) : (p.startLocate x).choices = p.choices := rfl

/-! ### What the updates put in their fields -/

@[simp] theorem Part.updVehicle_fleet (u : Nat) (f : Vehicle → Vehicle) :
    (p.updVehicle u f).fleet = p.fleet.map fun v => if v.unit = u then f v else v := rfl
@[simp] theorem Part.updRelease_queue (n : Nat) (f : Release → Release) :
    (p.updRelease n f).sched.queue = p.sched.queue.map fun r => if r.number = n then f r else r := rfl
@[simp] theorem Part.updRelease_strikes (n : Nat) (f : Release → Release) :
    (p.updRelease n f).sched.strikes = p.sched.strikes := rfl
@[simp] theorem Part.updRelease_ended (n : Nat) (f : Release → Release) :
    (p.updRelease n f).sched.ended = p.sched.ended := rfl
@[simp] theorem Part.updContract_contracts (n : Nat) (f : Contract → Contract) :
    (p.updContract n f).book.contracts = p.book.contracts.map fun c => if c.number = n then f c else c := rfl
@[simp] theorem Part.updContract_ring (n : Nat) (f : Contract → Contract) :
    (p.updContract n f).book.ring = p.book.ring := rfl
@[simp] theorem Part.updContract_closingSeq (n : Nat) (f : Contract → Contract) :
    (p.updContract n f).book.closingSeq = p.book.closingSeq := rfl
@[simp] theorem Part.dropContract_contracts (n : Nat) :
    (p.dropContract n).book.contracts = p.book.contracts.filter fun c => c.number != n := rfl
@[simp] theorem Part.dropContract_ring (n : Nat) : (p.dropContract n).book.ring = p.book.ring := rfl
@[simp] theorem Part.dropContract_closingSeq (n : Nat) :
    (p.dropContract n).book.closingSeq = p.book.closingSeq := rfl
@[simp] theorem Part.updAlarm_list (n : Nat) (f : Alarm → Alarm) :
    (p.updAlarm n f).alarm.list = p.alarm.list.map fun a => if a.number = n then f a else a := rfl
@[simp] theorem Part.removeAlarm_list (n : Nat) :
    (p.removeAlarm n).alarm.list = p.alarm.list.filter fun a => a.number != n := rfl
@[simp] theorem Part.decideDrives_list : p.decideDrives.alarm.list = p.alarm.list := rfl
@[simp] theorem Part.decideDrives_overflow : p.decideDrives.alarm.overflow = p.alarm.overflow := rfl
@[simp] theorem Part.decideDrives_lastNumber : p.decideDrives.alarm.lastNumber = p.alarm.lastNumber := rfl
@[simp] theorem Part.setFlags_flags (f : Flags → Flags) : (p.setFlags f).lines.flags = f p.lines.flags := rfl
@[simp] theorem Part.updColumn_columns (c : ColId) (f : Column → Column) :
    (p.updColumn c f).columns = p.columns.set c (f p.columns[c]) := rfl

/-! ### Reading a column or a slot after an update -/

@[simp] theorem Part.column_updColumn_self (c : ColId) (f : Column → Column) :
    (p.updColumn c f).column c = f (p.column c) := by
  simp [Part.column, Part.updColumn]

theorem Part.column_updColumn_of_ne {c d : ColId} (f : Column → Column) (h : c ≠ d) :
    (p.updColumn c f).column d = p.column d := by
  have : c.val ≠ d.val := fun e => h (Fin.ext e)
  simp [Part.column, Part.updColumn, Vector.getElem_set_ne, this]

@[simp] theorem Column.updSlot_engine (col : Column) (i : PosId) (f : Slot → Slot) :
    (col.updSlot i f).engine = col.engine := rfl
@[simp] theorem Column.updSlot_reader (col : Column) (i : PosId) (f : Slot → Slot) :
    (col.updSlot i f).reader = col.reader := rfl
@[simp] theorem Column.updSlot_readList (col : Column) (i : PosId) (f : Slot → Slot) :
    (col.updSlot i f).readList = col.readList := rfl

theorem Part.slot_updSlot_self (x : SlotId) (f : Slot → Slot) : (p.updSlot x f).slot x = f (p.slot x) := by
  simp [Part.slot, Part.updSlot, Column.updSlot]

theorem Part.slot_updSlot_of_ne {x y : SlotId} (f : Slot → Slot) (h : x ≠ y) :
    (p.updSlot x f).slot y = p.slot y := by
  by_cases hc : x.col = y.col
  · have hp : x.pos.val ≠ y.pos.val := fun e => h (by cases x; cases y; simp_all [Fin.ext_iff])
    simp only [Part.slot, Part.updSlot, ← hc, Part.column_updColumn_self, Column.updSlot]
    simp [Vector.getElem_set_ne, hp]
  · simp [Part.slot, Part.updSlot, Part.column_updColumn_of_ne, hc]

@[simp] theorem Part.record_updRecord_self (x : SlotId) (f : SlotRecord → SlotRecord) :
    (p.updRecord x f).record x = f (p.record x) := by
  simp [Part.record, Part.updRecord, Part.slot_updSlot_self]

@[simp] theorem Part.custody_setCustody_self (x : SlotId) (k : Custody) : (p.setCustody x k).custody x = k := by
  simp [Part.custody, Part.setCustody]

@[simp] theorem Part.engine_updEngine_self (x : SlotId) (f : SlotEngine → SlotEngine) :
    (p.updEngine x f).engine x = f (p.engine x) := by
  simp [Part.engine, Part.updEngine, Part.slot_updSlot_self]

end Sys2Proof.Machine
end

