-- ==== Sys2Proof/Laws/Frames.lean ====
section
/-! SUPPORT. For each shared operation, once, the fields of the part that it leaves alone. Later proofs cite these and
unfold no operation to learn what it does not touch. -/

namespace Sys2Proof.Machine

variable (p : Part)

/-- What every step of a fold leaves alone, the fold leaves alone. -/
theorem foldl_keeps {α β γ : Type} (g : α → γ) (f : α → β → α) (h : ∀ a b, g (f a b) = g a) (l : List β) (a : α) :
    g (l.foldl f a) = g a := by
  induction l generalizing a with
  | nil => rfl
  | cons b rest ih => rw [List.foldl_cons, ih, h]

@[simp] theorem Part.notice_frame (b : NoticeBody) :
    (p.notice b).uptime = p.uptime ∧ (p.notice b).columns = p.columns ∧ (p.notice b).fleet = p.fleet ∧
    (p.notice b).sched = p.sched ∧ (p.notice b).book = p.book ∧ (p.notice b).chute = p.chute ∧
    (p.notice b).late = p.late ∧ (p.notice b).alarm = p.alarm ∧ (p.notice b).supply = p.supply ∧
    (p.notice b).choices = p.choices ∧ (p.notice b).lines.branch = p.lines.branch ∧
    (p.notice b).lines.service = p.lines.service ∧ (p.notice b).lines.holdUntil = p.lines.holdUntil ∧
    (p.notice b).lines.unitAddress = p.lines.unitAddress ∧ (p.notice b).lines.baudOpen = p.lines.baudOpen := by
  unfold Part.notice
  repeat' split
  all_goals simp

@[simp] theorem Part.announceRaise_frame (n : Nat) (k : AlarmKind) (x : Subject) :
    (p.announceRaise n k x).uptime = p.uptime ∧ (p.announceRaise n k x).columns = p.columns ∧
    (p.announceRaise n k x).fleet = p.fleet ∧ (p.announceRaise n k x).sched = p.sched ∧
    (p.announceRaise n k x).book = p.book ∧ (p.announceRaise n k x).chute = p.chute ∧
    (p.announceRaise n k x).late = p.late ∧ (p.announceRaise n k x).alarm = p.alarm ∧
    (p.announceRaise n k x).supply = p.supply ∧ (p.announceRaise n k x).choices = p.choices ∧
    (p.announceRaise n k x).lines.branch = p.lines.branch ∧ (p.announceRaise n k x).lines.service = p.lines.service ∧
    (p.announceRaise n k x).lines.holdUntil = p.lines.holdUntil ∧
    (p.announceRaise n k x).lines.unitAddress = p.lines.unitAddress ∧
    (p.announceRaise n k x).lines.baudOpen = p.lines.baudOpen := by
  unfold Part.announceRaise
  repeat' split
  all_goals simp

@[simp] theorem Part.makeAlarm_frame (k : AlarmKind) (x : Subject) :
    (p.makeAlarm k x).uptime = p.uptime ∧ (p.makeAlarm k x).columns = p.columns ∧ (p.makeAlarm k x).fleet = p.fleet ∧
    (p.makeAlarm k x).sched = p.sched ∧ (p.makeAlarm k x).book = p.book ∧ (p.makeAlarm k x).chute = p.chute ∧
    (p.makeAlarm k x).late = p.late ∧ (p.makeAlarm k x).supply = p.supply ∧ (p.makeAlarm k x).choices = p.choices ∧
    (p.makeAlarm k x).lines.branch = p.lines.branch ∧ (p.makeAlarm k x).lines.service = p.lines.service ∧
    (p.makeAlarm k x).lines.holdUntil = p.lines.holdUntil ∧
    (p.makeAlarm k x).lines.unitAddress = p.lines.unitAddress ∧
    (p.makeAlarm k x).lines.baudOpen = p.lines.baudOpen := by
  unfold Part.makeAlarm
  repeat' split
  all_goals simp

@[simp] theorem Part.raise_frame (k : AlarmKind) (x : Subject) :
    (p.raise k x).uptime = p.uptime ∧ (p.raise k x).columns = p.columns ∧ (p.raise k x).fleet = p.fleet ∧
    (p.raise k x).sched = p.sched ∧ (p.raise k x).book = p.book ∧ (p.raise k x).chute = p.chute ∧
    (p.raise k x).late = p.late ∧ (p.raise k x).supply = p.supply ∧ (p.raise k x).choices = p.choices ∧
    (p.raise k x).lines.branch = p.lines.branch ∧ (p.raise k x).lines.service = p.lines.service ∧
    (p.raise k x).lines.holdUntil = p.lines.holdUntil ∧ (p.raise k x).lines.unitAddress = p.lines.unitAddress ∧
    (p.raise k x).lines.baudOpen = p.lines.baudOpen := by
  unfold Part.raise
  repeat' split
  all_goals simp

@[simp] theorem Part.endCondition_frame (k : AlarmKind) (x : Subject) :
    (p.endCondition k x).uptime = p.uptime ∧ (p.endCondition k x).columns = p.columns ∧
    (p.endCondition k x).fleet = p.fleet ∧ (p.endCondition k x).sched = p.sched ∧
    (p.endCondition k x).book = p.book ∧ (p.endCondition k x).chute = p.chute ∧ (p.endCondition k x).late = p.late ∧
    (p.endCondition k x).supply = p.supply ∧ (p.endCondition k x).choices = p.choices ∧
    (p.endCondition k x).lines.branch = p.lines.branch ∧ (p.endCondition k x).lines.service = p.lines.service ∧
    (p.endCondition k x).lines.holdUntil = p.lines.holdUntil ∧
    (p.endCondition k x).lines.unitAddress = p.lines.unitAddress ∧
    (p.endCondition k x).lines.baudOpen = p.lines.baudOpen := by
  unfold Part.endCondition
  repeat' split
  all_goals simp

@[simp] theorem Part.endForeignConditions_frame (x : SlotId) :
    (p.endForeignConditions x).uptime = p.uptime ∧ (p.endForeignConditions x).columns = p.columns ∧
    (p.endForeignConditions x).fleet = p.fleet ∧ (p.endForeignConditions x).sched = p.sched ∧
    (p.endForeignConditions x).book = p.book ∧ (p.endForeignConditions x).chute = p.chute ∧
    (p.endForeignConditions x).late = p.late ∧ (p.endForeignConditions x).supply = p.supply ∧
    (p.endForeignConditions x).choices = p.choices ∧ (p.endForeignConditions x).lines.branch = p.lines.branch ∧
    (p.endForeignConditions x).lines.service = p.lines.service ∧
    (p.endForeignConditions x).lines.holdUntil = p.lines.holdUntil ∧
    (p.endForeignConditions x).lines.unitAddress = p.lines.unitAddress ∧
    (p.endForeignConditions x).lines.baudOpen = p.lines.baudOpen := by
  unfold Part.endForeignConditions
  repeat' split
  all_goals simp

@[simp] theorem Part.followThreshold_frame (t : Level) (k : AlarmKind) (n : Nat) (old : Option Level) (new : Level) :
    (p.followThreshold t k n old new).uptime = p.uptime ∧ (p.followThreshold t k n old new).columns = p.columns ∧
    (p.followThreshold t k n old new).fleet = p.fleet ∧ (p.followThreshold t k n old new).sched = p.sched ∧
    (p.followThreshold t k n old new).book = p.book ∧ (p.followThreshold t k n old new).chute = p.chute ∧
    (p.followThreshold t k n old new).late = p.late ∧ (p.followThreshold t k n old new).supply = p.supply ∧
    (p.followThreshold t k n old new).choices = p.choices ∧
    (p.followThreshold t k n old new).lines.branch = p.lines.branch ∧
    (p.followThreshold t k n old new).lines.service = p.lines.service ∧
    (p.followThreshold t k n old new).lines.holdUntil = p.lines.holdUntil ∧
    (p.followThreshold t k n old new).lines.unitAddress = p.lines.unitAddress ∧
    (p.followThreshold t k n old new).lines.baudOpen = p.lines.baudOpen := by
  unfold Part.followThreshold
  repeat' split
  all_goals simp

@[simp] theorem Part.levelChange_frame (c : Contract) (old : Option Level) (new : Level) (charge : Nat) :
    (p.levelChange c old new charge).uptime = p.uptime ∧ (p.levelChange c old new charge).columns = p.columns ∧
    (p.levelChange c old new charge).sched = p.sched ∧ (p.levelChange c old new charge).book = p.book ∧
    (p.levelChange c old new charge).chute = p.chute ∧ (p.levelChange c old new charge).late = p.late ∧
    (p.levelChange c old new charge).supply = p.supply ∧ (p.levelChange c old new charge).choices = p.choices ∧
    (p.levelChange c old new charge).lines.branch = p.lines.branch ∧
    (p.levelChange c old new charge).lines.service = p.lines.service ∧
    (p.levelChange c old new charge).lines.holdUntil = p.lines.holdUntil ∧
    (p.levelChange c old new charge).lines.unitAddress = p.lines.unitAddress ∧
    (p.levelChange c old new charge).lines.baudOpen = p.lines.baudOpen := by
  unfold Part.levelChange
  repeat' split
  all_goals simp

@[simp] theorem Part.examine_frame (n : Nat) (m : Minute) :
    (p.examine n m).uptime = p.uptime ∧ (p.examine n m).columns = p.columns ∧ (p.examine n m).sched = p.sched ∧
    (p.examine n m).chute = p.chute ∧ (p.examine n m).late = p.late ∧ (p.examine n m).supply = p.supply ∧
    (p.examine n m).choices = p.choices ∧ (p.examine n m).lines.branch = p.lines.branch ∧
    (p.examine n m).lines.service = p.lines.service ∧ (p.examine n m).lines.holdUntil = p.lines.holdUntil ∧
    (p.examine n m).lines.unitAddress = p.lines.unitAddress ∧ (p.examine n m).lines.baudOpen = p.lines.baudOpen := by
  unfold Part.examine
  dsimp only
  repeat' split
  all_goals simp_all

@[simp] theorem Part.activateContract_frame (n : Nat) (m : Minute) :
    (p.activateContract n m).uptime = p.uptime ∧ (p.activateContract n m).columns = p.columns ∧
    (p.activateContract n m).sched = p.sched ∧ (p.activateContract n m).chute = p.chute ∧
    (p.activateContract n m).late = p.late ∧ (p.activateContract n m).supply = p.supply ∧
    (p.activateContract n m).choices = p.choices ∧ (p.activateContract n m).lines.branch = p.lines.branch ∧
    (p.activateContract n m).lines.service = p.lines.service ∧
    (p.activateContract n m).lines.holdUntil = p.lines.holdUntil ∧
    (p.activateContract n m).lines.unitAddress = p.lines.unitAddress ∧
    (p.activateContract n m).lines.baudOpen = p.lines.baudOpen := by
  unfold Part.activateContract
  dsimp only
  repeat' split
  all_goals simp_all

@[simp] theorem Part.deleteContract_frame (n : Nat) :
    (p.deleteContract n).uptime = p.uptime ∧ (p.deleteContract n).columns = p.columns ∧
    (p.deleteContract n).sched = p.sched ∧ (p.deleteContract n).chute = p.chute ∧
    (p.deleteContract n).late = p.late ∧ (p.deleteContract n).alarm = p.alarm ∧
    (p.deleteContract n).supply = p.supply ∧ (p.deleteContract n).lines = p.lines ∧
    (p.deleteContract n).choices = p.choices := by
  unfold Part.deleteContract
  repeat' split
  all_goals simp

@[simp] theorem Part.closeContract_frame (n : Nat) (m : Minute) (w : ClosePath) :
    (p.closeContract n m w).uptime = p.uptime ∧ (p.closeContract n m w).columns = p.columns ∧
    (p.closeContract n m w).sched = p.sched ∧ (p.closeContract n m w).chute = p.chute ∧
    (p.closeContract n m w).late = p.late ∧ (p.closeContract n m w).supply = p.supply ∧
    (p.closeContract n m w).choices = p.choices ∧ (p.closeContract n m w).lines.branch = p.lines.branch ∧
    (p.closeContract n m w).lines.service = p.lines.service ∧
    (p.closeContract n m w).lines.holdUntil = p.lines.holdUntil ∧
    (p.closeContract n m w).lines.unitAddress = p.lines.unitAddress ∧
    (p.closeContract n m w).lines.baudOpen = p.lines.baudOpen := by
  unfold Part.closeContract
  repeat' split
  all_goals simp

@[simp] theorem Part.decideFlap_frame :
    (p.decideFlap).uptime = p.uptime ∧ (p.decideFlap).columns = p.columns ∧ (p.decideFlap).fleet = p.fleet ∧
    (p.decideFlap).sched = p.sched ∧ (p.decideFlap).book = p.book ∧ (p.decideFlap).late = p.late ∧
    (p.decideFlap).supply = p.supply ∧ (p.decideFlap).choices = p.choices ∧
    (p.decideFlap).lines.branch = p.lines.branch ∧ (p.decideFlap).lines.service = p.lines.service ∧
    (p.decideFlap).lines.holdUntil = p.lines.holdUntil ∧ (p.decideFlap).lines.unitAddress = p.lines.unitAddress ∧
    (p.decideFlap).lines.baudOpen = p.lines.baudOpen := by
  unfold Part.decideFlap
  repeat' split
  all_goals simp

@[simp] theorem Part.checkFlap_frame :
    (p.checkFlap).uptime = p.uptime ∧ (p.checkFlap).columns = p.columns ∧ (p.checkFlap).fleet = p.fleet ∧
    (p.checkFlap).sched = p.sched ∧ (p.checkFlap).book = p.book ∧ (p.checkFlap).late = p.late ∧
    (p.checkFlap).supply = p.supply ∧ (p.checkFlap).choices = p.choices ∧
    (p.checkFlap).lines.branch = p.lines.branch ∧ (p.checkFlap).lines.service = p.lines.service ∧
    (p.checkFlap).lines.holdUntil = p.lines.holdUntil ∧ (p.checkFlap).lines.unitAddress = p.lines.unitAddress ∧
    (p.checkFlap).lines.baudOpen = p.lines.baudOpen := by
  unfold Part.checkFlap
  dsimp only
  repeat' split
  all_goals simp_all

@[simp] theorem Part.removeEntry_frame (n : Nat) :
    (p.removeEntry n).uptime = p.uptime ∧ (p.removeEntry n).columns = p.columns ∧ (p.removeEntry n).fleet = p.fleet ∧
    (p.removeEntry n).sched = p.sched ∧ (p.removeEntry n).book = p.book ∧ (p.removeEntry n).late = p.late ∧
    (p.removeEntry n).supply = p.supply ∧ (p.removeEntry n).choices = p.choices ∧
    (p.removeEntry n).lines.branch = p.lines.branch ∧ (p.removeEntry n).lines.service = p.lines.service ∧
    (p.removeEntry n).lines.holdUntil = p.lines.holdUntil ∧
    (p.removeEntry n).lines.unitAddress = p.lines.unitAddress ∧
    (p.removeEntry n).lines.baudOpen = p.lines.baudOpen := by
  unfold Part.removeEntry
  dsimp only
  repeat' split
  all_goals simp_all

@[simp] theorem Part.dropVehicle_frame (u n : Nat) (m : Minute) :
    (p.dropVehicle u n m).uptime = p.uptime ∧ (p.dropVehicle u n m).columns = p.columns ∧
    (p.dropVehicle u n m).sched = p.sched ∧ (p.dropVehicle u n m).chute = p.chute ∧
    (p.dropVehicle u n m).late = p.late ∧ (p.dropVehicle u n m).supply = p.supply ∧
    (p.dropVehicle u n m).choices = p.choices ∧ (p.dropVehicle u n m).lines.branch = p.lines.branch ∧
    (p.dropVehicle u n m).lines.service = p.lines.service ∧
    (p.dropVehicle u n m).lines.holdUntil = p.lines.holdUntil ∧
    (p.dropVehicle u n m).lines.unitAddress = p.lines.unitAddress ∧
    (p.dropVehicle u n m).lines.baudOpen = p.lines.baudOpen := by
  unfold Part.dropVehicle
  repeat' split
  all_goals simp

@[simp] theorem Part.raiseForEntry_frame (n : Nat) (k : EntryKind) :
    (p.raiseForEntry n k).uptime = p.uptime ∧ (p.raiseForEntry n k).columns = p.columns ∧
    (p.raiseForEntry n k).fleet = p.fleet ∧ (p.raiseForEntry n k).sched = p.sched ∧
    (p.raiseForEntry n k).book = p.book ∧ (p.raiseForEntry n k).chute = p.chute ∧
    (p.raiseForEntry n k).late = p.late ∧ (p.raiseForEntry n k).supply = p.supply ∧
    (p.raiseForEntry n k).choices = p.choices ∧ (p.raiseForEntry n k).lines.branch = p.lines.branch ∧
    (p.raiseForEntry n k).lines.service = p.lines.service ∧
    (p.raiseForEntry n k).lines.holdUntil = p.lines.holdUntil ∧
    (p.raiseForEntry n k).lines.unitAddress = p.lines.unitAddress ∧
    (p.raiseForEntry n k).lines.baudOpen = p.lines.baudOpen := by
  unfold Part.raiseForEntry
  repeat' split
  all_goals simp

@[simp] theorem Part.handleDrop_frame (m : Minute) (o : ReadOutcome) :
    (p.handleDrop m o).uptime = p.uptime ∧ (p.handleDrop m o).columns = p.columns ∧
    (p.handleDrop m o).sched = p.sched ∧ (p.handleDrop m o).late = p.late ∧ (p.handleDrop m o).supply = p.supply ∧
    (p.handleDrop m o).choices = p.choices ∧ (p.handleDrop m o).lines.branch = p.lines.branch ∧
    (p.handleDrop m o).lines.service = p.lines.service ∧ (p.handleDrop m o).lines.holdUntil = p.lines.holdUntil ∧
    (p.handleDrop m o).lines.unitAddress = p.lines.unitAddress ∧
    (p.handleDrop m o).lines.baudOpen = p.lines.baudOpen := by
  unfold Part.handleDrop
  dsimp only
  repeat' split
  all_goals simp_all

@[simp] theorem Part.ackAlarm_frame (a : Alarm) :
    (p.ackAlarm a).uptime = p.uptime ∧ (p.ackAlarm a).columns = p.columns ∧ (p.ackAlarm a).fleet = p.fleet ∧
    (p.ackAlarm a).sched = p.sched ∧ (p.ackAlarm a).book = p.book ∧ (p.ackAlarm a).chute = p.chute ∧
    (p.ackAlarm a).late = p.late ∧ (p.ackAlarm a).supply = p.supply ∧ (p.ackAlarm a).lines = p.lines ∧
    (p.ackAlarm a).choices = p.choices := by
  unfold Part.ackAlarm
  repeat' split
  all_goals simp

@[simp] theorem Part.selectOne_frame (r : Release) :
    (p.selectOne r).uptime = p.uptime ∧ (p.selectOne r).fleet = p.fleet ∧ (p.selectOne r).book = p.book ∧
    (p.selectOne r).chute = p.chute ∧ (p.selectOne r).late = p.late ∧ (p.selectOne r).alarm = p.alarm ∧
    (p.selectOne r).supply = p.supply ∧ (p.selectOne r).lines = p.lines ∧ (p.selectOne r).choices = p.choices := by
  unfold Part.selectOne
  repeat' split
  all_goals simp

@[simp] theorem selectAll_frame (n : Nat) :
    (selectAll n p).uptime = p.uptime ∧ (selectAll n p).fleet = p.fleet ∧ (selectAll n p).book = p.book ∧
    (selectAll n p).chute = p.chute ∧ (selectAll n p).late = p.late ∧ (selectAll n p).alarm = p.alarm ∧
    (selectAll n p).supply = p.supply ∧ (selectAll n p).lines = p.lines ∧ (selectAll n p).choices = p.choices := by
  induction n generalizing p with
  | zero => simp [selectAll]
  | succ n ih =>
    unfold selectAll
    repeat' split
    all_goals simp [ih]

@[simp] theorem Part.selection_frame :
    (p.selection).uptime = p.uptime ∧ (p.selection).fleet = p.fleet ∧ (p.selection).book = p.book ∧
    (p.selection).chute = p.chute ∧ (p.selection).late = p.late ∧ (p.selection).alarm = p.alarm ∧
    (p.selection).supply = p.supply ∧ (p.selection).lines = p.lines ∧ (p.selection).choices = p.choices := by
  unfold Part.selection
  repeat' split
  all_goals simp

@[simp] theorem Part.leaveSlot_frame (r : Release) (o : ReleaseOutcome) :
    (p.leaveSlot r o).uptime = p.uptime ∧ (p.leaveSlot r o).fleet = p.fleet ∧ (p.leaveSlot r o).sched = p.sched ∧
    (p.leaveSlot r o).book = p.book ∧ (p.leaveSlot r o).chute = p.chute ∧ (p.leaveSlot r o).late = p.late ∧
    (p.leaveSlot r o).alarm = p.alarm ∧ (p.leaveSlot r o).supply = p.supply ∧ (p.leaveSlot r o).lines = p.lines ∧
    (p.leaveSlot r o).choices = p.choices := by
  unfold Part.leaveSlot
  repeat' split
  all_goals simp

@[simp] theorem Part.leaveLinks_frame (r : Release) (o : ReleaseOutcome) :
    (p.leaveLinks r o).uptime = p.uptime ∧ (p.leaveLinks r o).columns = p.columns ∧
    (p.leaveLinks r o).sched = p.sched ∧ (p.leaveLinks r o).chute = p.chute ∧ (p.leaveLinks r o).late = p.late ∧
    (p.leaveLinks r o).alarm = p.alarm ∧ (p.leaveLinks r o).supply = p.supply ∧ (p.leaveLinks r o).lines = p.lines ∧
    (p.leaveLinks r o).choices = p.choices := by
  unfold Part.leaveLinks
  repeat' split
  all_goals simp

@[simp] theorem Part.endRelease_frame (r : Release) (o : ReleaseOutcome) :
    (p.endRelease r o).uptime = p.uptime ∧ (p.endRelease r o).chute = p.chute ∧ (p.endRelease r o).late = p.late ∧
    (p.endRelease r o).alarm = p.alarm ∧ (p.endRelease r o).supply = p.supply ∧
    (p.endRelease r o).choices = p.choices ∧ (p.endRelease r o).lines.branch = p.lines.branch ∧
    (p.endRelease r o).lines.service = p.lines.service ∧ (p.endRelease r o).lines.holdUntil = p.lines.holdUntil ∧
    (p.endRelease r o).lines.unitAddress = p.lines.unitAddress ∧
    (p.endRelease r o).lines.baudOpen = p.lines.baudOpen := by
  unfold Part.endRelease
  repeat' split
  all_goals simp

@[simp] theorem Part.endAll_frame (l : List Release) (o : ReleaseOutcome) :
    (p.endAll l o).uptime = p.uptime ∧ (p.endAll l o).chute = p.chute ∧ (p.endAll l o).late = p.late ∧
    (p.endAll l o).alarm = p.alarm ∧ (p.endAll l o).supply = p.supply ∧ (p.endAll l o).choices = p.choices ∧
    (p.endAll l o).lines.branch = p.lines.branch ∧ (p.endAll l o).lines.service = p.lines.service ∧
    (p.endAll l o).lines.holdUntil = p.lines.holdUntil ∧ (p.endAll l o).lines.unitAddress = p.lines.unitAddress ∧
    (p.endAll l o).lines.baudOpen = p.lines.baudOpen := by
  have h := foldl_keeps (fun p : Part => (p.uptime, p.chute, p.late, p.alarm, p.supply, p.choices, p.lines.branch, p.lines.service, p.lines.holdUntil, p.lines.unitAddress, p.lines.baudOpen))
    (fun (p : Part) (r : Release) => match p.findRelease r.number with | none => p | some r => p.endRelease r o)
    (fun p r => by split <;> simp) l p
  simp only [Prod.mk.injEq] at h
  exact h

@[simp] theorem Part.endHeld_frame (r : Release) :
    (p.endHeld r).uptime = p.uptime ∧ (p.endHeld r).chute = p.chute ∧ (p.endHeld r).late = p.late ∧
    (p.endHeld r).alarm = p.alarm ∧ (p.endHeld r).supply = p.supply ∧ (p.endHeld r).choices = p.choices ∧
    (p.endHeld r).lines.branch = p.lines.branch ∧ (p.endHeld r).lines.service = p.lines.service ∧
    (p.endHeld r).lines.holdUntil = p.lines.holdUntil ∧ (p.endHeld r).lines.unitAddress = p.lines.unitAddress ∧
    (p.endHeld r).lines.baudOpen = p.lines.baudOpen := by
  unfold Part.endHeld
  repeat' split
  all_goals simp

@[simp] theorem Part.strayVehicle_frame (u : Nat) :
    (p.strayVehicle u).uptime = p.uptime ∧ (p.strayVehicle u).chute = p.chute ∧ (p.strayVehicle u).late = p.late ∧
    (p.strayVehicle u).supply = p.supply ∧ (p.strayVehicle u).choices = p.choices ∧
    (p.strayVehicle u).lines.branch = p.lines.branch ∧ (p.strayVehicle u).lines.service = p.lines.service ∧
    (p.strayVehicle u).lines.holdUntil = p.lines.holdUntil ∧
    (p.strayVehicle u).lines.unitAddress = p.lines.unitAddress ∧
    (p.strayVehicle u).lines.baudOpen = p.lines.baudOpen := by
  unfold Part.strayVehicle
  repeat' split
  all_goals simp

@[simp] theorem Part.forcedRemoval_frame (x : SlotId) :
    (p.forcedRemoval x).uptime = p.uptime ∧ (p.forcedRemoval x).chute = p.chute ∧ (p.forcedRemoval x).late = p.late ∧
    (p.forcedRemoval x).supply = p.supply ∧ (p.forcedRemoval x).choices = p.choices ∧
    (p.forcedRemoval x).lines.branch = p.lines.branch ∧ (p.forcedRemoval x).lines.service = p.lines.service ∧
    (p.forcedRemoval x).lines.holdUntil = p.lines.holdUntil ∧
    (p.forcedRemoval x).lines.unitAddress = p.lines.unitAddress ∧
    (p.forcedRemoval x).lines.baudOpen = p.lines.baudOpen := by
  unfold Part.forcedRemoval
  dsimp only
  repeat' split
  all_goals simp_all

@[simp] theorem Part.takeVehicle_frame (t : Target) (m : Minute) :
    (p.takeVehicle t m).uptime = p.uptime ∧ (p.takeVehicle t m).columns = p.columns ∧
    (p.takeVehicle t m).sched = p.sched ∧ (p.takeVehicle t m).chute = p.chute ∧ (p.takeVehicle t m).late = p.late ∧
    (p.takeVehicle t m).supply = p.supply ∧ (p.takeVehicle t m).choices = p.choices ∧
    (p.takeVehicle t m).lines.branch = p.lines.branch ∧ (p.takeVehicle t m).lines.service = p.lines.service ∧
    (p.takeVehicle t m).lines.holdUntil = p.lines.holdUntil ∧
    (p.takeVehicle t m).lines.unitAddress = p.lines.unitAddress ∧
    (p.takeVehicle t m).lines.baudOpen = p.lines.baudOpen := by
  unfold Part.takeVehicle
  repeat' split
  all_goals simp

@[simp] theorem Part.take_frame (x : SlotId) (r : Release) :
    (p.take x r).uptime = p.uptime ∧ (p.take x r).chute = p.chute ∧ (p.take x r).late = p.late ∧
    (p.take x r).supply = p.supply ∧ (p.take x r).choices = p.choices ∧ (p.take x r).lines.branch = p.lines.branch ∧
    (p.take x r).lines.service = p.lines.service ∧ (p.take x r).lines.holdUntil = p.lines.holdUntil ∧
    (p.take x r).lines.unitAddress = p.lines.unitAddress ∧ (p.take x r).lines.baudOpen = p.lines.baudOpen := by
  unfold Part.take
  repeat' split
  all_goals simp

@[simp] theorem Part.removal_frame (x : SlotId) :
    (p.removal x).uptime = p.uptime ∧ (p.removal x).chute = p.chute ∧ (p.removal x).late = p.late ∧
    (p.removal x).supply = p.supply ∧ (p.removal x).choices = p.choices ∧
    (p.removal x).lines.branch = p.lines.branch ∧ (p.removal x).lines.service = p.lines.service ∧
    (p.removal x).lines.holdUntil = p.lines.holdUntil ∧ (p.removal x).lines.unitAddress = p.lines.unitAddress ∧
    (p.removal x).lines.baudOpen = p.lines.baudOpen := by
  unfold Part.removal
  repeat' split
  all_goals simp

@[simp] theorem Part.arrival_frame (x : SlotId) :
    (p.arrival x).uptime = p.uptime ∧ (p.arrival x).chute = p.chute ∧ (p.arrival x).late = p.late ∧
    (p.arrival x).supply = p.supply ∧ (p.arrival x).choices = p.choices ∧
    (p.arrival x).lines.branch = p.lines.branch ∧ (p.arrival x).lines.service = p.lines.service ∧
    (p.arrival x).lines.holdUntil = p.lines.holdUntil ∧ (p.arrival x).lines.unitAddress = p.lines.unitAddress ∧
    (p.arrival x).lines.baudOpen = p.lines.baudOpen := by
  unfold Part.arrival
  repeat' split
  all_goals simp

@[simp] theorem Part.returnEffects_frame (x : SlotId) (v : Vehicle) (m : Minute) :
    (p.returnEffects x v m).uptime = p.uptime ∧ (p.returnEffects x v m).columns = p.columns ∧
    (p.returnEffects x v m).sched = p.sched ∧ (p.returnEffects x v m).late = p.late ∧
    (p.returnEffects x v m).supply = p.supply ∧ (p.returnEffects x v m).choices = p.choices ∧
    (p.returnEffects x v m).lines.branch = p.lines.branch ∧ (p.returnEffects x v m).lines.service = p.lines.service ∧
    (p.returnEffects x v m).lines.holdUntil = p.lines.holdUntil ∧
    (p.returnEffects x v m).lines.unitAddress = p.lines.unitAddress ∧
    (p.returnEffects x v m).lines.baudOpen = p.lines.baudOpen := by
  unfold Part.returnEffects
  repeat' split
  all_goals simp

@[simp] theorem Part.misplacement_frame (x : SlotId) (u : Nat) (m : Minute) :
    (p.misplacement x u m).uptime = p.uptime ∧ (p.misplacement x u m).columns = p.columns ∧
    (p.misplacement x u m).fleet = p.fleet ∧ (p.misplacement x u m).sched = p.sched ∧
    (p.misplacement x u m).book = p.book ∧ (p.misplacement x u m).chute = p.chute ∧
    (p.misplacement x u m).late = p.late ∧ (p.misplacement x u m).alarm = p.alarm ∧
    (p.misplacement x u m).supply = p.supply ∧ (p.misplacement x u m).choices = p.choices ∧
    (p.misplacement x u m).lines.branch = p.lines.branch ∧ (p.misplacement x u m).lines.service = p.lines.service ∧
    (p.misplacement x u m).lines.holdUntil = p.lines.holdUntil ∧
    (p.misplacement x u m).lines.unitAddress = p.lines.unitAddress ∧
    (p.misplacement x u m).lines.baudOpen = p.lines.baudOpen := by
  unfold Part.misplacement
  repeat' split
  all_goals simp

@[simp] theorem Part.bind_frame (x : SlotId) (v : Vehicle) (m : Minute) :
    (p.bind x v m).uptime = p.uptime ∧ (p.bind x v m).late = p.late ∧ (p.bind x v m).supply = p.supply ∧
    (p.bind x v m).choices = p.choices ∧ (p.bind x v m).lines.branch = p.lines.branch ∧
    (p.bind x v m).lines.service = p.lines.service ∧ (p.bind x v m).lines.holdUntil = p.lines.holdUntil ∧
    (p.bind x v m).lines.unitAddress = p.lines.unitAddress ∧ (p.bind x v m).lines.baudOpen = p.lines.baudOpen := by
  unfold Part.bind
  repeat' split
  all_goals simp

@[simp] theorem Part.makeForeign_frame (x : SlotId) (t : Nat) (q : ForeignReason) (m : Minute) (k : AlarmKind) :
    (p.makeForeign x t q m k).uptime = p.uptime ∧ (p.makeForeign x t q m k).fleet = p.fleet ∧
    (p.makeForeign x t q m k).sched = p.sched ∧ (p.makeForeign x t q m k).book = p.book ∧
    (p.makeForeign x t q m k).chute = p.chute ∧ (p.makeForeign x t q m k).late = p.late ∧
    (p.makeForeign x t q m k).supply = p.supply ∧ (p.makeForeign x t q m k).choices = p.choices ∧
    (p.makeForeign x t q m k).lines.branch = p.lines.branch ∧
    (p.makeForeign x t q m k).lines.service = p.lines.service ∧
    (p.makeForeign x t q m k).lines.holdUntil = p.lines.holdUntil ∧
    (p.makeForeign x t q m k).lines.unitAddress = p.lines.unitAddress ∧
    (p.makeForeign x t q m k).lines.baudOpen = p.lines.baudOpen := by
  unfold Part.makeForeign
  repeat' split
  all_goals simp

@[simp] theorem Part.identify_frame (x : SlotId) (m : Minute) (o : ReadOutcome) :
    (p.identify x m o).uptime = p.uptime ∧ (p.identify x m o).late = p.late ∧ (p.identify x m o).supply = p.supply ∧
    (p.identify x m o).choices = p.choices ∧ (p.identify x m o).lines.branch = p.lines.branch ∧
    (p.identify x m o).lines.service = p.lines.service ∧ (p.identify x m o).lines.holdUntil = p.lines.holdUntil ∧
    (p.identify x m o).lines.unitAddress = p.lines.unitAddress ∧
    (p.identify x m o).lines.baudOpen = p.lines.baudOpen := by
  unfold Part.identify
  dsimp only
  repeat' split
  all_goals simp_all

@[simp] theorem Part.swap_frame (x : SlotId) (t k : Nat) :
    (p.swap x t k).uptime = p.uptime ∧ (p.swap x t k).late = p.late ∧ (p.swap x t k).supply = p.supply ∧
    (p.swap x t k).choices = p.choices ∧ (p.swap x t k).lines.branch = p.lines.branch ∧
    (p.swap x t k).lines.service = p.lines.service ∧ (p.swap x t k).lines.holdUntil = p.lines.holdUntil ∧
    (p.swap x t k).lines.unitAddress = p.lines.unitAddress ∧ (p.swap x t k).lines.baudOpen = p.lines.baudOpen := by
  unfold Part.swap
  repeat' split
  all_goals simp

@[simp] theorem Part.confirmHeld_frame (x : SlotId) (t u : Nat) (m : Minute) (o : ReadOutcome) :
    (p.confirmHeld x t u m o).uptime = p.uptime ∧ (p.confirmHeld x t u m o).late = p.late ∧
    (p.confirmHeld x t u m o).supply = p.supply ∧ (p.confirmHeld x t u m o).choices = p.choices ∧
    (p.confirmHeld x t u m o).lines.branch = p.lines.branch ∧
    (p.confirmHeld x t u m o).lines.service = p.lines.service ∧
    (p.confirmHeld x t u m o).lines.holdUntil = p.lines.holdUntil ∧
    (p.confirmHeld x t u m o).lines.unitAddress = p.lines.unitAddress ∧
    (p.confirmHeld x t u m o).lines.baudOpen = p.lines.baudOpen := by
  unfold Part.confirmHeld
  repeat' split
  all_goals simp

@[simp] theorem Part.confirmForeign_frame (x : SlotId) (t : Nat) (q : ForeignReason) (m : Minute) (b : Bool) (o : ReadOutcome) :
    (p.confirmForeign x t q m b o).uptime = p.uptime ∧ (p.confirmForeign x t q m b o).late = p.late ∧
    (p.confirmForeign x t q m b o).supply = p.supply ∧ (p.confirmForeign x t q m b o).choices = p.choices ∧
    (p.confirmForeign x t q m b o).lines.branch = p.lines.branch ∧
    (p.confirmForeign x t q m b o).lines.service = p.lines.service ∧
    (p.confirmForeign x t q m b o).lines.holdUntil = p.lines.holdUntil ∧
    (p.confirmForeign x t q m b o).lines.unitAddress = p.lines.unitAddress ∧
    (p.confirmForeign x t q m b o).lines.baudOpen = p.lines.baudOpen := by
  unfold Part.confirmForeign
  repeat' split
  all_goals simp

@[simp] theorem Part.verify_frame (x : SlotId) (r : Release) (t u : Nat) (m : Minute) (k : VehicleKind) (o : ReadOutcome) :
    (p.verify x r t u m k o).uptime = p.uptime ∧ (p.verify x r t u m k o).late = p.late ∧
    (p.verify x r t u m k o).supply = p.supply ∧ (p.verify x r t u m k o).choices = p.choices ∧
    (p.verify x r t u m k o).lines.branch = p.lines.branch ∧
    (p.verify x r t u m k o).lines.service = p.lines.service ∧
    (p.verify x r t u m k o).lines.holdUntil = p.lines.holdUntil ∧
    (p.verify x r t u m k o).lines.unitAddress = p.lines.unitAddress ∧
    (p.verify x r t u m k o).lines.baudOpen = p.lines.baudOpen := by
  unfold Part.verify
  repeat' split
  all_goals simp

@[simp] theorem Part.readOutcome_frame (x : SlotId) (b : Bool) (o : ReadOutcome) :
    (p.readOutcome x b o).uptime = p.uptime ∧ (p.readOutcome x b o).late = p.late ∧
    (p.readOutcome x b o).supply = p.supply ∧ (p.readOutcome x b o).choices = p.choices ∧
    (p.readOutcome x b o).lines.branch = p.lines.branch ∧ (p.readOutcome x b o).lines.service = p.lines.service ∧
    (p.readOutcome x b o).lines.holdUntil = p.lines.holdUntil ∧
    (p.readOutcome x b o).lines.unitAddress = p.lines.unitAddress ∧
    (p.readOutcome x b o).lines.baudOpen = p.lines.baudOpen := by
  unfold Part.readOutcome
  dsimp only
  repeat' split
  all_goals simp_all

@[simp] theorem Part.latchFault_frame (x : SlotId) :
    (p.latchFault x).uptime = p.uptime ∧ (p.latchFault x).chute = p.chute ∧ (p.latchFault x).late = p.late ∧
    (p.latchFault x).supply = p.supply ∧ (p.latchFault x).choices = p.choices ∧
    (p.latchFault x).lines.branch = p.lines.branch ∧ (p.latchFault x).lines.service = p.lines.service ∧
    (p.latchFault x).lines.holdUntil = p.lines.holdUntil ∧ (p.latchFault x).lines.unitAddress = p.lines.unitAddress ∧
    (p.latchFault x).lines.baudOpen = p.lines.baudOpen := by
  unfold Part.latchFault
  repeat' split
  all_goals simp

@[simp] theorem Part.foundGone_frame (x : SlotId) (u : Nat) :
    (p.foundGone x u).uptime = p.uptime ∧ (p.foundGone x u).sched = p.sched ∧ (p.foundGone x u).book = p.book ∧
    (p.foundGone x u).chute = p.chute ∧ (p.foundGone x u).late = p.late ∧ (p.foundGone x u).supply = p.supply ∧
    (p.foundGone x u).choices = p.choices ∧ (p.foundGone x u).lines.branch = p.lines.branch ∧
    (p.foundGone x u).lines.service = p.lines.service ∧ (p.foundGone x u).lines.holdUntil = p.lines.holdUntil ∧
    (p.foundGone x u).lines.unitAddress = p.lines.unitAddress ∧
    (p.foundGone x u).lines.baudOpen = p.lines.baudOpen := by
  unfold Part.foundGone
  repeat' split
  all_goals simp

@[simp] theorem Part.foundEmpty_frame (x : SlotId) :
    (p.foundEmpty x).uptime = p.uptime ∧ (p.foundEmpty x).fleet = p.fleet ∧ (p.foundEmpty x).sched = p.sched ∧
    (p.foundEmpty x).book = p.book ∧ (p.foundEmpty x).chute = p.chute ∧ (p.foundEmpty x).late = p.late ∧
    (p.foundEmpty x).supply = p.supply ∧ (p.foundEmpty x).choices = p.choices ∧
    (p.foundEmpty x).lines.branch = p.lines.branch ∧ (p.foundEmpty x).lines.service = p.lines.service ∧
    (p.foundEmpty x).lines.holdUntil = p.lines.holdUntil ∧ (p.foundEmpty x).lines.unitAddress = p.lines.unitAddress ∧
    (p.foundEmpty x).lines.baudOpen = p.lines.baudOpen := by
  unfold Part.foundEmpty
  repeat' split
  all_goals simp

@[simp] theorem Part.compareReturned_frame (x : SlotId) :
    (p.compareReturned x).uptime = p.uptime ∧ (p.compareReturned x).chute = p.chute ∧
    (p.compareReturned x).late = p.late ∧ (p.compareReturned x).supply = p.supply ∧
    (p.compareReturned x).choices = p.choices ∧ (p.compareReturned x).lines.branch = p.lines.branch ∧
    (p.compareReturned x).lines.service = p.lines.service ∧
    (p.compareReturned x).lines.holdUntil = p.lines.holdUntil ∧
    (p.compareReturned x).lines.unitAddress = p.lines.unitAddress ∧
    (p.compareReturned x).lines.baudOpen = p.lines.baudOpen := by
  unfold Part.compareReturned
  repeat' split
  all_goals simp

@[simp] theorem Part.countSettled_frame (b : Bool) :
    (p.countSettled b).uptime = p.uptime ∧ (p.countSettled b).columns = p.columns ∧
    (p.countSettled b).fleet = p.fleet ∧ (p.countSettled b).sched = p.sched ∧ (p.countSettled b).book = p.book ∧
    (p.countSettled b).chute = p.chute ∧ (p.countSettled b).late = p.late ∧ (p.countSettled b).alarm = p.alarm ∧
    (p.countSettled b).lines = p.lines ∧ (p.countSettled b).choices = p.choices := by
  unfold Part.countSettled
  repeat' split
  all_goals simp

@[simp] theorem Part.settlePower_frame (x : SlotId) (u : Nat) (k : VehicleKind) :
    (p.settlePower x u k).uptime = p.uptime ∧ (p.settlePower x u k).chute = p.chute ∧
    (p.settlePower x u k).late = p.late ∧ (p.settlePower x u k).choices = p.choices ∧
    (p.settlePower x u k).lines.branch = p.lines.branch ∧ (p.settlePower x u k).lines.service = p.lines.service ∧
    (p.settlePower x u k).lines.holdUntil = p.lines.holdUntil ∧
    (p.settlePower x u k).lines.unitAddress = p.lines.unitAddress ∧
    (p.settlePower x u k).lines.baudOpen = p.lines.baudOpen := by
  unfold Part.settlePower
  dsimp only
  repeat' split
  all_goals simp_all

@[simp] theorem Part.settleTaken_frame (x : SlotId) (u : Nat) (k : VehicleKind) (m : Minute) :
    (p.settleTaken x u k m).uptime = p.uptime ∧ (p.settleTaken x u k m).chute = p.chute ∧
    (p.settleTaken x u k m).late = p.late ∧ (p.settleTaken x u k m).choices = p.choices ∧
    (p.settleTaken x u k m).lines.branch = p.lines.branch ∧ (p.settleTaken x u k m).lines.service = p.lines.service ∧
    (p.settleTaken x u k m).lines.holdUntil = p.lines.holdUntil ∧
    (p.settleTaken x u k m).lines.unitAddress = p.lines.unitAddress ∧
    (p.settleTaken x u k m).lines.baudOpen = p.lines.baudOpen := by
  unfold Part.settleTaken
  repeat' split
  all_goals simp

@[simp] theorem Part.compareSlot_frame (x : SlotId) (m : Minute) :
    (p.compareSlot x m).uptime = p.uptime ∧ (p.compareSlot x m).chute = p.chute ∧ (p.compareSlot x m).late = p.late ∧
    (p.compareSlot x m).choices = p.choices ∧ (p.compareSlot x m).lines.branch = p.lines.branch ∧
    (p.compareSlot x m).lines.service = p.lines.service ∧ (p.compareSlot x m).lines.holdUntil = p.lines.holdUntil ∧
    (p.compareSlot x m).lines.unitAddress = p.lines.unitAddress ∧
    (p.compareSlot x m).lines.baudOpen = p.lines.baudOpen := by
  unfold Part.compareSlot
  repeat' split
  all_goals simp

@[simp] theorem Part.followAudit_frame (c : ColId) :
    (p.followAudit c).uptime = p.uptime ∧ (p.followAudit c).fleet = p.fleet ∧ (p.followAudit c).sched = p.sched ∧
    (p.followAudit c).book = p.book ∧ (p.followAudit c).chute = p.chute ∧ (p.followAudit c).late = p.late ∧
    (p.followAudit c).alarm = p.alarm ∧ (p.followAudit c).supply = p.supply ∧ (p.followAudit c).lines = p.lines ∧
    (p.followAudit c).choices = p.choices := by
  unfold Part.followAudit
  repeat' split
  all_goals simp

@[simp] theorem Part.followAudits_frame :
    (p.followAudits).uptime = p.uptime ∧ (p.followAudits).fleet = p.fleet ∧ (p.followAudits).sched = p.sched ∧
    (p.followAudits).book = p.book ∧ (p.followAudits).chute = p.chute ∧ (p.followAudits).late = p.late ∧
    (p.followAudits).alarm = p.alarm ∧ (p.followAudits).supply = p.supply ∧ (p.followAudits).lines = p.lines ∧
    (p.followAudits).choices = p.choices := by
  have h := foldl_keeps (fun p : Part => (p.uptime, p.fleet, p.sched, p.book, p.chute, p.late, p.alarm, p.supply, p.lines, p.choices)) Part.followAudit (fun p c => by simp) allCols p
  simpa [Part.followAudits] using h

@[simp] theorem Part.startReader_frame (c : ColId) :
    (p.startReader c).uptime = p.uptime ∧ (p.startReader c).fleet = p.fleet ∧ (p.startReader c).sched = p.sched ∧
    (p.startReader c).book = p.book ∧ (p.startReader c).chute = p.chute ∧ (p.startReader c).late = p.late ∧
    (p.startReader c).alarm = p.alarm ∧ (p.startReader c).supply = p.supply ∧ (p.startReader c).lines = p.lines ∧
    (p.startReader c).choices = p.choices := by
  unfold Part.startReader
  dsimp only
  repeat' split
  all_goals simp_all

@[simp] theorem Part.startReaders_frame :
    (p.startReaders).uptime = p.uptime ∧ (p.startReaders).fleet = p.fleet ∧ (p.startReaders).sched = p.sched ∧
    (p.startReaders).book = p.book ∧ (p.startReaders).chute = p.chute ∧ (p.startReaders).late = p.late ∧
    (p.startReaders).alarm = p.alarm ∧ (p.startReaders).supply = p.supply ∧ (p.startReaders).lines = p.lines ∧
    (p.startReaders).choices = p.choices := by
  have h := foldl_keeps (fun p : Part => (p.uptime, p.fleet, p.sched, p.book, p.chute, p.late, p.alarm, p.supply, p.lines, p.choices)) Part.startReader (fun p c => by simp) allCols p
  simpa [Part.startReaders] using h

@[simp] theorem Part.enterRunning_frame (c : ColId) :
    (p.enterRunning c).uptime = p.uptime ∧ (p.enterRunning c).fleet = p.fleet ∧ (p.enterRunning c).book = p.book ∧
    (p.enterRunning c).chute = p.chute ∧ (p.enterRunning c).late = p.late ∧ (p.enterRunning c).supply = p.supply ∧
    (p.enterRunning c).choices = p.choices ∧ (p.enterRunning c).lines.branch = p.lines.branch ∧
    (p.enterRunning c).lines.service = p.lines.service ∧ (p.enterRunning c).lines.holdUntil = p.lines.holdUntil ∧
    (p.enterRunning c).lines.unitAddress = p.lines.unitAddress ∧
    (p.enterRunning c).lines.baudOpen = p.lines.baudOpen := by
  unfold Part.enterRunning
  dsimp only
  repeat' split
  all_goals simp_all

@[simp] theorem Part.settle_frame :
    (p.settle).uptime = p.uptime ∧ (p.settle).fleet = p.fleet ∧ (p.settle).book = p.book ∧
    (p.settle).chute = p.chute ∧ (p.settle).late = p.late ∧ (p.settle).supply = p.supply ∧
    (p.settle).choices = p.choices ∧ (p.settle).lines.branch = p.lines.branch ∧
    (p.settle).lines.service = p.lines.service ∧ (p.settle).lines.holdUntil = p.lines.holdUntil ∧
    (p.settle).lines.unitAddress = p.lines.unitAddress ∧ (p.settle).lines.baudOpen = p.lines.baudOpen := by
  have h := foldl_keeps (fun p : Part => (p.uptime, p.fleet, p.book, p.chute, p.late, p.supply, p.choices, p.lines.branch, p.lines.service, p.lines.holdUntil, p.lines.unitAddress, p.lines.baudOpen)) Part.enterRunning (fun p c => by simp) allCols p
  unfold Part.settle
  split
  · simp
  · simpa using h

@[simp] theorem Part.loseColumn_frame (c : ColId) :
    (p.loseColumn c).uptime = p.uptime ∧ (p.loseColumn c).chute = p.chute ∧ (p.loseColumn c).late = p.late ∧
    (p.loseColumn c).supply = p.supply ∧ (p.loseColumn c).choices = p.choices ∧
    (p.loseColumn c).lines.branch = p.lines.branch ∧ (p.loseColumn c).lines.service = p.lines.service ∧
    (p.loseColumn c).lines.holdUntil = p.lines.holdUntil ∧ (p.loseColumn c).lines.unitAddress = p.lines.unitAddress ∧
    (p.loseColumn c).lines.baudOpen = p.lines.baudOpen := by
  unfold Part.loseColumn
  repeat' split
  all_goals simp

@[simp] theorem Part.supplyAlarms_frame (a b : Mode) :
    (p.supplyAlarms a b).uptime = p.uptime ∧ (p.supplyAlarms a b).columns = p.columns ∧
    (p.supplyAlarms a b).fleet = p.fleet ∧ (p.supplyAlarms a b).sched = p.sched ∧
    (p.supplyAlarms a b).book = p.book ∧ (p.supplyAlarms a b).chute = p.chute ∧ (p.supplyAlarms a b).late = p.late ∧
    (p.supplyAlarms a b).supply = p.supply ∧ (p.supplyAlarms a b).choices = p.choices ∧
    (p.supplyAlarms a b).lines.branch = p.lines.branch ∧ (p.supplyAlarms a b).lines.service = p.lines.service ∧
    (p.supplyAlarms a b).lines.holdUntil = p.lines.holdUntil ∧
    (p.supplyAlarms a b).lines.unitAddress = p.lines.unitAddress ∧
    (p.supplyAlarms a b).lines.baudOpen = p.lines.baudOpen := by
  unfold Part.supplyAlarms
  repeat' split
  all_goals simp

@[simp] theorem shed_frame (n : Nat) :
    (shed n p).uptime = p.uptime ∧ (shed n p).chute = p.chute ∧ (shed n p).late = p.late ∧
    (shed n p).alarm = p.alarm ∧ (shed n p).supply = p.supply ∧ (shed n p).choices = p.choices ∧
    (shed n p).lines.branch = p.lines.branch ∧ (shed n p).lines.service = p.lines.service ∧
    (shed n p).lines.holdUntil = p.lines.holdUntil ∧ (shed n p).lines.unitAddress = p.lines.unitAddress ∧
    (shed n p).lines.baudOpen = p.lines.baudOpen := by
  induction n generalizing p with
  | zero => simp [shed]
  | succ n ih =>
    unfold shed
    repeat' split
    all_goals simp [ih]

@[simp] theorem Part.shedReleases_frame :
    (p.shedReleases).uptime = p.uptime ∧ (p.shedReleases).chute = p.chute ∧ (p.shedReleases).late = p.late ∧
    (p.shedReleases).alarm = p.alarm ∧ (p.shedReleases).supply = p.supply ∧ (p.shedReleases).choices = p.choices ∧
    (p.shedReleases).lines.branch = p.lines.branch ∧ (p.shedReleases).lines.service = p.lines.service ∧
    (p.shedReleases).lines.holdUntil = p.lines.holdUntil ∧ (p.shedReleases).lines.unitAddress = p.lines.unitAddress ∧
    (p.shedReleases).lines.baudOpen = p.lines.baudOpen := by
  unfold Part.shedReleases
  repeat' split
  all_goals simp

@[simp] theorem Part.changeMode_frame (m : Mode) :
    (p.changeMode m).uptime = p.uptime ∧ (p.changeMode m).chute = p.chute ∧ (p.changeMode m).late = p.late ∧
    (p.changeMode m).choices = p.choices ∧ (p.changeMode m).lines.branch = p.lines.branch ∧
    (p.changeMode m).lines.service = p.lines.service ∧ (p.changeMode m).lines.holdUntil = p.lines.holdUntil ∧
    (p.changeMode m).lines.unitAddress = p.lines.unitAddress ∧
    (p.changeMode m).lines.baudOpen = p.lines.baudOpen := by
  unfold Part.changeMode
  repeat' split
  all_goals simp

end Sys2Proof.Machine
end

