-- ==== Sys2Proof/Laws/PerInstr.lean ====
section
/-! SUPPORT. A family of statements made command by command: what the body of a request frame looks like. -/

namespace Sys2Proof.Laws

open Sys2Proof

/-- The bytes of a number are as many as asked for. -/
theorem bytesOf_length (k n : Nat) : (Machine.bytesOf k n).length = k := by
  induction k with
  | zero => rfl
  | succ k ih => simp [Machine.bytesOf, ih]

/-- A field takes the bytes Table 11.2 gives it. -/
@[simp] theorem writeField_length {w : Nat} (k : Nat) (v : BitVec w) : (writeField k v).length = k :=
  bytesOf_length k v.toNat

/-- The request kind of a command that a request frame carries is one of Table 11.2, and its body fits a frame: no
request body is longer than that of OPEN CONTRACT, 19 bytes (R162, R172). -/
def BodyFits.Statement (c : Instr) : Prop :=
  ∀ h kind body, encodeRequest c = some (h, kind, body) → namesKind kind = true ∧ body.length ≤ 19

/-- A command whose frame is written out. -/
theorem BodyFits.of_eq {c : Instr} {h : ReqHdr} {kind : Byte} {body : List Byte}
    (e : encodeRequest c = some (h, kind, body)) (k : namesKind kind = true) (l : body.length ≤ 19) :
    BodyFits.Statement c := by
  intro h' kind' body' e'
  rw [e] at e'
  cases e'
  exact ⟨k, l⟩

/-- A command that no request frame carries. -/
theorem BodyFits.of_none {c : Instr} (e : encodeRequest c = none) : BodyFits.Statement c := by
  intro h kind body e'
  rw [e] at e'
  cases e'

theorem BodyFits.identify : ∀ a0, BodyFits.Statement (.identify a0) := fun a0 =>
  BodyFits.of_eq (c := .identify a0) rfl (by decide) (by simp)

theorem BodyFits.status : ∀ a0, BodyFits.Statement (.status a0) := fun a0 =>
  BodyFits.of_eq (c := .status a0) rfl (by decide) (by simp)

theorem BodyFits.fetchNotices : ∀ a0, BodyFits.Statement (.fetchNotices a0) := fun a0 =>
  BodyFits.of_eq (c := .fetchNotices a0) rfl (by decide) (by simp)

theorem BodyFits.readSlot : ∀ a0 a1 a2, BodyFits.Statement (.readSlot a0 a1 a2) := fun a0 a1 a2 =>
  BodyFits.of_eq (c := .readSlot a0 a1 a2) rfl (by decide) (by simp)

theorem BodyFits.readVehicle : ∀ a0 a1 a2, BodyFits.Statement (.readVehicle a0 a1 a2) := fun a0 a1 a2 =>
  BodyFits.of_eq (c := .readVehicle a0 a1 a2) rfl (by decide) (by simp)

theorem BodyFits.readContract : ∀ a0 a1, BodyFits.Statement (.readContract a0 a1) := fun a0 a1 =>
  BodyFits.of_eq (c := .readContract a0 a1) rfl (by decide) (by simp)

theorem BodyFits.listDue : ∀ a0 a1, BodyFits.Statement (.listDue a0 a1) := fun a0 a1 =>
  BodyFits.of_eq (c := .listDue a0 a1) rfl (by decide) (by simp)

theorem BodyFits.listClosed : ∀ a0 a1, BodyFits.Statement (.listClosed a0 a1) := fun a0 a1 =>
  BodyFits.of_eq (c := .listClosed a0 a1) rfl (by decide) (by simp)

theorem BodyFits.listChute : ∀ a0 a1, BodyFits.Statement (.listChute a0 a1) := fun a0 a1 =>
  BodyFits.of_eq (c := .listChute a0 a1) rfl (by decide) (by simp)

theorem BodyFits.listAlarms : ∀ a0 a1, BodyFits.Statement (.listAlarms a0 a1) := fun a0 a1 =>
  BodyFits.of_eq (c := .listAlarms a0 a1) rfl (by decide) (by simp)

theorem BodyFits.readSettings : ∀ a0, BodyFits.Statement (.readSettings a0) := fun a0 =>
  BodyFits.of_eq (c := .readSettings a0) rfl (by decide) (by simp)

theorem BodyFits.setClock : ∀ a0 a1, BodyFits.Statement (.setClock a0 a1) := fun a0 a1 =>
  BodyFits.of_eq (c := .setClock a0 a1) rfl (by decide) (by simp)

theorem BodyFits.configure : ∀ a0 a1 a2 a3 a4 a5 a6 a7, BodyFits.Statement (.configure a0 a1 a2 a3 a4 a5 a6 a7) := fun a0 a1 a2 a3 a4 a5 a6 a7 =>
  BodyFits.of_eq (c := .configure a0 a1 a2 a3 a4 a5 a6 a7) rfl (by decide) (by simp)

theorem BodyFits.enrolVehicle : ∀ a0 a1 a2 a3, BodyFits.Statement (.enrolVehicle a0 a1 a2 a3) := fun a0 a1 a2 a3 =>
  BodyFits.of_eq (c := .enrolVehicle a0 a1 a2 a3) rfl (by decide) (by simp)

theorem BodyFits.retireVehicle : ∀ a0 a1, BodyFits.Statement (.retireVehicle a0 a1) := fun a0 a1 =>
  BodyFits.of_eq (c := .retireVehicle a0 a1) rfl (by decide) (by simp)

theorem BodyFits.setHomeSlot : ∀ a0 a1 a2, BodyFits.Statement (.setHomeSlot a0 a1 a2) := fun a0 a1 a2 =>
  BodyFits.of_eq (c := .setHomeSlot a0 a1 a2) rfl (by decide) (by simp)

theorem BodyFits.holdVehicle : ∀ a0 a1, BodyFits.Statement (.holdVehicle a0 a1) := fun a0 a1 =>
  BodyFits.of_eq (c := .holdVehicle a0 a1) rfl (by decide) (by simp)

theorem BodyFits.unholdVehicle : ∀ a0 a1, BodyFits.Statement (.unholdVehicle a0 a1) := fun a0 a1 =>
  BodyFits.of_eq (c := .unholdVehicle a0 a1) rfl (by decide) (by simp)

theorem BodyFits.accountVehicle : ∀ a0 a1, BodyFits.Statement (.accountVehicle a0 a1) := fun a0 a1 =>
  BodyFits.of_eq (c := .accountVehicle a0 a1) rfl (by decide) (by simp)

theorem BodyFits.locate : ∀ a0 a1 a2, BodyFits.Statement (.locate a0 a1 a2) := fun a0 a1 a2 =>
  BodyFits.of_eq (c := .locate a0 a1 a2) rfl (by decide) (by simp)

theorem BodyFits.openContract : ∀ a0 a1 a2 a3 a4 a5 a6 a7, BodyFits.Statement (.openContract a0 a1 a2 a3 a4 a5 a6 a7) := fun a0 a1 a2 a3 a4 a5 a6 a7 =>
  BodyFits.of_eq (c := .openContract a0 a1 a2 a3 a4 a5 a6 a7) rfl (by decide) (by simp)

theorem BodyFits.extendContract : ∀ a0 a1 a2, BodyFits.Statement (.extendContract a0 a1 a2) := fun a0 a1 a2 =>
  BodyFits.of_eq (c := .extendContract a0 a1 a2) rfl (by decide) (by simp)

theorem BodyFits.closeContract : ∀ a0 a1 a2, BodyFits.Statement (.closeContract a0 a1 a2) := fun a0 a1 a2 =>
  BodyFits.of_eq (c := .closeContract a0 a1 a2) rfl (by decide) (by simp)

theorem BodyFits.release : ∀ a0 a1 a2 a3, BodyFits.Statement (.release a0 a1 a2 a3) := fun a0 a1 a2 a3 =>
  BodyFits.of_eq (c := .release a0 a1 a2 a3) rfl (by decide) (by simp)

theorem BodyFits.cancelRelease : ∀ a0 a1, BodyFits.Statement (.cancelRelease a0 a1) := fun a0 a1 =>
  BodyFits.of_eq (c := .cancelRelease a0 a1) rfl (by decide) (by simp)

theorem BodyFits.slotServiceOff : ∀ a0 a1 a2, BodyFits.Statement (.slotServiceOff a0 a1 a2) := fun a0 a1 a2 =>
  BodyFits.of_eq (c := .slotServiceOff a0 a1 a2) rfl (by decide) (by simp)

theorem BodyFits.slotServiceOn : ∀ a0 a1, BodyFits.Statement (.slotServiceOn a0 a1) := fun a0 a1 =>
  BodyFits.of_eq (c := .slotServiceOn a0 a1) rfl (by decide) (by simp)

theorem BodyFits.chuteEmptied : ∀ a0, BodyFits.Statement (.chuteEmptied a0) := fun a0 =>
  BodyFits.of_eq (c := .chuteEmptied a0) rfl (by decide) (by simp)

theorem BodyFits.ackAlarm : ∀ a0 a1 a2, BodyFits.Statement (.ackAlarm a0 a1 a2) := fun a0 a1 a2 =>
  BodyFits.of_eq (c := .ackAlarm a0 a1 a2) rfl (by decide) (by simp)

theorem BodyFits.ackAlarmAll : ∀ a0 a1, BodyFits.Statement (.ackAlarmAll a0 a1) := fun a0 a1 =>
  BodyFits.of_eq (c := .ackAlarmAll a0 a1) rfl (by decide) (by simp)

theorem BodyFits.restart : ∀ a0 a1, BodyFits.Statement (.restart a0 a1) := fun a0 a1 =>
  BodyFits.of_eq (c := .restart a0 a1) rfl (by decide) (by simp)

theorem BodyFits.serviceHoldOn : ∀ a0, BodyFits.Statement (.serviceHoldOn a0) := fun a0 =>
  BodyFits.of_eq (c := .serviceHoldOn a0) rfl (by decide) (by simp)

theorem BodyFits.serviceHoldOff : ∀ a0 a1, BodyFits.Statement (.serviceHoldOff a0 a1) := fun a0 a1 =>
  BodyFits.of_eq (c := .serviceHoldOff a0 a1) rfl (by decide) (by simp)

theorem BodyFits.factoryClear : ∀ a0 a1, BodyFits.Statement (.factoryClear a0 a1) := fun a0 a1 =>
  BodyFits.of_eq (c := .factoryClear a0 a1) rfl (by decide) (by simp)

theorem BodyFits.unknownKind : ∀ a0 a1, BodyFits.Statement (.unknownKind a0 a1) := fun a0 a1 =>
  BodyFits.of_none (c := .unknownKind a0 a1) rfl

theorem BodyFits.frameDiscarded : ∀ a0, BodyFits.Statement (.frameDiscarded a0) := fun a0 =>
  BodyFits.of_none (c := .frameDiscarded a0) rfl

theorem BodyFits.frameGapTimeout : ∀ a0, BodyFits.Statement (.frameGapTimeout a0) := fun a0 =>
  BodyFits.of_none (c := .frameGapTimeout a0) rfl

theorem BodyFits.frameIgnored : ∀ a0, BodyFits.Statement (.frameIgnored a0) := fun a0 =>
  BodyFits.of_none (c := .frameIgnored a0) rfl

theorem BodyFits.lineOverrun : ∀ a0, BodyFits.Statement (.lineOverrun a0) := fun a0 =>
  BodyFits.of_none (c := .lineOverrun a0) rfl

theorem BodyFits.replySent : ∀ a0, BodyFits.Statement (.replySent a0) := fun a0 =>
  BodyFits.of_none (c := .replySent a0) rfl

theorem BodyFits.presenceContactChange : ∀ a0 a1, BodyFits.Statement (.presenceContactChange a0 a1) := fun a0 a1 =>
  BodyFits.of_none (c := .presenceContactChange a0 a1) rfl

theorem BodyFits.candidateQualified : ∀ a0, BodyFits.Statement (.candidateQualified a0) := fun a0 =>
  BodyFits.of_none (c := .candidateQualified a0) rfl

theorem BodyFits.latchSenseChange : ∀ a0 a1, BodyFits.Statement (.latchSenseChange a0 a1) := fun a0 a1 =>
  BodyFits.of_none (c := .latchSenseChange a0 a1) rfl

theorem BodyFits.strikeConfirmTimeout : ∀ a0, BodyFits.Statement (.strikeConfirmTimeout a0) := fun a0 =>
  BodyFits.of_none (c := .strikeConfirmTimeout a0) rfl

theorem BodyFits.heldOpenClosedTimeout : ∀ a0, BodyFits.Statement (.heldOpenClosedTimeout a0) := fun a0 =>
  BodyFits.of_none (c := .heldOpenClosedTimeout a0) rfl

theorem BodyFits.closingConfirmTimeout : ∀ a0, BodyFits.Statement (.closingConfirmTimeout a0) := fun a0 =>
  BodyFits.of_none (c := .closingConfirmTimeout a0) rfl

theorem BodyFits.uncommandedOpen : ∀ a0, BodyFits.Statement (.uncommandedOpen a0) := fun a0 =>
  BodyFits.of_none (c := .uncommandedOpen a0) rfl

theorem BodyFits.boardSilenceTimeout : ∀ a0, BodyFits.Statement (.boardSilenceTimeout a0) := fun a0 =>
  BodyFits.of_none (c := .boardSilenceTimeout a0) rfl

theorem BodyFits.columnProbe : ∀ a0 a1, BodyFits.Statement (.columnProbe a0 a1) := fun a0 a1 =>
  BodyFits.of_none (c := .columnProbe a0 a1) rfl

theorem BodyFits.readAttemptEnd : ∀ a0 a1, BodyFits.Statement (.readAttemptEnd a0 a1) := fun a0 a1 =>
  BodyFits.of_none (c := .readAttemptEnd a0 a1) rfl

theorem BodyFits.auditTick : ∀ a0, BodyFits.Statement (.auditTick a0) := fun a0 =>
  BodyFits.of_none (c := .auditTick a0) rfl

theorem BodyFits.strikeChargeExpiry : BodyFits.Statement (.strikeChargeExpiry) := BodyFits.of_none (c := .strikeChargeExpiry) rfl

theorem BodyFits.agingReached : ∀ a0, BodyFits.Statement (.agingReached a0) := fun a0 =>
  BodyFits.of_none (c := .agingReached a0) rfl

theorem BodyFits.takeDeadline : ∀ a0, BodyFits.Statement (.takeDeadline a0) := fun a0 =>
  BodyFits.of_none (c := .takeDeadline a0) rfl

theorem BodyFits.locateTimerExpiry : ∀ a0, BodyFits.Statement (.locateTimerExpiry a0) := fun a0 =>
  BodyFits.of_none (c := .locateTimerExpiry a0) rfl

theorem BodyFits.dropDetected : BodyFits.Statement (.dropDetected) := BodyFits.of_none (c := .dropDetected) rfl

theorem BodyFits.chuteReadAttemptEnd : ∀ a0, BodyFits.Statement (.chuteReadAttemptEnd a0) := fun a0 =>
  BodyFits.of_none (c := .chuteReadAttemptEnd a0) rfl

theorem BodyFits.pocketEmpty : BodyFits.Statement (.pocketEmpty) := BodyFits.of_none (c := .pocketEmpty) rfl

theorem BodyFits.pocketDriveTimeout : BodyFits.Statement (.pocketDriveTimeout) := BodyFits.of_none (c := .pocketDriveTimeout) rfl

theorem BodyFits.pocketRetry : BodyFits.Statement (.pocketRetry) := BodyFits.of_none (c := .pocketRetry) rfl

theorem BodyFits.minuteBoundary : BodyFits.Statement (.minuteBoundary) := BodyFits.of_none (c := .minuteBoundary) rfl

theorem BodyFits.sweepExamination : BodyFits.Statement (.sweepExamination) := BodyFits.of_none (c := .sweepExamination) rfl

theorem BodyFits.mainsInputChange : ∀ a0, BodyFits.Statement (.mainsInputChange a0) := fun a0 =>
  BodyFits.of_none (c := .mainsInputChange a0) rfl

theorem BodyFits.mainsAbsentQualified : BodyFits.Statement (.mainsAbsentQualified) := BodyFits.of_none (c := .mainsAbsentQualified) rfl

theorem BodyFits.mainsPresentQualified : BodyFits.Statement (.mainsPresentQualified) := BodyFits.of_none (c := .mainsPresentQualified) rfl

theorem BodyFits.batterySenseChange : ∀ a0, BodyFits.Statement (.batterySenseChange a0) := fun a0 =>
  BodyFits.of_none (c := .batterySenseChange a0) rfl

theorem BodyFits.batteryStateQualified : BodyFits.Statement (.batteryStateQualified) := BodyFits.of_none (c := .batteryStateQualified) rfl

theorem BodyFits.supplyStop : BodyFits.Statement (.supplyStop) := BodyFits.of_none (c := .supplyStop) rfl

theorem BodyFits.powerOn : ∀ a0 a1, BodyFits.Statement (.powerOn a0 a1) := fun a0 a1 =>
  BodyFits.of_none (c := .powerOn a0 a1) rfl

theorem BodyFits.startupCompletion : ∀ a0, BodyFits.Statement (.startupCompletion a0) := fun a0 =>
  BodyFits.of_none (c := .startupCompletion a0) rfl

theorem BodyFits.serviceHoldTimeout : BodyFits.Statement (.serviceHoldTimeout) := BodyFits.of_none (c := .serviceHoldTimeout) rfl

theorem BodyFits.syncByteBeginsFrame : ∀ a0, BodyFits.Statement (.syncByteBeginsFrame a0) := fun a0 =>
  BodyFits.of_none (c := .syncByteBeginsFrame a0) rfl

theorem BodyFits.frameLengthAbandoned : ∀ a0, BodyFits.Statement (.frameLengthAbandoned a0) := fun a0 =>
  BodyFits.of_none (c := .frameLengthAbandoned a0) rfl

end Sys2Proof.Laws
end

