-- ==== Sys2Proof/Laws/Requests.lean ====
section
/-! SUPPORT. Everything a request or an event can make of the machine, said once: a request at a line that listens, at
an occupied buffer, in a broadcast and at a halted part; an event that concerns the part and one that does not. -/

namespace Sys2Proof.Machine

/-! ## Lines -/

@[simp] theorem Part.line_updLine_self (p : Part) (l : Line) (f : LineState → LineState) :
    (p.updLine l f).line l = f (p.line l) := by
  cases l <;> rfl

/-- What a change of one line leaves alone. -/
@[simp] theorem Part.updLine_frame (p : Part) (l : Line) (f : LineState → LineState) :
    (p.updLine l f).uptime = p.uptime ∧ (p.updLine l f).columns = p.columns ∧ (p.updLine l f).fleet = p.fleet ∧
    (p.updLine l f).sched = p.sched ∧ (p.updLine l f).book = p.book ∧ (p.updLine l f).chute = p.chute ∧
    (p.updLine l f).late = p.late ∧ (p.updLine l f).alarm = p.alarm ∧ (p.updLine l f).supply = p.supply ∧
    (p.updLine l f).choices = p.choices ∧ (p.updLine l f).lines.notices = p.lines.notices ∧
    (p.updLine l f).lines.counter = p.lines.counter ∧ (p.updLine l f).lines.flags = p.lines.flags ∧
    (p.updLine l f).lines.holdUntil = p.lines.holdUntil ∧ (p.updLine l f).lines.attention = p.lines.attention ∧
    (p.updLine l f).lines.unitAddress = p.lines.unitAddress ∧ (p.updLine l f).lines.baudOpen = p.lines.baudOpen := by
  cases l <;> simp [Part.updLine]

@[simp] theorem Part.line_choiceMade (p : Part) (l : Line) : p.choiceMade.line l = p.line l := by cases l <;> rfl

/-- What a free choice leaves alone: all but the counter of them. -/
@[simp] theorem Part.choiceMade_frame (p : Part) :
    p.choiceMade.uptime = p.uptime ∧ p.choiceMade.columns = p.columns ∧ p.choiceMade.fleet = p.fleet ∧
    p.choiceMade.sched = p.sched ∧ p.choiceMade.book = p.book ∧ p.choiceMade.chute = p.chute ∧
    p.choiceMade.late = p.late ∧ p.choiceMade.alarm = p.alarm ∧ p.choiceMade.supply = p.supply ∧
    p.choiceMade.lines = p.lines ∧ p.choiceMade.choices = p.choices + 1 := by
  simp [Part.choiceMade]

/-- What the receipt of a request leaves alone: all but the lines. -/
@[simp] theorem Part.received_frame (p : Part) (c : Instr) (h : ReqHdr) :
    (p.received c h).uptime = p.uptime ∧ (p.received c h).columns = p.columns ∧
    (p.received c h).fleet = p.fleet ∧ (p.received c h).sched = p.sched ∧ (p.received c h).book = p.book ∧
    (p.received c h).chute = p.chute ∧ (p.received c h).late = p.late ∧ (p.received c h).alarm = p.alarm ∧
    (p.received c h).supply = p.supply ∧ (p.received c h).choices = p.choices ∧
    (p.received c h).lines.notices = p.lines.notices ∧ (p.received c h).lines.counter = p.lines.counter ∧
    (p.received c h).lines.flags = p.lines.flags ∧ (p.received c h).lines.attention = p.lines.attention ∧
    (p.received c h).lines.unitAddress = p.lines.unitAddress ∧
    (p.received c h).lines.baudOpen = p.lines.baudOpen := by
  unfold Part.received Part.hear Part.buffered Part.hunt Part.restartHold
  split <;> simp

/-- What the reply to a request leaves alone: all but its line and the counter of free choices. -/
@[simp] theorem Part.answered_frame (p q : Part) (h : ReqHdr) (k : Byte) (r : Reply) :
    (p.answered q h k r).uptime = q.uptime ∧ (p.answered q h k r).columns = q.columns ∧
    (p.answered q h k r).fleet = q.fleet ∧ (p.answered q h k r).sched = q.sched ∧
    (p.answered q h k r).book = q.book ∧ (p.answered q h k r).chute = q.chute ∧
    (p.answered q h k r).late = q.late ∧ (p.answered q h k r).alarm = q.alarm ∧
    (p.answered q h k r).supply = q.supply ∧ (p.answered q h k r).choices = q.choices + 1 ∧
    (p.answered q h k r).lines.notices = q.lines.notices ∧ (p.answered q h k r).lines.counter = q.lines.counter ∧
    (p.answered q h k r).lines.flags = q.lines.flags ∧
    (p.answered q h k r).lines.holdUntil = q.lines.holdUntil ∧
    (p.answered q h k r).lines.attention = q.lines.attention ∧
    (p.answered q h k r).lines.unitAddress = q.lines.unitAddress ∧
    (p.answered q h k r).lines.baudOpen = q.lines.baudOpen := by
  simp [Part.answered, Part.reply]

@[simp] theorem Part.answered_replyOn (p q : Part) (h : ReqHdr) (k : Byte) (r : Reply) :
    (p.answered q h k r).replyOn h = some r := by
  simp [Part.answered, Part.reply, Part.replyOn]

/-- A reply begins to be sent within 20 ms of its request (R165). -/
theorem Part.sendMoment_within (p : Part) : p.uptime ≤ p.sendMoment ∧ p.sendMoment ≤ p.uptime + 20 :=
  ⟨Nat.le_add_right .., Nat.add_le_add_left (Nat.le_of_lt_succ (Nat.mod_lt _ (by decide))) _⟩

/-- A line with an empty buffer is no line the part sends on. -/
theorem Part.not_deaf_of_buffer {p : Part} {l : Line} (h : (p.line l).buffer = none) : p.deaf l = false := by
  simp [Part.deaf, h]

/-- The service line receives while the part sends on it (R163). -/
@[simp] theorem Part.not_deaf_service (p : Part) : p.deaf .service = false := rfl

/-- A service hold stands after a receipt exactly where it stood before. -/
@[simp] theorem Part.received_hold (p : Part) (c : Instr) (h : ReqHdr) :
    (p.received c h).lines.holdUntil.isSome = p.lines.holdUntil.isSome := by
  unfold Part.received Part.hear Part.buffered Part.hunt Part.restartHold
  split <;> simp_all

@[simp] theorem Part.received_halted (p : Part) (c : Instr) (h : ReqHdr) : (p.received c h).halted = p.halted := by
  simp [Part.halted]

@[simp] theorem Part.received_isReady (p : Part) (c : Instr) (h : ReqHdr) :
    (p.received c h).isReady = p.isReady := by
  simp [Part.isReady]

@[simp] theorem Part.received_minute (p : Part) (c : Instr) (h : ReqHdr) : (p.received c h).minute = p.minute := by
  simp [Part.minute]

@[simp] theorem Part.received_findUnit (p : Part) (c : Instr) (h : ReqHdr) (u : Nat) :
    (p.received c h).findUnit u = p.findUnit u := by
  simp [Part.findUnit]

@[simp] theorem Part.received_findTag (p : Part) (c : Instr) (h : ReqHdr) (t : Nat) :
    (p.received c h).findTag t = p.findTag t := by
  simp [Part.findTag]

@[simp] theorem Part.received_findContract (p : Part) (c : Instr) (h : ReqHdr) (n : Nat) :
    (p.received c h).findContract n = p.findContract n := by
  simp [Part.findContract]

@[simp] theorem Part.received_heldOff (p : Part) (c : Instr) (h : ReqHdr) (l : Line) :
    (p.received c h).heldOff l = p.heldOff l := by
  simp [Part.heldOff]

/-! ## Requests -/

/-- A request at a line that listens is dispatched and answered (R164, R165). -/
theorem Part.request_listens {p : Part} {h : ReqHdr} (hl : p.listens h) (k : KindRow) (c : Instr)
    (body : Part → Part × Reply) :
    p.request k c h body = p.answered ((p.received c h).dispatch k h body).1 h k.code
      ((p.received c h).dispatch k h body).2 := by
  obtain ⟨h1, h2, h3⟩ := hl
  simp [Part.request, Part.unicast, h1, h2, h3, Part.not_deaf_of_buffer, Part.answered, Part.received]

/-- A request of its kind's length, of a kind that its line carries, reaches its owning block (R164). -/
theorem Part.request_takes {p : Part} {h : ReqHdr} {k : KindRow} (ht : p.takes h k.length)
    (hs : k.serviceOnly = false ∨ h.line = .service) (c : Instr) (body : Part → Part × Reply) :
    p.request k c h body = p.answered (body (p.received c h)).1 h k.code (body (p.received c h)).2 := by
  rw [Part.request_listens ht.1]
  have : ¬ (k.serviceOnly = true ∧ h.line = .branch) := by
    rintro ⟨a, b⟩
    rcases hs with hs | hs <;> simp_all
  simp [Part.dispatch, ht.2, this]

/-- A unicast request at an occupied buffer is discarded and LINE_OVERRUN set, where its line receives (R163). -/
theorem Part.request_overrun {p : Part} {h : ReqHdr} (hh : p.halted = false) (hd : p.deaf h.line = false) (hb : h.broadcast = false)
    (ho : (p.line h.line).buffer.isSome = true) (k : KindRow) (c : Instr) (body : Part → Part × Reply) :
    p.request k c h body = (p.hear h.line).flagLineOverrun := by
  simp [Part.request, Part.unicast, hh, hd, hb, ho]

/-- A halted part receives nothing (R152). -/
theorem Part.request_halted {p : Part} (hh : p.halted = true) (k : KindRow) (c : Instr) (h : ReqHdr)
    (body : Part → Part × Reply) : p.request k c h body = p := by
  simp [Part.request, hh]

/-- A line that the part sends on receives nothing (R163). -/
theorem Part.request_deaf {p : Part} {h : ReqHdr} (hd : p.deaf h.line = true) (k : KindRow) (c : Instr)
    (body : Part → Part × Reply) : p.request k c h body = p := by
  simp [Part.request, hd]

/-- The rows STARTING and SERVICE_HOLD do not apply to a request that is not turned away (R155, R170). -/
theorem Part.commandRows_of_commands {p : Part} {h : ReqHdr} {n : Nat} (hc : p.commands h n) (c : Instr) :
    (p.received c h).commandRows h.line = [(false, .starting), (false, .serviceHold)] := by
  obtain ⟨⟨⟨h1, -, -⟩, -⟩, h4, h5⟩ := hc
  simp [Part.commandRows, Part.inStartUp, h1, h4, h5]

@[simp] theorem firstRefusal_nil : firstRefusal [] = none := rfl
@[simp] theorem firstRefusal_true (r : Reply) (rest : List (Bool × Reply)) :
    firstRefusal ((true, r) :: rest) = some r := rfl
@[simp] theorem firstRefusal_false (r : Reply) (rest : List (Bool × Reply)) :
    firstRefusal ((false, r) :: rest) = firstRefusal rest := rfl

/-- No row applies exactly where every condition fails. -/
theorem firstRefusal_eq_none {rows : List (Bool × Reply)} :
    firstRefusal rows = none ↔ ∀ x ∈ rows, x.1 = false := by
  induction rows with
  | nil => simp
  | cons x rest ih =>
    obtain ⟨b, r⟩ := x
    cases b <;> simp [ih]

/-- A request that no row refuses is taken. -/
theorem Part.checked_taken {p : Part} {rows : List (Bool × Reply)} (hr : ∀ x ∈ rows, x.1 = false)
    (effect : Part → Part × Reply) : p.checked rows effect = effect p := by
  simp [Part.checked, firstRefusal_eq_none.mpr hr]

/-- A checked request either is refused with the part as it was, or is taken. -/
theorem Part.checked_cases (p : Part) (rows : List (Bool × Reply)) (effect : Part → Part × Reply) :
    (∃ r, firstRefusal rows = some r ∧ p.checked rows effect = (p, r)) ∨
    (firstRefusal rows = none ∧ p.checked rows effect = effect p) := by
  unfold Part.checked
  cases firstRefusal rows <;> simp

/-- The meaning of every command that a request frame carries is a request of the kind's row: its code, its length,
whether the branch line carries it, and which broadcasts of it are taken. -/
theorem exec_request {c : Instr} {h : ReqHdr} {kind : Byte} {body : List Byte}
    (he : encodeRequest c = some (h, kind, body)) :
    ∃ k b, k.code = kind ∧ k.length = body.length ∧ (k.serviceOnly = true ↔ kind = 0x30#8 ∨ kind = 0x31#8) ∧
      (∀ n, broadcastTaken kind n = (k.broadcast && n == k.length)) ∧
      ∀ s, exec c s = State.request k c h b s := by
  cases c <;> simp only [encodeRequest, Option.some.injEq, Prod.mk.injEq, reduceCtorEq] at he
  all_goals
    obtain ⟨rfl, rfl, rfl⟩ := he
    refine ⟨_, _, rfl, ?_, ?_, ?_, fun s => rfl⟩
  all_goals first | rfl | decide | (intro n; simp [broadcastTaken, KindRow.plain, serviceHoldRow])

/-- The meaning of a frame of an unknown kind. -/
theorem exec_unknownKind (h : ReqHdr) (kind : Byte) (s : State) :
    exec (.unknownKind h kind) s =
      State.request (.plain kind h.bodyLen) (.unknownKind h kind) h (fun p => (p, .unknownKind)) s := rfl

/-! ## Events -/

/-- An event that only a part that is not halted takes is an event. -/
theorem State.event_of_live {g : State → Host.Outcome State Fault Refusal} (h : ∃ f, ∀ s, g s = State.live f s) :
    ∃ f, ∀ s, g s = State.event f s := h.imp' _ fun _ hf => hf

theorem State.event_of_liveHandle {g : State → Host.Outcome State Fault Refusal}
    (h : ∃ f, ∀ s, g s = State.liveHandle f s) : ∃ f, ∀ s, g s = State.event f s :=
  match h with
  | ⟨_, hf⟩ => ⟨_, fun s => (hf s).trans (by unfold State.liveHandle State.handle; rfl)⟩

theorem State.event_of_liveDecide {g : State → Host.Outcome State Fault Refusal}
    (h : ∃ f, ∀ s, g s = State.liveDecide f s) : ∃ f, ∀ s, g s = State.event f s :=
  match h with
  | ⟨_, hf⟩ => ⟨_, fun s => (hf s).trans (by unfold State.liveDecide State.live; rfl)⟩

theorem State.event_of_heard {g : State → Host.Outcome State Fault Refusal}
    (h : ∃ l f, ∀ s, g s = State.heard l f s) : ∃ f, ∀ s, g s = State.event f s :=
  match h with
  | ⟨_, _, hf⟩ => ⟨_, fun s => (hf s).trans (by unfold State.heard State.live; rfl)⟩

/-- Every command is a request, a change of the part, or an event. -/
theorem exec_cases (c : Instr) :
    (∃ k h b, ∀ s, exec c s = State.request k c h b s) ∨ (∃ f, ∀ s, exec c s = s.onPart f) ∨
    (∃ f, ∀ s, exec c s = s.event f) := by
  cases c
  all_goals first
    | exact .inl ⟨_, _, _, fun s => rfl⟩
    | exact .inr (.inl ⟨_, fun s => by dsimp only [exec]; rfl⟩)
    | exact .inr (.inr (State.event_of_heard ⟨_, _, fun s => by dsimp only [exec]; rfl⟩))
    | exact .inr (.inr (State.event_of_live ⟨_, fun s => by dsimp only [exec]; rfl⟩))
    | exact .inr (.inr (State.event_of_liveHandle ⟨_, fun s => by dsimp only [exec]; rfl⟩))
    | exact .inr (.inr (State.event_of_liveDecide ⟨_, fun s => by dsimp only [exec]; rfl⟩))
    | exact .inr (.inr ⟨_, fun s => by dsimp only [exec]; rfl⟩)

/-- An event answers a next state: the same one where it does not concern the part, else the part it makes. -/
theorem State.event_next {f : Part → Option Part} {s t : State} (h : s.event f = .next t) :
    (f s.part = none ∧ t = s) ∨ ∃ q, f s.part = some q ∧ t = { s with part := q } := by
  unfold State.event at h
  split at h <;> simp_all

theorem State.event_some {f : Part → Option Part} {s : State} {q : Part} (h : f s.part = some q) :
    s.event f = .next { s with part := q } := by
  simp [State.event, h]

theorem State.event_none {f : Part → Option Part} {s : State} (h : f s.part = none) : s.event f = .next s := by
  simp [State.event, h]

/-- An event of a part that is not halted. -/
theorem State.live_some {f : Part → Option Part} {s : State} {q : Part} (hh : s.part.halted = false)
    (h : f s.part = some q) : s.live f = .next { s with part := q } := by
  apply State.event_some
  simp [hh, h]

theorem State.heard_some {l : Line} {f : Part → Option Part} {s : State} {q : Part} (hh : s.part.halted = false)
    (hd : s.part.deaf l = false) (h : f s.part = some q) : s.heard l f = .next { s with part := q } := by
  apply State.live_some hh
  simp [hd, h]

/-- A line that the part sends on receives nothing (R163). -/
theorem State.heard_deaf {l : Line} {f : Part → Option Part} {s : State} (hd : s.part.deaf l = true) :
    s.heard l f = .next s := by
  unfold State.heard State.live
  apply State.event_none
  simp [hd]

theorem State.liveHandle_some {f : Part → Option Part} {s : State} {q : Part} (hh : s.part.halted = false)
    (h : f s.part = some q) : s.liveHandle f = .next { s with part := q.settle } := by
  unfold State.liveHandle State.handle
  apply State.event_some
  simp [hh, h]

theorem State.liveDecide_some {f : Part → Option Part} {s : State} {q : Part} (hh : s.part.halted = false)
    (h : f s.part = some q) : s.liveDecide f = .next { s with part := q.decideDrives } := by
  apply State.live_some hh
  simp [h]

/-! ## Time -/

/-- Passing time leaves alone all but the uptime, the strike history and the clock's count. -/
@[simp] theorem Part.elapse_frame (p : Part) (dt : Ms) :
    (p.elapse dt).columns = p.columns ∧ (p.elapse dt).fleet = p.fleet ∧ (p.elapse dt).book = p.book ∧
    (p.elapse dt).chute = p.chute ∧ (p.elapse dt).alarm = p.alarm ∧ (p.elapse dt).supply = p.supply ∧
    (p.elapse dt).lines = p.lines ∧ (p.elapse dt).choices = p.choices ∧
    (p.elapse dt).sched.queue = p.sched.queue ∧ (p.elapse dt).sched.ended = p.sched.ended ∧
    (p.elapse dt).sched.lastNumber = p.sched.lastNumber := by
  unfold Part.elapse
  dsimp only
  split <;> simp

@[simp] theorem Part.advanceTo_frame (p : Part) (t : Ms) :
    (p.advanceTo t).columns = p.columns ∧ (p.advanceTo t).fleet = p.fleet ∧ (p.advanceTo t).book = p.book ∧
    (p.advanceTo t).chute = p.chute ∧ (p.advanceTo t).alarm = p.alarm ∧ (p.advanceTo t).supply = p.supply ∧
    (p.advanceTo t).lines = p.lines ∧ (p.advanceTo t).choices = p.choices ∧
    (p.advanceTo t).sched.queue = p.sched.queue ∧ (p.advanceTo t).sched.ended = p.sched.ended ∧
    (p.advanceTo t).sched.lastNumber = p.sched.lastNumber := by
  unfold Part.advanceTo
  split <;> simp

/-- After a timed event the uptime is its moment, or later where it came late. -/
theorem Part.advanceTo_uptime {p : Part} (hh : p.halted = false) (t : Ms) :
    (p.advanceTo t).uptime = p.timeAt t := by
  unfold Part.advanceTo Part.timeAt Part.elapse
  dsimp only
  split
  · exact (max_eq_left ‹_›).symm
  · simp only [hh, Bool.false_eq_true, if_false]
    exact (Nat.add_sub_cancel' (Nat.le_of_not_le ‹_›)).trans (max_eq_right (Nat.le_of_not_le ‹_›)).symm

end Sys2Proof.Machine
end

