-- ==== Sys2Proof/Laws/Selection.lean ====
section
/-! SUPPORT. The scheduler's selection in the words of R61 and R64: a request is eligible exactly where it may start, no
winner stands exactly where none may, and the request that comes first by R64 wins. -/

namespace Sys2Proof.Machine

theorem Release.inFlight_iff (r : Release) : r.inFlight = true ↔ r.phase ≠ .waiting := by
  unfold Release.inFlight
  split <;> simp_all

theorem Latch.busy_eq_false_iff (l : Latch) : l.busy = false ↔ ∃ since, l = .closed since := by
  cases l <;> simp [Latch.busy]

/-- A column is free of latches on their way exactly where every latch in it is CLOSED or absent (R61). -/
theorem Part.latchBusy_eq_false_iff (p : Part) (c : ColId) : (p.column c).latchBusy = false ↔
    ∀ (i : PosId) (l : Latch), (p.engine ⟨c, i⟩).latch = some l → ∃ since, l = .closed since := by
  simp only [Column.latchBusy, List.any_eq_false, Option.any_eq_true, ← Latch.busy_eq_false_iff, Part.engine, Part.slot]
  constructor
  · intro h i l hl
    have := h (p.column c).slots[i] (by simp)
    simp_all
  · rintro h x hx ⟨l, hl, hb⟩
    obtain ⟨i, hi, rfl⟩ := Vector.getElem_of_mem (Vector.mem_toList_iff.mp hx)
    have := h ⟨i, hi⟩ l hl
    simp_all

theorem Part.rank_eq (p : Part) (r : Release) : p.rank r = p.selectionRank r := by
  unfold Part.rank Part.selectionRank
  cases r.cls <;> simp

/-- The budget table of R62 gives what the scheduler reads of the mode. -/
theorem budgetOf_eq (m : Mode) : budgetOf m = (m.allowance, m.window, m.holdLimit, match m with
    | .mains => 2 | .reserve => 1 | .lowReserve => 0) := by
  cases m <;> rfl

theorem Part.starts_iff (p : Part) (r : Release) :
    p.supply.mode.starts (p.rank r) = true ↔ p.selectionRank r ≤ (budgetOf p.supply.mode).2.2.2 := by
  have : p.selectionRank r ≤ 2 := by unfold Part.selectionRank; split <;> [skip; split] <;> omega
  rw [p.rank_eq]
  cases p.supply.mode <;> simp [Mode.starts, budgetOf, this]

/-- A request is eligible exactly where it may start by R61. -/
theorem Part.eligible_iff (p : Part) (r : Release) : p.eligible r = true ↔ p.mayStart r := by
  have hw : r.isWaiting = true ↔ r.phase = .waiting := by unfold Release.isWaiting; split <;> simp_all
  have hf : (p.sched.queue.filter fun q => decide (q.phase ≠ .waiting)) = p.sched.queue.filter Release.inFlight :=
    List.filter_congr fun q _ => by rw [Bool.eq_iff_iff, decide_eq_true_iff, q.inFlight_iff]
  have hc : (p.sched.queue.any fun q => q.inFlight && q.slot.col == r.slot.col) = false ↔
      ∀ q ∈ p.sched.queue, q.phase ≠ .waiting → q.slot.col ≠ r.slot.col := by
    simp [← Release.inFlight_iff]
  have hh : (r.target.unit.any p.unitHeld) = false ↔
      ∀ unit v, r.target.unit = some unit → p.findUnit unit = some v → v.hold = none := by
    cases r.target.unit with
    | none => simp
    | some n => simpa [Part.unitHeld, Option.any_eq_false] using ⟨fun h _ v e => e ▸ h v, fun h v => h n v rfl⟩
  have hs := p.starts_iff r
  simp only [budgetOf_eq] at hs
  simp only [Part.eligible, Part.columnFree, Bool.and_eq_true, Bool.not_eq_true', beq_iff_eq, Bool.or_eq_true,
    Option.isNone_iff_eq_none, decide_eq_true_iff, and_assoc]
  simp only [Part.mayStart, budgetOf_eq, hw, hc, hh, hs, hf, p.latchBusy_eq_false_iff, Scheduler.inFlight, Part.charges,
    Strike.within]

/-- Of the winner so far and a request accepted after it, the one that comes first (R64). -/
def Part.keep (p : Part) (best : Option Release) (r : Release) : Option Release :=
  match best with
  | none => some r
  | some a => if p.beats r a then some r else some a

@[simp] theorem Part.keep_none (p : Part) (r : Release) : p.keep none r = some r := rfl
@[simp] theorem Part.keep_some (p : Part) (a r : Release) :
    p.keep (some a) r = if p.beats r a then some r else some a := rfl

theorem Part.winner_eq (p : Part) : p.winner = (p.sched.queue.filter p.eligible).foldl p.keep none := rfl

/-- No winner stands exactly where no request of the queue may start (R60). -/
theorem Part.winner_eq_none_iff (p : Part) : p.winner = none ↔ p.noneMayStart := by
  have key : ∀ (l : List Release) (b : Option Release), (l.foldl p.keep b) = none ↔ b = none ∧ l = [] := by
    intro l
    induction l with
    | nil => simp
    | cons r l ih =>
      intro b
      rw [List.foldl_cons, ih]
      cases b with
      | none => simp
      | some a => rw [Part.keep_some]; split <;> simp
  simp [Part.winner_eq, key, Part.noneMayStart, List.filter_eq_nil_iff, p.eligible_iff]

/-- The request that comes first by R64 of those that may start is the winner. -/
theorem Part.winner_of_isBest (p : Part) (r : Release) (h : p.isBest r) : p.winner = some r := by
  obtain ⟨hr, pre, post, hq, hpre, hpost⟩ := h
  have before : ∀ (l : List Release) (b : Option Release),
      (∀ q ∈ l, p.beats r q = true) → (∀ q, b = some q → p.beats r q = true) →
      ∀ q, (l.foldl p.keep b) = some q → p.beats r q = true := by
    intro l
    induction l with
    | nil => intro b _ hb q hq; exact hb q hq
    | cons a l ih =>
      intro b hl hb
      rw [List.foldl_cons]
      refine ih _ (fun q hq => hl q (List.mem_cons_of_mem _ hq)) fun q hq => ?_
      cases b with
      | none => cases hq; exact hl _ (List.mem_cons_self ..)
      | some c =>
        rw [Part.keep_some] at hq
        split at hq
        · cases hq; exact hl _ (List.mem_cons_self ..)
        · cases hq; exact hb _ rfl
  have after : ∀ l : List Release, (∀ q ∈ l, p.beats q r = false) →
      l.foldl p.keep (some r) = some r := by
    intro l
    induction l with
    | nil => intro _; rfl
    | cons a l ih =>
      intro hl
      rw [List.foldl_cons]
      rw [Part.keep_some, if_neg (by simp [hl a (List.mem_cons_self ..)])]
      exact ih fun q hq => hl q (List.mem_cons_of_mem _ hq)
  have hb : ∀ q, q ∈ pre.filter p.eligible → p.beats r q = true := by
    intro q hq
    obtain ⟨hm, he⟩ := List.mem_filter.mp hq
    simpa [Part.beats, p.rank_eq] using hpre q hm ((p.eligible_iff q).mp he)
  have ha : ∀ q, q ∈ post.filter p.eligible → p.beats q r = false := by
    intro q hq
    obtain ⟨hm, he⟩ := List.mem_filter.mp hq
    have := hpost q hm ((p.eligible_iff q).mp he)
    simp only [Part.beats, p.rank_eq, decide_eq_false_iff_not, Ms] at this ⊢
    omega
  rw [Part.winner_eq, hq, List.filter_append, List.filter_cons_of_pos ((p.eligible_iff r).mpr hr), List.foldl_append,
    List.foldl_cons]
  cases hx : (pre.filter p.eligible).foldl p.keep none with
  | none => exact after _ ha
  | some q =>
    rw [Part.keep_some, if_pos (before _ none hb nofun q hx)]
    exact after _ ha

/-- A selection starts the request that comes first by R64, and goes on from there (R60, R64). -/
theorem Part.selection_of_isBest (p : Part) (r : Release) (hr : p.isReady = true) (h : p.isBest r) :
    p.selection = selectAll (p.sched.queue.length - 1) (p.selectOne r) := by
  have hw := p.winner_of_isBest r h
  obtain ⟨_, pre, post, hq, _⟩ := h
  simp [Part.selection, hr, hq, selectAll, hw]

end Sys2Proof.Machine
end

