-- ==== Sys2Proof/Tests/Slice0.lean ====
section
/-! SUPPORT. Tests on fixed values: each check of WellFormed refuses an ill-formed term, the manual's examples come out
as it states them, and the hypotheses of every statement are met together by a concrete state. -/

namespace Sys2Proof.Tests

-- The tests are checked one after another: run side by side, their kernel evaluations ask for too many threads.
set_option Elab.async false

open Sys2Proof Sys2Proof.Machine

/-! ## Terms -/

/-- A unicast request of a body length on the branch line. -/
def hB (n : Nat) : ReqHdr := { line := .branch, broadcast := false, tag := 7#8, bodyLen := n }

/-- A unicast request of a body length on the service line. -/
def hS (n : Nat) : ReqHdr := { line := .service, broadcast := false, tag := 7#8, bodyLen := n }

/-- A broadcast of a body length on the branch line. -/
def hC (n : Nat) : ReqHdr := { line := .branch, broadcast := true, tag := 7#8, bodyLen := n }

/-- What the outside shows at a start-up: the boards of columns 1 and 2 answer. -/
def inputs : StartInputs := { answers := 3#16, straps := 2#3, baudOpen := true }

/-- The record of a fob with a tag ID and a kind. -/
def fob (tag kind : Nat) : List Byte :=
  let b := bytesOf 4 tag ++ [BitVec.ofNat 8 kind]
  b ++ [crc8 b]

/-- Slot 1. -/
def x0 : SlotId := ⟨0, 0⟩

/-- The part after reset with its start-up ended, its clock SET to minute 10,000 and column 1 RUNNING. -/
def p0 : Part :=
  { (Part.atReset.updColumn 0 fun c => { c with engine := .running, fitted := true }) with
    supply := { Part.atReset.supply with phase := .ready }
    chute := { Part.atReset.chute with flapLocked := false }
    late := { Part.atReset.late with count := 600000#32, clock := .set, retainedMinute := 10000 }
    uptime := 100000 }

/-- A machine with this part and no command waiting. -/
def st (p : Part) : State := { part := p, pending := [] }

/-- Vehicle 1, whose tag is 301. -/
def v1 (status : VehicleStatus) : Vehicle := ⟨1, 301, status, none, none, none, none, 0⟩

/-- The part with slot 1 reachable, its contact at a level that is the qualified one, its latch CLOSED, and holding a
record. -/
def withSlot (k : Custody) (present : Bool) : Part :=
  p0.updSlot x0 fun _ =>
    { record := ⟨k, false, false, false⟩
      engine := { SlotEngine.unwatched with contact := present, qualified := some present, latch := some (.closed none) } }

/-- Vehicle 1 IN at slot 1. -/
def pIn : Part := { withSlot (.held 301 1 9000 false) true with fleet := [v1 (.inSlot x0)] }

/-- The settings and times of a contract of vehicle 1. -/
def c1 (state : ContractState) (due : Minute) : Contract :=
  ⟨77, 1, .standard, due, none, 1250, 7500, 9000, state, 0, false, 0, none⟩

/-- Vehicle 1 OUT with contract 77 ACTIVE since minute 9,100 at a level, due at a minute. -/
def pOut (level : Level) (due : Minute) : Part :=
  { withSlot .empty false with
    fleet := [{ v1 (.out .contract) with contract := some 77 }]
    book := ⟨[c1 (.active 9100 level) due], 0, []⟩ }

/-- A release request of vehicle 1. -/
def rel (target : Target) (phase : ReleasePhase) : Release :=
  ⟨5, target, x0, .standard, .branch, 99000, phase, false⟩

/-- The part with live requests. -/
def queued (p : Part) (queue : List Release) : Part := { p with sched := { p.sched with queue := queue } }

/-- A movement of vehicle 1 in a phase, its record RELEASING and its latch as given. -/
def pRel (phase : ReleasePhase) (latch : Latch) : Part :=
  queued { (withSlot (.releasing 301 1 9000 .movement false) true).updEngine x0 fun e => { e with latch := some latch }
    with fleet := [{ v1 (.inSlot x0) with request := some 5 }] } [rel (.movement 1) phase]

/-- An alarm record. -/
def alarm (n : Nat) (k : AlarmKind) (x : Subject) (s : AlarmState) : Alarm := ⟨n, k, x, 9000, s⟩

/-- The part with alarm records. -/
def withAlarms (p : Part) (list : List Alarm) : Part := { p with alarm := { p.alarm with list := list } }

/-- A part ready for requests takes one of any length on either line. -/
theorem takes_any (n : Nat) (p : Part) (h0 : p.halted = false) (hb : p.lines.branch.buffer = none)
    (hs : p.lines.service.buffer = none) : p.takes (hB n) n ∧ p.takes (hS n) n :=
  ⟨⟨⟨h0, rfl, hb⟩, rfl⟩, ⟨⟨h0, rfl, hs⟩, rfl⟩⟩

/-! ## WellFormed refuses -/

theorem test_wf_broadcast_on_service : (Instr.setClock ⟨.service, true, 0#8, 4⟩ 0#32).wf = false := by decide
theorem test_wf_body_too_long : (Instr.identify (hB 241)).wf = false := by decide
theorem test_wf_broadcast_of_other_kind : (Instr.release (hC 6) 2#8 1#24 0#16).wf = false := by decide
theorem test_wf_broadcast_of_other_length : (Instr.restart (hC 1) inputs).wf = false := by decide
theorem test_wf_slot_service_on_as_off : (Instr.slotServiceOff (hB 3) 1#16 1#8).wf = false := by decide
theorem test_wf_ack_all_as_one : (Instr.ackAlarm (hB 3) 1#16 1#8).wf = false := by decide
theorem test_wf_hold_on_as_off : (Instr.serviceHoldOff (hS 1) 1#8).wf = false := by decide
theorem test_wf_known_kind_as_unknown : (Instr.unknownKind (hB 0) 0x31#8).wf = false := by decide
theorem test_wf_request_number : (Instr.agingReached 256).wf = false ∧ (Instr.takeDeadline 0).wf = false := by decide
theorem test_wf_battery_range : (Instr.batterySenseChange 3001).wf = false := by decide
theorem test_wf_attempts : (Instr.startupCompletion [[], [], [], []]).wf = false := by decide
theorem test_wf_accepts : (Instr.setClock (hC 4) 0#32).wf = true ∧ (Instr.unknownKind (hS 9) 0x0C#8).wf = true := by
  decide

/-! ## Frames -/

/-- R162's worked frame is not given as bytes; this one is written out by R162 and Table 11.2 with its CRC computed by
hand from the generator: IDENTIFY to unit 3, tag 7. A byte before the 0x7E is passed over, and the hunt goes on after it. -/
theorem test_frame_identify :
    commandsOfBytes 3 inputs .branch ([0x55#8, 0x7E#8, 0x03#8, 0x00#8, 0x01#8, 0x07#8] ++
      bytesOf 2 (crc16 [0x03#8, 0x00#8, 0x01#8, 0x07#8]).toNat ++ [0x7E#8]) =
      [.syncByteBeginsFrame .branch, .identify (hB 0), .syncByteBeginsFrame .branch, .frameGapTimeout .branch] := by
  decide +kernel

/-- The check value of the CRC of R162 over the ASCII digits 1 to 9 (CRC-16 with 0x1021 from 0xFFFF, unreflected). -/
theorem test_crc16_check :
    crc16 [0x31#8, 0x32#8, 0x33#8, 0x34#8, 0x35#8, 0x36#8, 0x37#8, 0x38#8, 0x39#8] = 0x29B1#16 := by decide +kernel

theorem test_table_words_spell_nothing : decodeTableWord 8 0x01 = none := rfl

/-- R163: on the branch line of unit 3, address 4 is another part's. -/
theorem test_other_unit_ignored :
    validFrame 3 inputs .branch 0x04#8 0x01#8 0#8 [] = .frameIgnored .branch := by decide

/-! ## Values of the manual's examples and tables -/

/-- The terms of Example 1 of 7 under the default settings, evaluated at a lateness. -/
def example1 (now : Minute) : Level × Nat × Nat :=
  let e := evaluate Settings.defaults (c1 (.active 0 .current) 5000000) now
  (e.level, e.hours, e.charge)

/-- Example 1 of 7: every row of the table. -/
theorem test_evaluation_example1 :
    [4999950, 5000029, 5000030, 5000120, 5000121, 5000400, 5001500, 5003000].map example1 =
      [(.dueSoon, 0, 0), (.grace, 0, 0), (.late, 1, 1250), (.late, 2, 2500), (.late, 3, 3750), (.overdue, 7, 7500),
       (.overdue, 25, 8750), (.unreturned, 50, 17500)] := by decide

/-- Example 2 of 7: the limit case. -/
theorem test_evaluation_example2 :
    evaluate Settings.defaults { c1 (.active 0 .current) 5000000 with hourRate := 65535, dayRate := 1000000 } 35000000 =
      ⟨.unreturned, 65535, 16777215, true⟩ := by decide +kernel

/-- Example 3 of 7: an override above T2 is held at T2 − 1. -/
theorem test_evaluation_example3 :
    let s : Settings := { Settings.defaults with grace := 0, t2 := 100 }
    let c : Contract := { c1 (.active 0 .current) 5000000 with grace := some 180 }
    ((evaluate s c 5000099).level, (evaluate s c 5000100).level, (evaluate s c 5000100).charge) =
      (.grace, .overdue, 2500) := by decide

/-- R121: out-of-range values are clamped to their ranges, T2 above the grace and T3 above T2. -/
theorem test_configure_clamps :
    clampedSettings 200#8 250#8 100#16 100#16 1#8 5#16 true = ⟨180, 240, 181, 182, 5, 10, true⟩ := by decide

/-- R57, Example 1 of 4: after 1, 2 and 3 the fourth request is 4, though 2 is free again; after 255 comes 1. -/
theorem test_request_numbers : freeNumber 255 [1, 3] 2 3 = 4 ∧ freeNumber 255 [1, 3] 2 255 = 2 := by decide

/-- R1: slot 25 is the top slot of column 2. -/
theorem test_slot_numbers : slotNumber ⟨1, 0⟩ = 25 ∧ slotOfNumber 384 = some ⟨15, 23⟩ ∧ slotOfNumber 385 = none := by
  decide

/-- R2, 11.3 Note 1: the bits of the flags bytes. -/
theorem test_flag_bytes :
    SlotRecord.flagsByte ⟨.held 301 1 0 true, true, false, true⟩ = 0x0D#8 ∧
    Flags.toByte ⟨false, true, true, false, false, true⟩ = 0x26#8 := by decide

/-- R149, R150: a part whose mains returns for less than 5 s stays where it is; the battery band has its hysteresis. -/
theorem test_timings :
    mainsTiming .lowReserve false 42000 (some 40000) = none ∧ mainsTiming .reserve true 7 none = some 7 ∧
    batteryTiming false 2100 7 none = none ∧ batteryTiming false 2099 7 none = some 7 ∧
    batteryTiming true 2250 7 none = none := by decide

/-! ## Single steps -/

/-- The part after a command. -/
def after (c : Instr) (p : Part) : Part :=
  match exec c (st p) with
  | .next t => t.part
  | .fault e => nomatch e
  | .refused _ => p

/-- R171: unit 1, 57,600 baud, column 1 fitted, 24 slots. -/
theorem test_identify : (after (.identify (hB 0)) p0).replyOn (hB 0) = some (.done (.identify 1 false 1#16 24)) := by
  decide +kernel

/-- R164 row 2, R172: IDENTIFY has no body. -/
theorem test_identify_length : (after (.identify (hB 1)) p0).replyOn (hB 1) = some .badLength := by decide +kernel

/-- R165, R163: the reply goes out from 0x80 plus the unit address, with the kind and the tag of the request. -/
theorem test_reply_address :
    ((after (.status (hB 0)) p0).line .branch).reply.map (fun r => (r.address, r.kind, r.tag)) =
      some (0x81#8, 0x02#8, 7#8) := by decide +kernel

/-- R163: a second request before the reply has been sent is discarded. -/
theorem test_overrun :
    (after (.status (hS 0)) (after (.identify (hS 0)) p0)).lines.flags.lineOverrun = true := by decide +kernel

/-- The part after reset while the branch line's buffer holds a request, its reply being sent from a moment on. -/
def sending (moment : Ms) : Part :=
  { p0 with lines := { p0.lines with branch := ⟨false, some (.status (hB 0)), none, some moment⟩ } }

/-- R163: on the branch line a request is lost while the reply is sent, and discarded with LINE_OVERRUN before. -/
theorem test_deaf :
    after (.status (hB 0)) (sending 100000) = sending 100000 ∧
    (after (.status (hB 0)) (sending 100001)).lines.flags.lineOverrun = true := by decide +kernel

/-- R119: the minute of the time set is kept. -/
theorem test_set_clock : (after (.setClock (hB 4) 600119#32) p0).late.retainedMinute = 10001 := by decide +kernel

/-- R45: a vehicle whose tag the part has not seen is AWAY. -/
theorem test_enrol : (after (.enrolVehicle (hB 9) 4102#24 300#32 5#16) p0).fleet =
    [⟨4102, 300, .away, some ⟨0, 4⟩, none, none, none, 10000⟩] := by decide +kernel

/-- R45: the tag ID 0 is refused. -/
theorem test_enrol_bad_tag :
    (after (.enrolVehicle (hB 9) 4102#24 0#32 5#16) p0).replyOn (hB 9) = some (.badField 2) := by decide +kernel

/-- R59, R65: the first request after start-up has number 1, and a free column verifies it at once. -/
theorem test_release :
    let p := after (.release (hB 6) 2#8 1#24 0#16) pIn
    p.replyOn (hB 6) = some (.accepted 1) ∧ p.custody x0 = .releasing 301 1 9000 .movement false ∧
    (p.column 0).reader = some ⟨0, .verify, [], 1, 100000⟩ ∧
    p.sched.queue.map (·.phase) = [.verifying 100000] := by decide +kernel

/-- R66, R69, R12: the fob verified opens the release for the take window of 20 s and strikes the latch. -/
theorem test_verify :
    let p := after (.readAttemptEnd 0 (fob 301 1)) ((pRel (.verifying 99970) (.closed none)).updColumn 0 fun c =>
      { c with reader := some ⟨0, .verify, [], 1, 99970⟩ })
    p.sched.queue.map (·.phase) = [.opened 99970 100000 120000 false] ∧
    (p.engine x0).latch = some (.striking 100000) := by decide +kernel

/-- R67, R34: another fob ends the release MISMATCH and stands as a swap. -/
theorem test_mismatch :
    let p := after (.readAttemptEnd 0 (fob 555 1)) ((pRel (.verifying 99970) (.closed none)).updColumn 0 fun c =>
      { c with reader := some ⟨0, .verify, [], 1, 99970⟩ })
    p.sched.ended = [(5, .mismatch)] ∧ p.custody x0 = .foreign 555 .unknown 10000 ∧
    p.fleet.map (·.status) = [.stray] := by decide +kernel

/-- R5, R8, R70: a removal that qualifies 150 ms after its first sighting at the slot of an OPEN release is a take. -/
theorem test_take :
    let p := after (.candidateQualified x0) ((pRel (.opened 1 2 120000 false) (.heldOpen none)).updEngine x0 fun e =>
      { e with contact := false, candidate := some 99900 })
    p.uptime = 100050 ∧ p.fleet.map (·.status) = [.out .movement] ∧ p.custody x0 = .empty ∧
    p.sched.ended = [(5, .taken)] ∧ (p.engine x0).latch = some (.closing 100050) := by decide +kernel

/-- R28 row 4: an audit read that served a verification meanwhile goes back on the list as AUDIT. -/
theorem test_requeue :
    ({ p0.column 0 with reader := some ⟨0, .audit, [.verify], 1, 99990⟩ }.requeue 0).readList = [⟨0, .audit⟩] := rfl

/-- R9: without a release it is a forced removal. -/
theorem test_forced_removal :
    let p := after (.candidateQualified x0) (pIn.updEngine x0 fun e =>
      { e with contact := false, candidate := some 99900 })
    p.fleet.map (·.status) = [.stray] ∧ p.alarm.buzzer = true ∧ p.alarm.staffLamp = true ∧
    p.lines.attention = true := by decide +kernel

/-- R30: an arrival whose tag is not enrolled is FOREIGN(UNKNOWN). -/
theorem test_unknown_arrival :
    (after (.readAttemptEnd 0 (fob 301 1)) ((withSlot (.unread 9990) true).updColumn 0 fun c =>
      { c with reader := some ⟨0, .arrival, [], 1, 99990⟩ })).custody x0 = .foreign 301 .unknown 9990 := by
  decide +kernel

/-- R96, R97, R92: a return closes the contract at the arrival minute, here 990 minutes late: 17 hours, held at a day. -/
theorem test_return :
    let p := after (.readAttemptEnd 0 (fob 301 1)) { (withSlot (.unread 9990) true).updColumn 0 fun c =>
      { c with reader := some ⟨0, .arrival, [], 1, 99990⟩ } with
        fleet := (pOut .late 9000).fleet, book := (pOut .late 9000).book }
    p.book.ring = [⟨1, 77, 1, .standard, 9100, 9000, 9990, .slot x0, .overdue, 17, 7500, false⟩] ∧
    p.book.contracts = [] ∧ p.custody x0 = .held 301 1 9990 false := by decide +kernel

/-- R15: no open sense 500 ms after the strike is a latch fault. -/
theorem test_latch_fault :
    let p := after (.strikeConfirmTimeout x0) (pRel (.opened 99000 99600 119600 false) (.striking 99600))
    p.uptime = 100100 ∧ (p.record x0).latchFault = true ∧ p.sched.ended = [(5, .latchFault)] ∧
    p.custody x0 = .held 301 1 9000 false := by decide +kernel

/-- R20, R21: a silent board makes its column LOST, with a probe 5 s later. -/
theorem test_board_lost :
    let p := after (.boardSilenceTimeout 0) pIn
    (p.column 0).engine = .lost ∧ (p.column 0).nextProbe = 105000 ∧ (p.record x0).unreachable = true ∧
    p.lamp x0 = .off := by decide +kernel

/-- R106, R107: an unreadable fob in the chute. -/
theorem test_drop_unread :
    let p := after (.chuteReadAttemptEnd []) { p0 with chute := { p0.chute with drop := some ⟨9999, some (3, 100000)⟩ } }
    p.chute.log = [⟨1, 9999, .unread, .inChute⟩] ∧ p.uptime = 100040 ∧ p.alarm.staffLamp = true ∧
    p.alarm.buzzer = false := by decide +kernel

/-- R115, row 3: a fob that reached the pocket at the stop is recorded by the next start-up. -/
theorem test_pocket_after_stop :
    let p := after (.powerOn inputs false) (after .dropDetected (after .supplyStop p0))
    p.chute.log = [] ∧ (after (.startupCompletion []) p).chute.log.map (·.kind) = [.unread] := by decide +kernel

/-- R115, row 2: a fob recorded before the stop is let fall with no new entry, also where a stop comes before it falls,
and the pocket's report of empty drops its number (R104, R106; log entry 38). -/
theorem test_recorded_pocket :
    let start (p : Part) := after (.startupCompletion []) (after (.powerOn inputs false) (after .supplyStop p))
    let p := start { p0 with chute := { p0.chute with
      pocketFob := true, pocketEntry := some 4, log := [⟨4, 9000, .unread, .inChute⟩] } }
    let seen (p : Part) := (p.chute.log.map (·.number), p.chute.pocketEntry, p.chute.drive.isSome)
    seen p = ([4], some 4, true) ∧ seen (start p) = ([4], some 4, true) ∧
    seen (after .pocketEmpty p) = ([4], none, false) := by decide +kernel

/-- R117, R129: the next minute, and the sweep that it begins. -/
theorem test_minute :
    let p := after .minuteBoundary p0
    p.minute = 10001 ∧ p.late.sweep = some ⟨10001, true⟩ ∧ p.uptime = 160000 := by decide +kernel

/-- R150, R151: mains absent for 200 ms with a LOW battery takes MAINS through RESERVE to LOW_RESERVE. -/
theorem test_cascade :
    let p := after .mainsAbsentQualified { p0 with supply := { p0.supply with
      batteryIsLow := true, mainsPin := false, mainsSince := some 99900 } }
    p.supply.mode = .lowReserve ∧ p.uptime = 100100 ∧
    p.lines.notices.map (·.body) = [.supplyChanged .mains .reserve, .alarmRaised 1 .supplyReserve .supply 10000,
      .supplyChanged .reserve .lowReserve, .alarmRaised 2 .supplyLow .supply 10000] := by decide +kernel

/-- R152, R154, R157: a stop, power-on with the boards of columns 1 and 2 answering, and the end of start-up. -/
theorem test_power_cycle :
    let p := after (.powerOn inputs false) (after .supplyStop p0)
    p.supply.phase = .starting .powerOn ∧ (p.column 1).engine = .running ∧ p.uptime = 0 ∧
    (after (.startupCompletion []) p).lines.notices.map (·.body) =
      [.reconciled .powerOn .mains .set 3#16 0#16 0 0] := by decide +kernel

/-- R161, R170: FACTORY CLEAR needs a service hold. -/
theorem test_factory_clear :
    (after (.factoryClear (hS 0) inputs) pIn).replyOn (hS 0) = some (.wrongState .noServiceHold) ∧
    (after (.factoryClear (hS 0) inputs) { pIn with lines := { pIn.lines with holdUntil := some 5 } }).fleet = [] := by
  decide +kernel

/-- R16: rows 1, 4 and 8 of a slot lamp. -/
theorem test_lamp :
    (pRel (.opened 1 2 3 false) (.heldOpen none)).lamp x0 = .greenFastBlink ∧
    ({ pIn with fleet := [{ v1 (.inSlot x0) with hold := some .staff }] } : Part).lamp x0 = .redSteady ∧
    pIn.lamp x0 = .off := by decide +kernel

/-! ## Witnesses: the hypotheses of the statements are met -/

/-- A part ready for requests takes a command of any length on the branch line. -/
theorem commands_any (n : Nat) (p : Part) (h0 : p.halted = false) (hr : p.isReady = true)
    (hb : p.lines.branch.buffer = none) (hn : p.lines.holdUntil = none) : p.commands (hB n) n :=
  ⟨⟨⟨h0, rfl, hb⟩, rfl⟩, hr, by rw [Part.heldOff, hn]; rfl⟩

theorem wit_IdleStep_tick :
    (st p0).pending = [] ∧ (st p0).part.dueEvents = [] := by decide +kernel

theorem wit_IdleStep_due :
    State.reset.pending = [] ∧ State.reset.part.dueEvents ≠ [] := by decide +kernel

theorem wit_DispatchRows :
    (p0.listens (hB 1) ∧ encodeRequest (.identify (hB 1)) = some (hB 1, 0x01#8, []) ∧ (hB 1).bodyLen ≠ 0) ∧
    p0.listens (hB 1) ∧ encodeRequest (.serviceHoldOn (hB 1)) = some (hB 1, 0x30#8, [1#8]) :=
  ⟨⟨⟨rfl, rfl, rfl⟩, rfl, by decide⟩, ⟨rfl, rfl, rfl⟩, rfl⟩

theorem wit_OverrunDiscards :
    (sending 100001).halted = false ∧ ((sending 100001).line .branch).buffer.isSome = true ∧
    (sending 100001).deaf .branch = false ∧ (sending 100000).deaf .branch = true ∧
    encodeRequest (.status (hB 0)) = some (hB 0, 0x02#8, []) := ⟨rfl, rfl, rfl, rfl, rfl⟩

theorem wit_RefusedChangesNothing :
    ∃ t, p0.listens (hB 3) ∧ exec (.readSlot (hB 3) 0#16 1#8) (st p0) = .next t ∧
    t.part.replyOn (hB 3) = some (.badField 1) ∧ (Reply.badField 1).refuses = true :=
  ⟨_, ⟨rfl, rfl, rfl⟩, rfl, rfl, rfl⟩

theorem wit_Broadcasts :
    let a : Part := { p0 with supply := { p0.supply with phase := .starting .powerOn } }
    let b : Part := { p0 with lines := { p0.lines with holdUntil := some 5 } }
    (p0.isReady = true ∧ p0.halted = false ∧ (hC 4).broadcast = true ∧ (hC 4).line = .branch ∧ (hC 4).bodyLen = 4 ∧
      (hC 10).bodyLen = 10 ∧ (hC 0).bodyLen = 0 ∧ p0.lines.holdUntil = none ∧ p0.lines.branch.buffer = none) ∧
    p0.deaf .branch = false ∧ p0.deaf .service = false ∧ broadcastTaken 0x01#8 0 = false ∧
    encodeRequest (.identify (hC 0)) = some (hC 0, 0x01#8, []) ∧
    encodeRequest (.restart (hC 0) inputs) = some (hC 0, 0x28#8, []) ∧ broadcastTaken 0x28#8 0 = true ∧
    (sending 100000).deaf .branch = true ∧ (sending 100001).deaf .branch = false ∧
    (sending 100001).lines.branch.buffer.isSome = true ∧ a.inStartUp = true ∧ a.lines.branch.buffer = none ∧
    b.lines.holdUntil ≠ none ∧ b.lines.branch.buffer = none := by decide +kernel

theorem wit_queries :
    p0.takes (hB 0) 0 ∧ p0.takes (hB 1) 1 ∧ p0.takes (hB 2) 2 ∧ p0.takes (hB 3) 3 ∧ p0.takes (hB 4) 4 ∧ p0.takes (hB 7) 7 :=
  ⟨(takes_any 0 p0 rfl rfl rfl).1, (takes_any 1 p0 rfl rfl rfl).1, (takes_any 2 p0 rfl rfl rfl).1,
    (takes_any 3 p0 rfl rfl rfl).1, (takes_any 4 p0 rfl rfl rfl).1, (takes_any 7 p0 rfl rfl rfl).1⟩

theorem wit_ReadSlot :
    (1 ≤ (384#16).toNat ∧ 1 ≤ (1#8).toNat ∧ (1#8).toNat ≤ 16 ∧ (384#16).toNat + (1#8).toNat ≤ 385) ∧
    384 < (385#16).toNat ∧ (1 ≤ (384#16).toNat ∧ (384#16).toNat ≤ 384 ∧ 385 < (384#16).toNat + (2#8).toNat) :=
  by decide

theorem wit_ReadVehicle :
    pIn.findUnit 1 = some (v1 (.inSlot x0)) ∧ pIn.findTag 301 = some (v1 (.inSlot x0)) ∧ pIn.takes (hB 7) 7 ∧
    (∀ v ∈ pIn.fleet, v.unit ≠ 999999 ∧ v.tag ≠ 4294967294) :=
  ⟨rfl, rfl, (takes_any 7 pIn rfl rfl rfl).1, by decide +kernel⟩

theorem wit_ReadContract :
    (pOut .late 9000).findContract 77 = some (c1 (.active 9100 .late) 9000) ∧ (pOut .late 9000).takes (hB 4) 4 ∧
    (∀ c ∈ (pOut .late 9000).book.contracts, c.number ≠ 4294967294) :=
  ⟨rfl, (takes_any 4 (pOut .late 9000) rfl rfl rfl).1, by decide +kernel⟩

theorem wit_ListClosed :
    let r (n : Nat) : ClosingRecord := ⟨n, 77, 1, .standard, 1, 2, 3, .slot x0, .current, 0, 0, false⟩
    [r 9055, r 9056].Pairwise (fun a b => a.sequence < b.sequence) ∧
    (∀ q ∈ [r 9055, r 9056], 1 ≤ q.sequence ∧ q.sequence ≤ 4294967295) ∧
    ((9049#32).toNat ≤ 9056 + 2147483647 ∧ 9056 ≤ (9049#32).toNat + 2147483647) := by decide

theorem wit_ListClosed_wrapped :
    let r (n : Nat) : ClosingRecord := ⟨n, 77, 1, .standard, 1, 2, 3, .slot x0, .current, 0, 0, false⟩
    let ring := [r 4294967294, r 4294967295, r 1]
    let forward (sequence : BitVec 32) : Nat := (sequence.toNat + 4294967295 - 1) % 4294967295
    ring.length ≤ 64 ∧ (∀ q ∈ ring, 1 ≤ q.sequence ∧ q.sequence ≤ 4294967295) ∧
    (∀ (i : Nat) (a b : ClosingRecord), ring[i]? = some a → ring[i + 1]? = some b →
      b.sequence = if a.sequence = 4294967295 then 1 else a.sequence + 1) ∧
    ring.getLast? = some (r 1) ∧ (ring[1]? = some (r 4294967295) ∧ (4294967295#32).toNat = 4294967295) ∧
    (∀ sequence ∈ [2#32, 2147483648#32, 2147483649#32, 4294967293#32],
      sequence.toNat ≠ 0 ∧ ∀ q ∈ ring, q.sequence ≠ sequence.toNat) ∧
    (forward 2#32 = 1 ∧ forward 2147483648#32 = 2147483647 ∧ forward 2147483649#32 = 2147483648) := by
  refine ⟨by decide, by decide, ?_, rfl, ⟨rfl, by decide⟩, by simp, by decide⟩
  rintro (_ | _ | i) a b ha hb
  · rw [← Option.some.inj ha, ← Option.some.inj hb]; decide
  · rw [← Option.some.inj ha, ← Option.some.inj hb]; decide
  · simp at hb

theorem wit_StartingAndHold :
    let a : Part := { p0 with supply := { p0.supply with phase := .starting .powerOn } }
    let b : Part := { p0 with lines := { p0.lines with holdUntil := some 5 } }
    (a.takes (hB 0) 0 ∧ a.takes (hS 0) 0 ∧ a.inStartUp = true) ∧
    (b.takes (hB 0) 0 ∧ b.takes (hB 3) 3 ∧ b.isReady = true ∧ b.heldOff .branch = true) ∧
    encodeRequest (.chuteEmptied (hB 0)) = some (hB 0, 0x26#8, []) ∧
    (validUnit 999999#24 = true ∧ validTag (4294967294#32).toNat = true ∧ validContract 4294967294#32 = true ∧
      validSlot 384#16 = true ∧ renterClass 2#8 ≠ none ∧ manualReason 2#8 ≠ none) :=
  ⟨⟨(takes_any 0 _ rfl rfl rfl).1, (takes_any 0 _ rfl rfl rfl).2, rfl⟩,
    ⟨(takes_any 0 _ rfl rfl rfl).1, (takes_any 3 _ rfl rfl rfl).1, rfl, rfl⟩, rfl, by decide⟩

theorem wit_commands :
    p0.commands (hB 0) 0 ∧ p0.commands (hB 1) 1 ∧ p0.commands (hB 3) 3 ∧ p0.commands (hB 4) 4 ∧ p0.commands (hB 5) 5 ∧
    p0.commands (hB 6) 6 ∧ p0.commands (hB 8) 8 ∧ p0.commands (hB 9) 9 ∧ p0.commands (hB 10) 10 ∧ p0.commands (hB 19) 19 := by
  refine ⟨?_, ?_, ?_, ?_, ?_, ?_, ?_, ?_, ?_, ?_⟩ <;> exact commands_any _ p0 rfl rfl rfl rfl

theorem wit_Configure :
    p0.takes (hB 10) 10 ∧ 1 < (2#8).toNat ∧ Settings.inRange ⟨29, 60, 360, 2880, 20, 60, true⟩ :=
  ⟨(takes_any 10 p0 rfl rfl rfl).1, by decide, by unfold Settings.inRange; decide⟩

/-- The part with a setting of the audit, the audit of column 1 running, a RECHECK and an AUDIT request pending, and an
audit read of slot 1 in progress. -/
def pAudit (on : Bool) : Part :=
  { (pIn.updColumn 0 fun c => { c with
      readList := [⟨1, .recheck⟩, ⟨4, .audit⟩], reader := some ⟨0, .audit, [], 2, 99990⟩
      auditNext := some 102000, auditPointer := 4 }) with
    late := { p0.late with settings := { p0.late.settings with audit := on } }
    supply := { p0.supply with mainsSince := some 99900 } }

theorem wit_auditFollows :
    let col := (pAudit true).column 0
    (pAudit true).commands (hB 10) 10 ∧ col.engine = .running ∧ (pAudit true).supply.mode = .mains ∧
    (p0.column 0).auditNext = none ∧ col.auditNext ≠ none ∧
    (col.readList = [⟨1, .recheck⟩] ++ ⟨4, .audit⟩ :: [] ∧ ∀ x ∈ [(⟨1, .recheck⟩ : ReadRequest)], x.purpose ≠ .audit) ∧
    (∀ rd, col.reader = some rd → rd.pos ≠ 4) ∧ (col.readList.map (·.pos)).Nodup ∧
    (∀ r ∈ (pAudit true).sched.queue, r.slot ≠ ⟨0, 1⟩) ∧ (∀ r ∈ (pAudit true).sched.queue, r.target = .staffSlot → r.cls = .staff) ∧
    col.reader = some ⟨0, .audit, [], 2, 99990⟩ :=
  ⟨commands_any 10 _ rfl rfl rfl rfl, rfl, rfl, rfl, by decide +kernel, ⟨rfl, by decide⟩, by rintro _ ⟨⟩; decide,
    by decide +kernel, by decide +kernel, by decide +kernel, rfl⟩

/-- R39: the audit stops with its setting, and with MAINS; the audit read in progress goes on. -/
theorem test_audit_stops :
    let left (p : Part) := ((p.column 0).auditNext, (p.column 0).auditPointer, (p.column 0).readList, (p.column 0).reader)
    let stopped : Option Ms × PosId × List ReadRequest × Option Read :=
      (none, 3, [⟨1, .recheck⟩], some ⟨0, .audit, [], 2, 99990⟩)
    left (after (.configure (hB 10) 29#8 60#8 360#16 2880#16 20#8 60#16 0#8) (pAudit true)) = stopped ∧
    left (after .mainsAbsentQualified (pAudit true)) = stopped := by decide +kernel

/-- R121: a wrong audit field is answered first, in start-up too (log entry 37). -/
theorem test_configure_in_start_up :
    let p : Part := { p0 with supply := { p0.supply with phase := .starting .powerOn } }
    let c (audit : Byte) : Instr := .configure (hB 10) 29#8 60#8 360#16 2880#16 20#8 60#16 audit
    (after (c 2#8) p).replyOn (hB 10) = some (.badField 7) ∧ (after (c 1#8) p).replyOn (hB 10) = some .starting := by
  decide +kernel

theorem wit_EnrolVehicle_away :
    p0.commands (hB 9) 9 ∧ p0.findUnit 1 = none ∧ p0.findTag 301 = none ∧ p0.fleet.length < 512 ∧ p0.adoptable 301 = [] ∧
    p0.chute.unknownEntries 301 = [] ∧ p0.quiet :=
  ⟨commands_any 9 p0 rfl rfl rfl rfl, rfl, rfl, by decide, by decide +kernel, rfl, by unfold Part.quiet; decide +kernel⟩

theorem wit_EnrolVehicle_slot :
    let p := withSlot (.foreign 301 .unknown 9000) true
    p.commands (hB 9) 9 ∧ p.adoptable 301 = [x0] ∧ p.findTag 301 = none ∧ (∀ r ∈ p.sched.queue, r.slot ≠ x0) ∧ p.quiet :=
  ⟨commands_any 9 _ rfl rfl rfl rfl, by decide +kernel, rfl, by decide, by unfold Part.quiet; decide +kernel⟩

theorem wit_EnrolVehicle_entry :
    let p : Part := { p0 with chute := { p0.chute with log := [⟨4, 9000, .unknown 301, .inChute⟩, ⟨5, 9001, .unknown 301, .inChute⟩] } }
    p.commands (hB 9) 9 ∧ p.adoptable 301 = [] ∧ p.chute.unknownEntries 301 = [4, 5] ∧ p.quiet :=
  ⟨commands_any 9 _ rfl rfl rfl rfl, by decide +kernel, rfl, by unfold Part.quiet; decide +kernel⟩

theorem wit_EnrolVehicle_refused :
    let v : Vehicle := { v1 .away with home := some x0 }
    let p (fleet : List Vehicle) : Part := { p0 with fleet := fleet }
    let taken (p : Part) (unit tag home : Nat) : Prop := (∃ w ∈ p.fleet, w.unit = unit) ∨ (∃ w ∈ p.fleet, w.tag = tag) ∨
      ∃ w ∈ p.fleet, home ≠ 0 ∧ w.home = slotField (BitVec.ofNat 16 home)
    (∀ fleet, (p fleet).commands (hB 9) 9) ∧ taken (p [v]) 1 302 0 ∧ taken (p [v]) 2 301 0 ∧ taken (p [v]) 2 302 1 ∧
    ¬ taken (p (List.replicate 512 v)) 2 302 2 ∧ 512 ≤ (p (List.replicate 512 v)).fleet.length :=
  ⟨fun _ => commands_any 9 _ rfl rfl rfl rfl, by decide +kernel, by decide +kernel, by decide +kernel, by decide +kernel,
    by decide +kernel⟩

theorem wit_RetireAndAccount :
    pIn.commands (hB 3) 3 ∧ pIn.findUnit 1 = some (v1 (.inSlot x0)) ∧ (v1 (.inSlot x0)).contract = none ∧
    (pOut .late 9000).commands (hB 3) 3 ∧ ((pOut .late 9000).findUnit 1).map (·.status) = some (.out .contract) ∧
    ({ pIn with fleet := [v1 .stray] } : Part).findUnit 1 = some (v1 .stray) ∧
    (let p : Part := { withSlot (.releasing 301 1 9000 .movement false) true with fleet := [v1 (.inSlot x0)] };
      p.commands (hB 3) 3 ∧ p.findUnit 1 = some (v1 (.inSlot x0)) ∧ p.custody x0 = .releasing 301 1 9000 .movement false) :=
  ⟨commands_any 3 pIn rfl rfl rfl rfl, rfl, rfl, commands_any 3 (pOut .late 9000) rfl rfl rfl rfl, rfl, rfl,
    commands_any 3 _ rfl rfl rfl rfl, rfl, rfl⟩

theorem wit_SetHomeAndLocate :
    (pIn.commands (hB 5) 5 ∧ pIn.takes (hB 5) 5 ∧ pIn.findUnit 1 = some (v1 (.inSlot x0))) ∧ slotField 384#16 = some ⟨15, 23⟩ ∧
    (∀ w ∈ pIn.fleet, w.home ≠ slotField 384#16) ∧
    (let p : Part := { pIn with fleet := [v1 .away, ⟨2, 302, .away, some x0, none, none, none, 0⟩] };
      (∃ w ∈ p.fleet, w.home = slotField 1#16 ∧ w.unit ≠ 1) ∧ p.findUnit 1 = some (v1 .away) ∧ (v1 .away).home = none) :=
  ⟨⟨commands_any 5 pIn rfl rfl rfl rfl, (takes_any 5 pIn rfl rfl rfl).1, rfl⟩, by decide, by decide +kernel,
    ⟨_, List.mem_cons_of_mem _ (List.mem_cons_self ..), by decide, by decide⟩, rfl, rfl⟩

theorem wit_HoldAndUnhold :
    let p := pRel .waiting (.closed none)
    (pIn.commands (hB 3) 3 ∧ pIn.liveOf 1 = []) ∧ p.commands (hB 3) 3 ∧ p.liveOf 1 = [rel (.movement 1) .waiting] ∧ p.liveNumbers.Nodup :=
  ⟨⟨commands_any 3 pIn rfl rfl rfl rfl, by decide +kernel⟩, commands_any 3 _ rfl rfl rfl rfl, by decide +kernel, by decide +kernel⟩

theorem wit_OpenContract :
    pIn.commands (hB 19) 19 ∧ renterClass 2#8 = some .priority ∧ pIn.late.clock ≠ .unset ∧ pIn.minute < (141400#32).toNat ∧
    (141400#32).toNat ≤ pIn.minute + 131400 ∧ pIn.findContract 4294967294 = none ∧ pIn.findUnit 1 = some (v1 (.inSlot x0)) ∧
    (pIn.record x0).outOfService = false ∧ (pIn.record x0).unreachable = false ∧ pIn.supply.mode ≠ .lowReserve ∧
    pIn.sched.queue.length < 16 :=
  ⟨commands_any 19 pIn rfl rfl rfl rfl, rfl, by decide, by decide +kernel, by decide +kernel, rfl, rfl, rfl, rfl, by decide, by decide⟩

theorem wit_OpenContract_refused :
    let full : Part := { pIn with book := ⟨List.replicate 384 (c1 (.pending none) 12000), 0, []⟩ }
    (pIn.takes (hB 19) 19 ∧ renterClass 3#8 = none ∧ 1000000 < (1000001#32).toNat) ∧
    ({ pIn with late := Part.atReset.late } : Part).late.clock = .unset ∧
    ((10000#32).toNat ≤ pIn.minute ∧ pIn.minute + 131400 < (141401#32).toNat) ∧
    (∃ c ∈ (pOut .late 9000).book.contracts, c.number = (77#32).toNat) ∧
    (384 ≤ full.book.contracts.length ∧ ∀ c ∈ full.book.contracts, c.number ≠ (78#32).toNat) ∧
    (∀ v ∈ pIn.fleet, v.unit ≠ (2#24).toNat) ∧ ((pOut .late 9000).findUnit 1).map (·.contract) = some (some 77) :=
  ⟨⟨(takes_any 19 pIn rfl rfl rfl).1, by decide, by decide⟩, rfl, by decide +kernel, by decide +kernel, by decide +kernel,
    by decide +kernel, rfl⟩

theorem wit_ExtendContract :
    let p := pOut .overdue 9000
    p.commands (hB 8) 8 ∧ p.findContract 77 = some (c1 (.active 9100 .overdue) 9000) ∧ p.minute < (10001#32).toNat ∧
    ({ p with book :=
  ⟨[c1 (.pending none) 9000], 0, []⟩ } : Part).findContract 77 = some (c1 (.pending none) 9000) := ⟨commands_any 8 _ rfl rfl rfl rfl, rfl, by decide +kernel, rfl⟩

theorem wit_CloseContract :
    (pOut .overdue 9000).commands (hB 5) 5 ∧ manualReason 2#8 = some .returnedElsewhere ∧
    (pOut .overdue 9000).findContract 77 = some (c1 (.active 9100 .overdue) 9000) :=
  ⟨commands_any 5 (pOut .overdue 9000) rfl rfl rfl rfl, rfl, rfl⟩

theorem wit_ReleaseAccepted :
    (pIn.commands (hB 6) 6 ∧ pIn.findUnit 1 = some (v1 (.inSlot x0)) ∧ (pIn.record x0).unreachable = false) ∧
    (let p := withSlot (.foreign 301 .unknown 9000) true;
      p.commands (hB 6) 6 ∧ slotField 1#16 = some x0 ∧ p.staffLiveOn x0 = [] ∧ p.custody x0 = .foreign 301 .unknown 9000) :=
  ⟨⟨commands_any 6 pIn rfl rfl rfl rfl, rfl, rfl⟩, commands_any 6 _ rfl rfl rfl rfl, rfl, by decide +kernel, rfl⟩

/-- The movement of vehicle 1 as RELEASE makes it, and a STAFF_SLOT request accepted after it. -/
def moved (number : Nat) : Release := ⟨number, .movement 1, x0, .standard, .branch, 100000, .waiting, false⟩
def staffed : Release := ⟨6, .staffSlot, x0, .staff, .service, 100000, .waiting, false⟩

/-- A FOREIGN slot 1 that is being read, its latch CLOSED. -/
def pForeign : Part :=
  (withSlot (.foreign 301 .unknown 9000) true).updColumn 0 fun c => { c with reader := some ⟨0, .recheck, [], 2, 99990⟩ }

theorem wit_selection :
    (queued pIn [moved 1]).isBest (moved 1) ∧
    ({ queued pIn [moved 1] with uptime := 101000 } : Part).isBest (moved 1) ∧
    (queued pIn [moved 1, moved 2]).isBest (moved 1) ∧ (queued pIn [moved 1, moved 2]).liveNumbers.Nodup ∧
    (queued pForeign [moved 1, staffed]).isBest staffed ∧
    (pIn.custody x0 = .held 301 1 9000 false ∧ (pIn.column 0).readList = []) ∧
    (pForeign.engine x0).latch = some (.closed none) ∧ (pForeign.column 0).reader = some ⟨0, .recheck, [], 2, 99990⟩ := by
  have best (p : Part) (pre post : List Release) (r : Release) (hq : p.sched.queue = pre ++ r :: post)
      (he : p.eligible r = true)
      (hpre : ∀ q ∈ pre, p.selectionRank r < p.selectionRank q)
      (hpost : ∀ q ∈ post, p.selectionRank r = p.selectionRank q ∧ r.submit ≤ q.submit) : p.isBest r :=
    ⟨(p.eligible_iff r).mp he, pre, post, hq, fun q h _ => .inl (hpre q h), fun q h _ => .inr (hpost q h)⟩
  refine ⟨best _ [] [] _ rfl ?_ ?_ ?_, best _ [] [] _ rfl ?_ ?_ ?_, best _ [] [moved 2] _ rfl ?_ ?_ ?_, ?_,
    best _ [moved 1] [] _ rfl ?_ ?_ ?_, ⟨?_, ?_⟩, ?_, ?_⟩ <;> decide +kernel

/-- R65, R69: of two requests for a column the STAFF one is struck at once, one strike is charged, and the read goes back
on the list. -/
theorem test_staff_slot_selected :
    let p := (queued pForeign [moved 1, staffed]).selection
    (p.findRelease 6).map (·.phase) = some (.opened 100000 100000 120000 false) ∧
    (p.findRelease 1).map (·.phase) = some .waiting ∧ p.sched.strikes = [⟨100000, false⟩] ∧
    (p.engine x0).latch = some (.striking 100000) ∧ (p.column 0).readList = [⟨0, .recheck⟩] := by decide +kernel

/-- Vehicle 1 IN at slot 1 as the record of slot 1 and the queue are given. -/
def pRefused (out lost : Bool) (queue : List Release) : Part :=
  queued (pIn.updSlot x0 fun x => { x with record := { x.record with outOfService := out, unreachable := lost } }) queue

theorem wit_ReleaseRefused :
    let f (v : Vehicle) : Part := { pIn with fleet := [v] }
    let slot (k : Custody) := queued (withSlot k true) [rel .staffSlot .waiting]
    (pIn.takes (hB 6) 6 ∧ pIn.commands (hB 6) 6) ∧ (∀ v ∈ pIn.fleet, v.unit ≠ (2#24).toNat) ∧
    (f { v1 (.inSlot x0) with request := some 5 }).findUnit 1 = some { v1 (.inSlot x0) with request := some 5 } ∧
    (f (v1 .stray)).findUnit 1 = some (v1 .stray) ∧
    (f { v1 (.inSlot x0) with hold := some .staff }).findUnit 1 = some { v1 (.inSlot x0) with hold := some .staff } ∧
    ((pRefused true false []).record x0).outOfService = true ∧ ((pRefused false true []).record x0).unreachable = true ∧
    ({ pIn with supply := { pIn.supply with mode := .lowReserve } } : Part).supply.mode = .lowReserve ∧
    16 ≤ (pRefused false false (List.replicate 16 (rel (.movement 9) .waiting))).sched.queue.length ∧
    (∃ r ∈ (slot (.unread 9000)).sched.queue, r.target = .staffSlot ∧ r.slot = x0) ∧
    (∀ k ∈ [Custody.empty, .held 301 1 9000 false, .releasing 301 1 9000 .movement false, .unread 9000,
      .foreign 301 .unknown 9000], (withSlot k true).custody x0 = k ∧ (withSlot k true).sched.queue = []) ∧
    slotField 385#16 = none :=
  ⟨⟨(takes_any 6 pIn rfl rfl rfl).1, commands_any 6 pIn rfl rfl rfl rfl⟩, by decide +kernel, rfl, rfl, rfl, rfl, rfl, rfl,
    by decide +kernel, by decide +kernel, by decide +kernel, by decide⟩

theorem wit_CancelRelease :
    let p := pRel .waiting (.closed none)
    let q : Part := { pIn with sched := { pIn.sched with ended := [(5, .taken)] } }
    (p.commands (hB 1) 1 ∧ p.findRelease 5 = some (rel (.movement 1) .waiting)) ∧ (q.commands (hB 1) 1 ∧ 5 ∉ q.liveNumbers ∧
    q.sched.ended.find? (fun e => e.1 == 5) = some (5, .taken)) ∧ 255 ∉ q.liveNumbers ∧ (∀ e ∈ q.sched.ended, e.1 ≠ 255) :=
  ⟨⟨commands_any 1 _ rfl rfl rfl rfl, rfl⟩, ⟨commands_any 1 _ rfl rfl rfl rfl, by decide +kernel, rfl⟩, by decide +kernel, by decide +kernel⟩

theorem wit_SlotService :
    (pIn.commands (hB 3) 3 ∧ slotField 1#16 = some x0 ∧ pIn.releaseNames x0 = false ∧ (pIn.record x0).outOfService = false ∧
      pIn.quiet ∧ (pIn.column 0).engine ≠ .reconciling) ∧ (pRel .waiting (.closed none)).releaseNames x0 = true ∧
    (let p (col : EngineState) (isOpen : Bool) : Part := (pIn.updSlot x0 fun s =>
        { record := { s.record with outOfService := true }, engine := { s.engine with senseOpen := isOpen } }).updColumn 0
          fun c => { c with engine := col };
      ((p .running false).commands (hB 3) 3 ∧ ((p .running false).record x0).outOfService = true ∧
        ((p .running false).column 0).engine = .running ∧ ((p .running false).engine x0).senseOpen = false ∧
        (p .running false).liveOn x0 = [] ∧ (p .running false).alarmRoom) ∧ ((p .running true).engine x0).senseOpen = true ∧
        ((p .reconciling false).column 0).engine = .reconciling ∧ ((p .lost false).column 0).engine = .lost) :=
  ⟨⟨commands_any 3 pIn rfl rfl rfl rfl, rfl, by decide +kernel, rfl, by unfold Part.quiet; decide +kernel, by decide⟩,
    by decide +kernel, ⟨commands_any 3 _ rfl rfl rfl rfl, rfl, rfl, rfl, by decide +kernel,
      by unfold Part.alarmRoom Part.alarmsDistinct; decide +kernel⟩, rfl, rfl, rfl⟩

theorem wit_AckAlarm :
    let p := withAlarms p0 [alarm 65535 .chuteFull .chute .activeUnacked]
    p.takes (hB 3) 3 ∧ p.heldOff .branch = false ∧
    p.alarm.list.find? (fun b => b.number == (65535#16).toNat) = some (alarm 65535 .chuteFull .chute .activeUnacked) ∧
    p.alarmsDistinct := ⟨(takes_any 3 _ rfl rfl rfl).1, rfl, rfl, by unfold Part.alarmsDistinct; decide +kernel⟩

/-- R140 by the state of a record, with and without an event alarm. -/
theorem wit_AckAlarm_states :
    (alarm 1 .fobSwap (.vehicle 1) .activeUnacked).acked = none ∧
    (alarm 1 .forcedRemoval (.slot x0) .activeUnacked).acked = none ∧
    (alarm 1 .forcedRemoval (.vehicle 1) .activeUnacked).acked = some .activeAcked ∧
    (alarm 1 .fobSwap (.slot x0) .activeAcked).acked = some .activeAcked ∧
    (alarm 1 .chuteFull .chute (.clearedUnacked 3)).acked = none := by decide

theorem wit_ServiceHold :
    let p : Part := { p0 with lines := { p0.lines with holdUntil := some 5 } }
    p0.takes (hS 1) 1 ∧ (hS 1).line = .service ∧ p.takes (hS 1) 1 ∧ p.lines.holdUntil = some 5 ∧ p.halted = false :=
  ⟨(takes_any 1 p0 rfl rfl rfl).2, rfl, (takes_any 1 _ rfl rfl rfl).2, rfl, rfl⟩

theorem wit_StartUpCommands :
    let p : Part := { p0 with lines := { p0.lines with holdUntil := some 5 } }
    let a : Part := { p0 with supply := { p0.supply with phase := .starting .powerOn } }
    p0.commands (hB 0) 0 ∧ (p0.takes (hS 0) 0 ∧ p0.lines.holdUntil = none) ∧ (p.takes (hS 0) 0 ∧ p.isReady = true ∧
    p.lines.holdUntil ≠ none) ∧ (a.takes (hS 0) 0 ∧ a.inStartUp = true) ∧
    ({ p0 with supply := { p0.supply with phase := .halted } } : Part).halted = true :=
  ⟨commands_any 0 p0 rfl rfl rfl rfl, ⟨(takes_any 0 p0 rfl rfl rfl).2, rfl⟩,
    ⟨(takes_any 0 _ rfl rfl rfl).2, rfl, by decide⟩, ⟨(takes_any 0 _ rfl rfl rfl).2, rfl⟩, rfl⟩

/-- Vehicle 1 IN with contract 77 PENDING, its slot RELEASING for the contract or HELD. -/
def pPending (releasing : Bool) : Part :=
  { withSlot (if releasing then .releasing 301 1 9000 .contract false else .held 301 1 9000 false) true with
    fleet := [{ v1 (.inSlot x0) with contract := some 77 }], book := ⟨[c1 (.pending none) 12000], 0, []⟩ }

theorem wit_StartUpLeaves :
    let b (p : Part) : Prop := p.tablesDistinct ∧ p.alarmsDistinct ∧ p.alarm.list.length ≤ 30 ∧ p.late.clock ≠ .unset ∧
      c1 (.pending none) 12000 ∈ p.book.contracts ∧ (c1 (.pending none) 12000).isActive = false ∧
      p.findUnit 1 = some { v1 (.inSlot x0) with contract := some 77 }
    b (pPending true) ∧ (pPending true).custody x0 = .releasing 301 1 9000 .contract false ∧
    b (pPending false) ∧ (pPending false).custody x0 = .held 301 1 9000 false ∧
    ((pPending false).startUp .restart inputs false).lines.flags.noticesLost = false := by
  unfold Part.tablesDistinct Part.alarmsDistinct; decide +kernel

theorem wit_StartUpLeaves_active :
    let p := pOut .late 9000
    p.tablesDistinct ∧ p.alarmsDistinct ∧ p.alarm.list.length ≤ 30 ∧ c1 (.active 9100 .late) 9000 ∈ p.book.contracts ∧
    (c1 (.active 9100 .late) 9000).isActive = true ∧ 1 ≤ (c1 (.active 9100 .late) 9000).number ∧
    (∀ x tag u m f, p.custody x ≠ .releasing tag u m .contract f) ∧
    (p.column 0).fitted = true ∧ (0#16).getLsbD (0 : ColId).val = false := by
  refine ⟨by unfold Part.tablesDistinct; decide +kernel, by unfold Part.alarmsDistinct; decide +kernel, by decide,
    by decide +kernel, rfl, by decide, ?_, rfl, rfl⟩
  have empty : ∀ x, (pOut .late 9000).custody x = .empty := by
    rintro ⟨c, i⟩; revert c i; decide +kernel
  intro x tag u m f h
  cases (empty x).symm.trans h

theorem wit_FrameEvents :
    p0.halted = false ∧ p0.deaf .branch = false ∧ p0.deaf .service = false ∧ (sending 100000).halted = false ∧
    (sending 100000).deaf .branch = true := ⟨rfl, rfl, rfl, rfl, rfl⟩

theorem wit_ContactsAndSense :
    let r := rel (.movement 1) (.opened 1 2 3 true)
    let p := (pRel (.opened 1 2 3 true) (.heldOpen none)).updEngine x0 fun e => { e with contact := false, candidate := some 90000 }
    (pIn.halted = false ∧ pIn.passedOn x0 = none ∧ (pIn.engine x0).latch = some (.closed none)) ∧
    (p.halted = false ∧ p.passedOn x0 = some r ∧ (p.engine x0).qualified = some true ∧ (p.engine x0).candidate ≠ none) ∧
    ((pRel .waiting (.closing 7)).engine x0).latch = some (.closing 7) :=
  ⟨⟨rfl, rfl, rfl⟩, ⟨rfl, rfl, rfl, by decide +kernel⟩, rfl⟩

theorem wit_QualifiedArrival :
    let p (k : Custody) := (withSlot k false).updEngine x0 fun e => { e with contact := true, candidate := some 99900 }
    ((p .empty).halted = false ∧ (p .empty).quiet ∧ ((p .empty).engine x0).qualified = some false ∧
      ((p .empty).engine x0).candidate = some 99900 ∧ (p .empty).custody x0 = .empty ∧
      ((p .empty).column 0).engine.watches = true) ∧
    (∀ k ∈ [Custody.held 301 1 9000 false, .releasing 301 1 9000 .movement false, .unread 9000, .foreign 301 .unknown 9000],
      (p k).halted = false ∧ (p k).alarmRoom ∧ ((p k).engine x0).qualified = some false ∧
      ((p k).engine x0).candidate = some 99900 ∧ (p k).custody x0 = k ∧ k ≠ .empty ∧
      ((p k).column 0).engine.watches = true) := by
  unfold Part.quiet Part.alarmRoom Part.alarmsDistinct; decide +kernel

theorem wit_ForcedRemoval :
    let f (k : Custody) := (withSlot k true).updEngine x0 fun e => { e with contact := false, candidate := some 99900 }
    let p := f (.held 301 1 9000 false)
    (p.halted = false ∧ p.alarmRoom ∧ (p.engine x0).qualified = some true ∧ (p.engine x0).candidate = some 99900 ∧
      p.openOn x0 = none ∧ p.custody x0 = .held 301 1 9000 false) ∧ (f (.unread 9000)).custody x0 = .unread 9000 ∧
    (f (.unread 9000)).alarmRoom ∧ (f (.unread 9000)).openOn x0 = none :=
  ⟨⟨rfl, by unfold Part.alarmRoom Part.alarmsDistinct; decide +kernel, rfl, rfl, rfl, rfl⟩, rfl,
    by unfold Part.alarmRoom Part.alarmsDistinct; decide +kernel, rfl⟩

theorem wit_Take :
    let g (t : Target) : Part := queued ((pRel .waiting (.heldOpen none)).updEngine x0 fun e =>
        { e with contact := false, candidate := some 99900 }) [rel t (.opened 1 2 3 false)]
    (∀ t ∈ [Target.movement 1, .staffVehicle 1, .contract 1 77, .staffSlot],
      (g t).openOn x0 = some (rel t (.opened 1 2 3 false)) ∧ (g t).halted = false ∧ ((g t).engine x0).qualified = some true ∧
      ((g t).engine x0).candidate = some 99900 ∧ (g t).custody x0 = .releasing 301 1 9000 .movement false) ∧
    ({ g (.contract 1 77) with book := ⟨[c1 (.pending (some 5)) 9000], 0, []⟩ } : Part).findContract 77 =
      some (c1 (.pending (some 5)) 9000) := ⟨by decide +kernel, rfl⟩

theorem wit_LatchFaults :
    let f (l : Latch) (b : Bool) := pIn.updEngine x0 fun e => { e with latch := some l, senseOpen := b }
    (pIn.halted = false ∧ pIn.alarmRoom) ∧ ((f (.striking 9) false).engine x0).senseOpen = false ∧
    ((f (.heldOpen (some 9)) false).engine x0).latch = some (.heldOpen (some 9)) ∧ ((f (.closing 9) true).engine x0).senseOpen = true ∧
    ((f (.closed (some 9)) true).engine x0).latch = some (.closed (some 9)) ∧ (p0.engine x0).latch = none :=
  ⟨⟨rfl, by unfold Part.alarmRoom Part.alarmsDistinct; decide +kernel⟩, rfl, rfl, rfl, rfl, rfl⟩

theorem wit_BoardLostAndProbed :
    let lost (p : Part) := p.updColumn 0 fun c => { c with engine := .lost, nextProbe := 100500 }
    let p := lost pIn
    let q (b : Bool) := lost ((pPending true).updEngine x0 fun e => { e with contact := b })
    (pIn.halted = false ∧ (pIn.column 0).engine.watches = true ∧ pIn.alarmRoom) ∧
    (p.halted = false ∧ (p.column 0).engine = .lost ∧ p.quiet) ∧
    ∀ b, (q b).halted = false ∧ ((q b).column 0).engine = .lost ∧ ((q b).record x0).outOfService = false ∧
      (q b).custody x0 = .releasing 301 1 9000 .contract false ∧ (q b).tablesDistinct ∧
      (∀ i : PosId, i ≠ 0 → (q b).custody ⟨0, i⟩ = .empty) ∧ ((q b).engine x0).contact = b ∧
      (q b).findUnit 1 = some { v1 (.inSlot x0) with contract := some 77 } ∧
      (q b).findContract 77 = some (c1 (.pending none) 12000) ∧ (c1 (.pending none) 12000).isActive = false := by
  unfold Part.quiet Part.alarmRoom Part.alarmsDistinct Part.tablesDistinct; decide +kernel

theorem wit_ReaderAndAudit :
    let p := pIn.updColumn 0 fun c => { c with reader := some ⟨0, .arrival, [], 2, 99990⟩, auditNext := some 100000 }
    let q : Part := { p0 with chute := { p0.chute with drop := some ⟨9999, some (2, 99990)⟩ } }
    (p.halted = false ∧ p.quiet ∧ (p.column 0).reader = some ⟨0, .arrival, [], 2, 99990⟩ ∧ classify [] = .noResponse) ∧
    q.chute.drop = some ⟨9999, some (2, 99990)⟩ ∧ (p.column 0).auditNext = some 100000 ∧ pIn.auditable x0 = true ∧
    (p0.auditable x0 = false) :=
  ⟨⟨rfl, by unfold Part.quiet; decide +kernel, rfl, rfl⟩, rfl, rfl, by decide +kernel, by decide +kernel⟩

theorem wit_Identification :
    let f (fleet : List Vehicle) : Part := { (withSlot (.unread 9990) true).updColumn 0 fun c =>
        { c with reader := some ⟨0, .arrival, [], 3, 99990⟩ } with fleet := fleet }
    ((f []).halted = false ∧ (f []).alarmRoom ∧ ((f []).column 0).reader = some ⟨0, .arrival, [], 3, 99990⟩ ∧
      (f []).custody x0 = .unread 9990 ∧ (f []).findTag 301 = none) ∧ classify (fob 301 1) = .good 301 1 ∧
    classify (fob 301 2) = .good 301 2 ∧ classify [] = .noResponse ∧
    (f [v1 (.inSlot ⟨1, 0⟩)]).findTag 301 = some (v1 (.inSlot ⟨1, 0⟩)) ∧ (f [v1 .stray]).findTag 301 = some (v1 .stray) ∧
    (f [v1 .stray]).liveOn x0 = [] ∧
    (let p : Part := { pOut .late 9000 with columns := (f []).columns };
      (p.findTag 301).map (·.status) = some (.out .contract) ∧ p.findContract 77 = some (c1 (.active 9100 .late) 9000) ∧
      p.custody x0 = .unread 9990) :=
  ⟨⟨rfl, by unfold Part.alarmRoom Part.alarmsDistinct; decide +kernel, rfl, rfl, rfl⟩, by decide +kernel, by decide +kernel, rfl,
    rfl, rfl, by decide +kernel, rfl, rfl, rfl⟩

theorem wit_Identification_notices :
    let w : Vehicle := ⟨2, 302, .out .staff, some x0, none, none, none, 0⟩
    let p (status : VehicleStatus) : Part := { (withSlot (.unread 9990) true).updColumn 0 fun c =>
        { c with reader := some ⟨0, .arrival, [], 3, 99990⟩ } with fleet := [v1 status, w] }
    ∀ status ∈ [VehicleStatus.out .movement, .out .staff, .away, .stray, .dropped 3],
      (p status).halted = false ∧ (p status).alarmRoom ∧ (p status).findTag 301 = some (v1 status) ∧
      (p status).liveOn x0 = [] ∧ (p status).findHome x0 = some w ∧ w.unit ≠ 1 ∧
      (after (.readAttemptEnd 0 (fob 301 1)) (p status)).lines.flags.noticesLost = false := by
  unfold Part.alarmRoom Part.alarmsDistinct; decide +kernel

theorem wit_ForeignReads :
    let p (reason : ForeignReason) (rd : Read) (fleet : List Vehicle) : Part :=
      { queued (withSlot (.foreign 301 reason 9000) true) [rel .staffSlot .waiting] with fleet := fleet }.updColumn 0
        fun c => { c with reader := some rd }
    ∀ rd ∈ [(⟨0, .recheck, [], 3, 99990⟩ : Read), ⟨0, .audit, [], 3, 99990⟩],
      ∀ reason ∈ [ForeignReason.unknown, .retired, .duplicate, .wrongKind], ∀ fleet ∈ [[], [v1 .away], [v1 (.inSlot ⟨1, 0⟩)]],
        (p reason rd fleet).halted = false ∧ (p reason rd fleet).alarmsDistinct ∧
        (p reason rd fleet).alarm.list.length ≤ 45 ∧ ((p reason rd fleet).column 0).reader = some rd ∧
        (p reason rd fleet).custody x0 = .foreign 301 reason 9000 ∧ (p reason rd fleet).liveNumbers.Nodup ∧
        (∀ r ∈ (p reason rd fleet).liveOn x0, r.target = .staffSlot) ∧
        (∀ q ∈ (p reason rd fleet).sched.queue, q.isVerifying = true → q.target ≠ .staffSlot) := by
  unfold Part.alarmsDistinct; decide +kernel

theorem wit_HeldAndReleasingReads :
    let g (p : Part) := p.updColumn 0 fun c => { c with reader := some ⟨0, .audit, [], 3, 99990⟩ }
    let v2 (status : VehicleStatus) : Vehicle := ⟨2, 555, status, none, none, none, none, 0⟩
    let joined (p : Part) (status : VehicleStatus) : Part := { p with fleet := p.fleet ++ [v2 status] }
    let r := rel (.movement 1) (.verifying 99950)
    let p := g (pRel (.verifying 99950) (.closed none))
    ((g pIn).halted = false ∧ (g pIn).alarmsDistinct ∧ (g pIn).alarm.list.length ≤ 45 ∧
      ((g pIn).column 0).reader = some ⟨0, .audit, [], 3, 99990⟩ ∧
      (g pIn).custody x0 = .held 301 1 9000 false ∧ (g pIn).liveOn x0 = [] ∧ (g pIn).findTag 555 = none) ∧
    (p.halted = false ∧ p.alarmsDistinct ∧ (∀ q ∈ p.sched.queue, q.isVerifying = true → q.target ≠ .staffSlot) ∧
      p.custody x0 = .releasing 301 1 9000 .movement false ∧ p.verifyingOn x0 = some r ∧
      p.liveNumbers.Nodup ∧ p.liveOn x0 = [r] ∧ (∀ q ∈ p.liveOf 1, q = r) ∧ p.findTag 555 = none) ∧
    (∀ status ∈ [VehicleStatus.inSlot ⟨1, 0⟩, .stray], (joined (g pIn) status).findTag 555 = some (v2 status) ∧
      (joined p status).findTag 555 = some (v2 status) ∧ (joined p status).liveOn x0 = [r] ∧
      (∀ q ∈ (joined p status).liveOf 1, q = r) ∧ (v2 status).tag = 555 ∧ (v2 status).unit ≠ 1) ∧
    classify (fob 301 1) = .good 301 1 ∧ classify (fob 555 1) = .good 555 1 := by
  unfold Part.alarmsDistinct; decide +kernel

theorem wit_ReleaseTimers :
    let a : Part := { p0 with sched := { p0.sched with strikes := [⟨99000, false⟩] } }
    let b := pRel (.opened 1 2 100500 false) (.heldOpen none)
    let c := b.updEngine x0 fun e => { e with contact := false, candidate := some 99900 }
    (a.halted = false ∧ a.sched.strikes.find? (fun k => !k.left) = some ⟨99000, false⟩) ∧
    (pRel .waiting (.closed none)).findRelease 5 = some (rel (.movement 1) .waiting) ∧
    (b.findRelease 5 = some (rel (.movement 1) (.opened 1 2 100500 false)) ∧ (b.engine x0).removing = false ∧
      (Latch.heldOpen none).driven = true) ∧ c.findRelease 5 = some (rel (.movement 1) (.opened 1 2 100500 false)) ∧
    (c.engine x0).removing = true ∧ c.quiet :=
  ⟨⟨rfl, rfl⟩, rfl, ⟨rfl, rfl, rfl⟩, rfl, rfl, by unfold Part.quiet; decide +kernel⟩

theorem wit_LocateAndPocketTimers :
    let f (d : Option PocketDrive) : Chute := { p0.chute with drive := d }
    (pIn.halted = false ∧
      ((pIn.updEngine x0 fun e => { e with locateUntil := some 100500 }).engine x0).locateUntil = some 100500) ∧
    (p0.isReady = true ∧ p0.chute.flapLocked = false ∧ p0.chute.drop = none ∧ p0.chute.drive = none) ∧
    (Part.atReset.isReady = false ∧ Part.atReset.chute.flapLocked = true) ∧ (f (some ⟨9, true⟩)).drive = some ⟨9, true⟩ ∧
    (f (some ⟨9, false⟩)).drive = some ⟨9, false⟩ := ⟨⟨rfl, rfl⟩, ⟨rfl, rfl, rfl, rfl⟩, ⟨rfl, rfl⟩, rfl, rfl⟩

theorem wit_DropRecorded :
    let chute : Chute :=
      { p0.chute with log := List.replicate 96 ⟨1, 1, .unread, .takenOut⟩, drop := some ⟨9999, some (3, 99990)⟩ }
    let f (fleet : List Vehicle) : Part := { p0 with fleet := fleet, chute := chute }
    let out : Part := { pOut .late 9000 with chute := chute }
    let w : Vehicle := { v1 (.out .contract) with contract := some 77 }
    ((f []).halted = false ∧ (f []).chute.drop = some ⟨9999, some (3, 99990)⟩ ∧ (f []).chute.log.length ≤ 96 ∧
      (f []).chute.lastEntry ≤ 65535 ∧ (f []).lines.notices.length ≤ 27 ∧ (f []).alarmRoom ∧ (f []).findTag 301 = none) ∧
    (∀ status ∈ [VehicleStatus.inSlot x0, .dropped 3, .away, .stray, .out .staff],
      (f [v1 status]).findTag 301 = some (v1 status) ∧ (f [v1 status]).findUnit 1 = some (v1 status)) ∧
    (out.halted = false ∧ out.alarmRoom ∧ out.lines.notices.length ≤ 27 ∧ out.findTag 301 = some w ∧
      out.findUnit 1 = some w ∧ out.findContract 77 = some (c1 (.active 9100 .late) 9000)) ∧
    classify (fob 301 1) = .good 301 1 ∧ classify (fob 301 2) = .good 301 2 ∧ classify [] = .noResponse := by
  unfold Part.alarmRoom Part.alarmsDistinct; decide +kernel

theorem wit_MinuteSweep :
    let sweep (full : Bool) (due : Minute) : Part :=
      { pOut .late due with late := { p0.late with sweep := some ⟨10000, full⟩, sweepNumber := 3 } }
    (p0.halted = false ∧ p0.isReady = true ∧ p0.late.clock ≠ .unset ∧ p0.late.sweep = none) ∧
    (sweep true 9000).late.sweep = some ⟨10000, true⟩ ∧ Part.atReset.isReady = false ∧
    (sweep true 9000).book.dueList = [] ++ c1 (.active 9100 .late) 9000 :: [] ∧
    (c1 (.active 9100 .late) 9000).mark ≠ some 3 ∧
    (sweep true 9000).findContract 77 = some (c1 (.active 9100 .late) 9000) ∧
    (sweep false 10060).book.dueList = [] ++ c1 (.active 9100 .late) 10060 :: [] ∧ 10060 ≤ 10000 + (sweep false 10060).late.settings.prewarn ∧
    (10000 + (sweep false 10061).late.settings.prewarn < 10061) ∧ (evaluate Settings.defaults (c1 (.active 9100 .late) 9000) 10000).level = .overdue ∧
    (sweep true 9000).alarmRoom :=
  ⟨⟨rfl, rfl, by decide, rfl⟩, rfl, rfl, rfl, by decide, rfl, rfl, by decide, by decide, by decide,
    by unfold Part.alarmRoom Part.alarmsDistinct; decide +kernel⟩

theorem wit_LevelAndHours :
    Settings.defaults.inRange ∧ (5000030 : Nat) ≤ 71582788 ∧ 30 < Settings.defaults.t2 :=
  ⟨by unfold Settings.inRange; decide, by decide, by decide⟩

theorem wit_SupplyModes :
    let f (m : Mode) (isLow : Bool) : Part := { pRel (.verifying 99950) (.closed none) with
      supply := { p0.supply with mode := m, batteryIsLow := isLow, mainsSince := some 99900, batterySince := some 99000 } }
    ∀ x ∈ [(Mode.mains, false), (.mains, true), (.reserve, false), (.reserve, true), (.lowReserve, true)],
      (f x.1 x.2).halted = false ∧ (f x.1 x.2).isReady = true ∧ (f x.1 x.2).liveNumbers.Nodup ∧
      (f x.1 x.2).supply.mode = x.1 ∧ (f x.1 x.2).supply.batteryIsLow = x.2 ∧
      (f x.1 x.2).supply.mainsSince = some 99900 ∧ (f x.1 x.2).supply.batterySince = some 99000 ∧
      (f x.1 x.2).sched.inFlight ≤ (f x.1 x.2).supply.mode.holdLimit ∧ (f x.1 x.2).alarmRoom ∧
      (f x.1 x.2).alarm.list.length ≤ 46 := by
  unfold Part.alarmRoom Part.alarmsDistinct; decide +kernel

theorem wit_StopAndCompletion :
    let a : Part := { pIn with supply := { pIn.supply with phase := .starting .restart } }
    let b := a.updColumn 0 fun c => { c with engine := .reconciling }
    let h : Part := { p0 with supply := { p0.supply with phase := .halted } }
    let c (n : Nat) : Part := { a with chute := { a.chute with pocketFob := true, pocketEntry := some n, log := [⟨4, 9000, .unread, .inChute⟩] } }
    pIn.halted = false ∧ h.halted = true ∧ a.supply.phase = .starting .restart ∧ (b.column 0).engine = .reconciling ∧
    (∀ i : ColId, (a.column i).engine ≠ .reconciling) ∧ a.lines.notices.length ≤ 30 ∧ a.chute.pocketFob = false ∧
    (∃ e ∈ (c 4).chute.log, (c 4).chute.pocketEntry = some e.number) ∧ (∀ e ∈ (c 5).chute.log, (c 5).chute.pocketEntry ≠ some e.number) :=
  ⟨rfl, rfl, rfl, rfl, by decide +kernel, by decide, rfl, ⟨_, List.mem_cons_self .., rfl⟩, by decide +kernel⟩

theorem wit_FobRecords :
    classify ([0x00#8, 0x00#8] ++ 0x01#8 :: [0x2C#8, 0x01#8, 0x3E#8]) = .good 300 1 ∧ (0x01#8 : Byte) ≠ 0x02#8 :=
  by decide +kernel

theorem wit_AlarmRules :
    let f (s : AlarmState) := withAlarms p0 [alarm 4 .chuteFull .chute s]
    let full (s : AlarmState) := withAlarms p0 ((List.range 48).map fun n => alarm (n + 1) .overdue (.contract n) s)
    p0.alarm.lastNumber ≤ 65535 ∧ (f .activeUnacked).alarmsDistinct ∧ (f .activeAcked).alarmsDistinct ∧ (f (.clearedUnacked 3)).alarmsDistinct ∧
    p0.alarmsDistinct ∧ (full .activeAcked).alarmsDistinct ∧ (full (.clearedUnacked 3)).alarmsDistinct ∧
    (full .activeAcked).alarm.list.length = 48 ∧ (∀ a ∈ (full .activeAcked).alarm.list, ¬ (a.kind = .chuteFull ∧ a.subject = .chute)) ∧
    (full (.clearedUnacked 3)).alarm.list.head? = some (alarm 1 .overdue (.contract 0) (.clearedUnacked 3)) := by
  unfold Part.alarmsDistinct; decide +kernel

theorem wit_LampsAndBeacons :
    (pIn.column 0).engine.watches = true ∧ (pIn.column 1).engine.watches = false ∧ pIn.custody x0 = .held 301 1 9000 false ∧
    (∃ r ∈ (pRel (.opened 1 2 3 false) (.heldOpen none)).sched.queue, r.isOpen = true ∧ r.slot = x0) :=
  ⟨rfl, rfl, rfl, ⟨_, List.mem_cons_self .., rfl, rfl⟩⟩

theorem wit_kept :
    (p0.signalsFollow ∧ p0.flapFollows ∧ p0.withinCapacities ∧ p0.withinBudget ∧ p0.chuteWithin ∧
      ¬ p0.unrecordedAtBound) ∧ p0.recordsLawful ∧
    (pRel (.verifying 99950) (.closed none)).withinBudget ∧ ∃ t, step (st p0) = .next t := by
  refine ⟨⟨?_, ?_, ?_, ?_, ?_, ?_⟩, ?_, ?_, _, rfl⟩
  · unfold Part.signalsFollow; decide +kernel
  · unfold Part.flapFollows; decide +kernel
  · unfold Part.withinCapacities; decide +kernel
  · unfold Part.withinBudget; decide +kernel
  · exact ⟨by decide +kernel, by decide +kernel, fun d _ h => nomatch h⟩
  · exact fun h => nomatch h.1
  · refine ⟨by unfold Settings.inRange; decide +kernel, ?_, ?_, ?_, ?_, ?_⟩
    · intro x; revert x; rintro ⟨c, i⟩; revert c i; decide +kernel
    · unfold Part.tablesDistinct; decide +kernel
    · unfold Part.alarmsDistinct; decide +kernel
    · unfold Part.chargesLawful; decide +kernel
    · decide +kernel
  · unfold Part.withinBudget; decide +kernel

theorem wit_FrameRoundTrip :
    let i : Instr := .cancelRelease (hB 1) 255#8
    i.wf = true ∧ encodeRequest i = some (hB 1, 0x24#8, [255#8]) ∧ (hB 1).bodyLen = [255#8].length ∧
    (∀ b ∈ [0x00#8, 0xFF#8], b ≠ 0x7E#8) ∧
    (∃ a b, encodeFrame 8 i = some ([0x7E#8, 8#8, 1#8, 0x24#8, 7#8, 255#8] ++ [a, b])) ∧ 240 < (241#8).toNat :=
  ⟨by decide, rfl, rfl, by decide, ⟨_, _, rfl⟩, by decide⟩

end Sys2Proof.Tests
end

section
/-! PROOFS. The laws of the records (RecordsKept): one lemma for each operation, in the order of the definitions, saying
that it keeps the records lawful; the statement follows command by command. -/

namespace Sys2Proof.Machine

/-! ## Columns: the flags of R2 -/

/-- The latch-fault flag of a slot is not set without its out-of-service flag (R2). -/
def Slot.flagsAgree (x : Slot) : Prop := x.record.latchFault = true → x.record.outOfService = true

/-- The flags of every slot of a column agree (R2). -/
def Column.flagsAgree (col : Column) : Prop := ∀ i : PosId, col.slots[i].flagsAgree

theorem Part.flagsAgree_iff (p : Part) : p.flagsAgree ↔ ∀ c, (p.column c).flagsAgree :=
  ⟨fun h c i => h ⟨c, i⟩, fun h x => h x.col x.pos⟩

/-- What `updSlot` leaves in the slots of a column. -/
theorem Column.updSlot_slots_get (col : Column) (i j : PosId) (f : Slot → Slot) :
    (col.updSlot i f).slots[j] = if i = j then f col.slots[i] else col.slots[j] := by
  by_cases h : i = j
  · subst h; simp [Column.updSlot]
  · have : i.val ≠ j.val := fun e => h (Fin.ext e)
    simp [Column.updSlot, Vector.getElem_set_ne, this, h]

theorem Column.flagsAgree.updSlot {col : Column} (h : col.flagsAgree) {i : PosId} {f : Slot → Slot}
    (hf : ∀ x : Slot, x.flagsAgree → (f x).flagsAgree) : (col.updSlot i f).flagsAgree := by
  intro j
  rw [Column.updSlot_slots_get]
  split
  · exact hf _ (h i)
  · exact h j

theorem Column.flagsAgree.mapSlots {col : Column} (h : col.flagsAgree) {f : Slot → Slot}
    (hf : ∀ x : Slot, x.flagsAgree → (f x).flagsAgree) : (col.mapSlots f).flagsAgree := by
  suffices ∀ (l : List PosId) (col : Column), col.flagsAgree →
      (l.foldl (fun col i => col.updSlot i f) col).flagsAgree from this allPos col h
  intro l
  induction l with
  | nil => exact fun _ h => h
  | cons i l ih => exact fun col h => ih _ (h.updSlot hf)

/-! ## Numbers given in turn -/

/-- After its first step a number given in turn goes round the numbers 1 to `g`. -/
theorem wrapNext_iterate {g : Nat} (hg : 0 < g) (last k : Nat) :
    (wrapNext g)^[k + 1] last = (wrapNext g last - 1 + k) % g + 1 := by
  induction k with
  | zero =>
    have : wrapNext g last - 1 < g ∧ 1 ≤ wrapNext g last := by unfold wrapNext; split <;> omega
    simp only [Nat.zero_add, Function.iterate_one, Nat.add_zero, Nat.mod_eq_of_lt this.1]
    omega
  | succ k ih =>
    rw [Function.iterate_succ_apply', ih, ← Nat.add_assoc]
    generalize wrapNext g last - 1 + k = m
    have hlt := Nat.mod_lt m hg
    rw [Nat.add_mod m 1 g]
    unfold wrapNext
    split
    · have e : m % g = g - 1 := by omega
      rcases Nat.lt_or_ge 1 g with h1 | h1
      · rw [e, Nat.mod_eq_of_lt h1, Nat.sub_add_cancel hg, Nat.mod_self]
      · obtain rfl : g = 1 := by omega
        simp [Nat.mod_one]
    · rw [Nat.mod_eq_of_lt (a := 1) (by omega), Nat.mod_eq_of_lt (a := m % g + 1) (by omega)]

/-- A search that ends at a used number has met used numbers only. -/
theorem freeNumber_mem {g : Nat} {used : List Nat} {fuel last : Nat} (h : freeNumber g used fuel last ∈ used) :
    ∀ k ≤ fuel, (wrapNext g)^[k + 1] last ∈ used := by
  induction fuel generalizing last with
  | zero =>
    intro k hk
    obtain rfl := Nat.le_zero.mp hk
    exact h
  | succ fuel ih =>
    unfold freeNumber at h
    dsimp only at h
    split at h
    next hu =>
      rintro (_ | k) hk
      · exact hu
      · exact ih h k (by omega)
    next hu => exact absurd h hu

/-- The number given in turn is not in use, where the search is as long as the list of numbers in use (R57, R105,
R135). -/
theorem freeNumber_not_mem {g : Nat} {used : List Nat} (h : used.length < g) (last : Nat) :
    freeNumber g used used.length last ∉ used := by
  intro hm
  have hg : 0 < g := by omega
  have hsub : ((Finset.range (used.length + 1)).image fun k => (wrapNext g)^[k + 1] last) ⊆ used.toFinset := by
    intro n hn
    obtain ⟨k, hk, rfl⟩ := Finset.mem_image.mp hn
    exact List.mem_toFinset.mpr (freeNumber_mem hm k (by simpa [Nat.lt_succ_iff] using hk))
  have hinj : Set.InjOn (fun k => (wrapNext g)^[k + 1] last) (Finset.range (used.length + 1)) := by
    intro a ha b hb hab
    simp only [Finset.coe_range, Set.mem_Iio] at ha hb
    simp only [wrapNext_iterate hg, Nat.add_right_cancel_iff] at hab
    exact Nat.ModEq.eq_of_lt_of_lt (Nat.ModEq.add_left_cancel' _ hab) (by omega) (by omega)
  have hcard := Finset.card_le_card hsub
  rw [Finset.card_image_of_injOn hinj, Finset.card_range] at hcard
  have := used.toFinset_card_le
  omega

/-! ## The alarm list -/

/-- No two records of an alarm list share a number, none kind and subject, and there are at most 48 (R134, R135). -/
def alarmsOk (l : List Alarm) : Prop :=
  (l.map (·.number)).Nodup ∧ (l.map fun a => (a.kind, a.subject)).Nodup ∧ l.length ≤ 48

theorem Part.alarmsDistinct_iff (p : Part) : p.alarmsDistinct ↔ alarmsOk p.alarm.list := Iff.rfl

theorem alarmsOk.sublist {l l' : List Alarm} (h : alarmsOk l) (hs : l'.Sublist l) : alarmsOk l' :=
  ⟨h.1.sublist (hs.map _), h.2.1.sublist (hs.map _), hs.length_le.trans h.2.2⟩

/-- A change of records that leaves number, kind and subject alone. -/
theorem alarmsOk.map {l : List Alarm} (h : alarmsOk l) {f : Alarm → Alarm}
    (hf : ∀ a, (f a).number = a.number ∧ (f a).kind = a.kind ∧ (f a).subject = a.subject) : alarmsOk (l.map f) := by
  obtain ⟨h1, h2, h3⟩ := h
  refine ⟨?_, ?_, by simpa using h3⟩
  · simpa [Function.comp_def, hf] using h1
  · simpa [Function.comp_def, hf] using h2

/-- A new record for a kind and a subject that no record has. -/
theorem alarmsOk.append {l : List Alarm} (h : alarmsOk l) {a : Alarm} (hn : a.number ∉ l.map (·.number))
    (hk : ∀ b ∈ l, ¬ (b.kind = a.kind ∧ b.subject = a.subject)) (hl : l.length < 48) : alarmsOk (l ++ [a]) := by
  obtain ⟨h1, h2, h3⟩ := h
  refine ⟨?_, ?_, by simp; omega⟩
  · rw [List.map_append]
    exact List.Nodup.append h1 (by simp) (by simpa using hn)
  · rw [List.map_append]
    refine List.Nodup.append h2 (by simp) ?_
    simp only [List.map_cons, List.map_nil, List.disjoint_singleton, List.mem_map, Prod.mk.injEq, not_exists, not_and]
    exact fun b hb e1 e2 => hk b hb ⟨e1, e2⟩

theorem Part.makeAlarm_list (p : Part) (k : AlarmKind) (x : Subject) :
    (p.makeAlarm k x).alarm.list = p.alarm.list ++
      [⟨freeNumber 65535 (p.alarm.list.map (·.number)) (p.alarm.list.map (·.number)).length p.alarm.lastNumber, k, x,
        p.minute, .activeUnacked⟩] := by
  simp [Part.makeAlarm]

/-- A new record made where none is for its kind and subject. -/
theorem Part.alarmsDistinct.makeAlarm {p : Part} (h : p.alarmsDistinct) {k : AlarmKind} {x : Subject}
    (hk : ∀ b ∈ p.alarm.list, ¬ (b.kind = k ∧ b.subject = x)) (hl : p.alarm.list.length < 48) :
    (p.makeAlarm k x).alarmsDistinct := by
  rw [Part.alarmsDistinct_iff, Part.makeAlarm_list]
  exact alarmsOk.append h (freeNumber_not_mem (by simp; omega) _) hk hl

theorem Part.findAlarm_eq_none_iff (p : Part) (k : AlarmKind) (x : Subject) :
    p.findAlarm k x = none ↔ ∀ b ∈ p.alarm.list, ¬ (b.kind = k ∧ b.subject = x) := by
  simp [Part.findAlarm]

theorem Part.alarmsDistinct.updAlarm {p : Part} (h : p.alarmsDistinct) {n : Nat} {f : Alarm → Alarm}
    (hf : ∀ a, (f a).number = a.number ∧ (f a).kind = a.kind ∧ (f a).subject = a.subject) :
    (p.updAlarm n f).alarmsDistinct := by
  rw [Part.alarmsDistinct_iff, Part.updAlarm_list]
  exact alarmsOk.map h fun a => by split <;> simp [hf]

theorem Part.alarmsDistinct.removeAlarm {p : Part} (h : p.alarmsDistinct) {n : Nat} :
    (p.removeAlarm n).alarmsDistinct :=
  alarmsOk.sublist h (List.filter_sublist ..)

theorem Part.alarmsDistinct.of_list {p q : Part} (h : p.alarmsDistinct) (e : q.alarm.list = p.alarm.list) :
    q.alarmsDistinct := by
  rw [Part.alarmsDistinct_iff, e]; exact h

theorem Part.alarmsDistinct.notice {p : Part} (h : p.alarmsDistinct) {b : NoticeBody} : (p.notice b).alarmsDistinct :=
  h.of_list (by simp)

theorem Part.alarmsDistinct.announceRaise {p : Part} (h : p.alarmsDistinct) {n : Nat} {k : AlarmKind} {x : Subject} :
    (p.announceRaise n k x).alarmsDistinct :=
  h.of_list (by simp)

theorem Part.alarmsDistinct.raise {p : Part} (h : p.alarmsDistinct) {k : AlarmKind} {x : Subject} :
    (p.raise k x).alarmsDistinct := by
  unfold Part.raise
  split
  next a _ =>
    split
    · exact h
    · exact h
    · refine Part.alarmsDistinct.announceRaise ?_
      exact h.updAlarm fun a => ⟨rfl, rfl, rfl⟩
  next hn =>
    have hn := (p.findAlarm_eq_none_iff k x).mp hn
    split
    next hl => exact h.makeAlarm hn hl
    next hl =>
      split
      next old ho =>
        have hlt : (p.removeAlarm old.number).alarm.list.length < p.alarm.list.length := by
          rw [Part.removeAlarm_list]
          exact List.length_filter_lt_length_iff_exists.mpr ⟨old, List.mem_of_find?_eq_some ho, by simp⟩
        exact h.removeAlarm.makeAlarm (fun b hb => hn b (List.mem_of_mem_filter hb))
          (Nat.lt_of_lt_of_le hlt h.2.2)
      · exact h

theorem Part.alarmsDistinct.endCondition {p : Part} (h : p.alarmsDistinct) {k : AlarmKind} {x : Subject} :
    (p.endCondition k x).alarmsDistinct := by
  unfold Part.endCondition
  split
  · exact h
  · split
    · refine Part.alarmsDistinct.notice ?_
      exact h.updAlarm fun a => ⟨rfl, rfl, rfl⟩
    · exact h.removeAlarm.notice
    · exact h

theorem Part.alarmsDistinct.ackAlarm {p : Part} (h : p.alarmsDistinct) {a : Alarm} :
    (p.ackAlarm a).alarmsDistinct := by
  unfold Part.ackAlarm
  split
  · exact h.removeAlarm
  · exact h.updAlarm fun a => ⟨rfl, rfl, rfl⟩

/-! ## Charges -/

/-- A charge above nothing belongs to level LATE or above, and no charge lies above its cap (R79, R125). -/
def Contract.chargeLawful (c : Contract) : Prop :=
  c.charge ≤ 16777215 ∧ ((∀ l, c.level = some l → l.rank < Level.late.rank) → c.charge = 0)

/-- The same of a closing record (R125). -/
def ClosingRecord.chargeLawful (r : ClosingRecord) : Prop :=
  r.charge ≤ 16777215 ∧ (r.level.rank < Level.late.rank → r.charge = 0)

theorem Part.chargesLawful_iff (p : Part) : p.chargesLawful ↔
    (∀ c ∈ p.book.contracts, c.chargeLawful) ∧ ∀ r ∈ p.book.ring, r.chargeLawful := Iff.rfl

/-- An evaluation charges at most the cap, and below level LATE nothing (R124, R125). -/
theorem evaluate_chargeLawful (st : Settings) (c : Contract) (now : Minute) :
    (evaluate st c now).charge ≤ 16777215 ∧
    ((evaluate st c now).level.rank < Level.late.rank → (evaluate st c now).charge = 0) := by
  refine ⟨Nat.min_le_right .., fun h => ?_⟩
  have hraw : rawHours (evaluate st c now).level (latenessOf c.due now) = 0 := by
    unfold rawHours; rw [if_pos h]
  simp only [evaluate] at hraw ⊢
  simp [hraw, rawCharge]

theorem Contract.withEvaluation_chargeLawful (st : Settings) (c d : Contract) (take now : Minute) (m : Option Nat) :
    ({ d.withEvaluation take (evaluate st c now) with mark := m } : Contract).chargeLawful := by
  obtain ⟨h1, h2⟩ := evaluate_chargeLawful st c now
  exact ⟨h1, fun h => h2 (h _ rfl)⟩

theorem closingRecord_chargeLawful (st : Settings) (c : Contract) (n : Nat) (take returned : Minute) (w : ClosePath) :
    (closingRecord c n take returned w (evaluate st c returned)).chargeLawful :=
  evaluate_chargeLawful st c returned

/-! ## The records, update by update -/

section updates

variable {p q : Part} (h : p.recordsLawful)
include h

/-- What changes neither the columns, the fleet, the contracts, the alarm list, the settings nor the state of the clock. -/
theorem Part.recordsLawful.of_same (hc : q.columns = p.columns := by simp) (hf : q.fleet = p.fleet := by simp)
    (hb : q.book = p.book := by simp) (hs : q.late.settings = p.late.settings := by simp)
    (hk : q.late.clock = p.late.clock := by simp) (ha : q.alarm.list = p.alarm.list := by simp) :
    q.recordsLawful := by
  simpa only [Part.recordsLawful, Part.flagsAgree, Part.record, Part.slot, Part.column, Part.tablesDistinct,
    Part.alarmsDistinct, Part.chargesLawful, hc, hf, hb, hs, hk, ha] using h

/-- A change of the alarm unit that keeps its records distinct. -/
theorem Part.recordsLawful.of_alarms (ha : q.alarmsDistinct) (hc : q.columns = p.columns := by simp)
    (hf : q.fleet = p.fleet := by simp) (hb : q.book = p.book := by simp)
    (hs : q.late.settings = p.late.settings := by simp) (hk : q.late.clock = p.late.clock := by simp) :
    q.recordsLawful := by
  obtain ⟨h1, h2, h3, -, h5, h6⟩ := h
  refine ⟨hs ▸ h1, ?_, ?_, ha, ?_, ?_⟩
  · simpa only [Part.flagsAgree, Part.record, Part.slot, Part.column, hc] using h2
  · simpa only [Part.tablesDistinct, hf, hb] using h3
  · simpa only [Part.chargesLawful, hb] using h5
  · simpa only [hk, hb] using h6

theorem Part.recordsLawful.updColumn {c : ColId} {f : Column → Column}
    (hf : ∀ col : Column, col.flagsAgree → (f col).flagsAgree) : (p.updColumn c f).recordsLawful := by
  obtain ⟨h1, h2, h3, h4, h5, h6⟩ := h
  refine ⟨h1, ?_, h3, h4, h5, h6⟩
  rw [Part.flagsAgree_iff] at h2 ⊢
  intro d
  rcases eq_or_ne c d with rfl | hd
  · rw [Part.column_updColumn_self]; exact hf _ (h2 c)
  · rw [Part.column_updColumn_of_ne p f hd]; exact h2 d

theorem Part.recordsLawful.updSlot {x : SlotId} {f : Slot → Slot}
    (hf : ∀ y : Slot, y.flagsAgree → (f y).flagsAgree) : (p.updSlot x f).recordsLawful :=
  h.updColumn fun _ hc => hc.updSlot hf

theorem Part.recordsLawful.setCustody {x : SlotId} {k : Custody} : (p.setCustody x k).recordsLawful :=
  h.updSlot fun _ hy => hy

theorem Part.recordsLawful.updEngine {x : SlotId} {f : SlotEngine → SlotEngine} :
    (p.updEngine x f).recordsLawful :=
  h.updSlot fun _ hy => hy

/-- A change of vehicles that leaves unit, tag and home slot alone. -/
theorem Part.recordsLawful.updVehicle {u : Nat} {f : Vehicle → Vehicle}
    (hf : ∀ v, (f v).unit = v.unit ∧ (f v).tag = v.tag ∧ (f v).home = v.home) : (p.updVehicle u f).recordsLawful := by
  obtain ⟨h1, h2, ⟨h3, h3', h3'', h3'''⟩, h4, h5, h6⟩ := h
  have keep (v : Vehicle) : (if v.unit = u then f v else v).unit = v.unit ∧
      (if v.unit = u then f v else v).tag = v.tag ∧ (if v.unit = u then f v else v).home = v.home := by
    split <;> simp [hf]
  refine ⟨h1, h2, ⟨?_, ?_, ?_, h3'''⟩, h4, h5, h6⟩
  · simpa [Function.comp_def, keep] using h3
  · simpa [Function.comp_def, keep] using h3'
  · simpa [List.filterMap_map, Function.comp_def, keep] using h3''

theorem Part.recordsLawful.setStatus {u : Nat} {st : VehicleStatus} : (p.setStatus u st).recordsLawful :=
  h.updVehicle fun _ => ⟨rfl, rfl, rfl⟩

theorem Part.recordsLawful.escalate {u : Nat} : (p.escalate u).recordsLawful :=
  h.updVehicle fun _ => ⟨rfl, rfl, rfl⟩

theorem Part.recordsLawful.dropContractLink {u : Nat} : (p.dropContractLink u).recordsLawful :=
  h.updVehicle fun _ => ⟨rfl, rfl, rfl⟩

/-- A change of contracts that leaves the number alone and the charge lawful. -/
theorem Part.recordsLawful.updContract {n : Nat} {f : Contract → Contract} (hn : ∀ c, (f c).number = c.number)
    (hf : ∀ c ∈ p.book.contracts, c.number = n → (f c).chargeLawful) : (p.updContract n f).recordsLawful := by
  obtain ⟨h1, h2, ⟨h3, h3', h3'', h3'''⟩, h4, ⟨h5, h5'⟩, h6⟩ := h
  have keep (c : Contract) : (if c.number = n then f c else c).number = c.number := by split <;> simp [hn]
  refine ⟨h1, h2, ⟨h3, h3', h3'', ?_⟩, h4, ⟨?_, h5'⟩, fun hk => ?_⟩
  · simpa [Function.comp_def, keep] using h3'''
  · intro c hc
    rw [Part.updContract_contracts, List.mem_map] at hc
    obtain ⟨d, hd, rfl⟩ := hc
    split
    next hnum => exact hf d hd hnum
    next => exact h5 d hd
  · simp [h6 hk]

theorem Part.recordsLawful.dropContract {n : Nat} : (p.dropContract n).recordsLawful := by
  obtain ⟨h1, h2, ⟨h3, h3', h3'', h3'''⟩, h4, ⟨h5, h5'⟩, h6⟩ := h
  refine ⟨h1, h2, ⟨h3, h3', h3'', h3'''.sublist ((List.filter_sublist ..).map _)⟩, h4,
    ⟨fun c hc => h5 c (List.mem_of_mem_filter hc), h5'⟩, fun hk => ?_⟩
  simp [h6 hk]

/-- A closing record joins the ring (R92). -/
theorem Part.recordsLawful.pushRing {r : ClosingRecord} (hr : r.chargeLawful) {n : Nat} :
    ({ p with book := { p.book with closingSeq := n, ring := pushRing p.book.ring r } } : Part).recordsLawful := by
  obtain ⟨h1, h2, h3, h4, ⟨h5, h5'⟩, h6⟩ := h
  refine ⟨h1, h2, h3, h4, ⟨h5, fun x hx => ?_⟩, h6⟩
  rcases List.mem_append.mp (List.mem_of_mem_drop hx) with hx | hx
  · exact h5' x hx
  · rw [List.mem_singleton.mp hx]; exact hr

/-- The settings are replaced by others in range (R121). -/
theorem Part.recordsLawful.setSettings {st : Settings} (hst : st.inRange) {b : Bool} :
    ({ p with late := { p.late with settings := st, fullWalk := b } } : Part).recordsLawful :=
  ⟨hst, h.2⟩

/-- The clock becomes SET or SUSPECT (R118, R119). -/
theorem Part.recordsLawful.setClockState {l : Lateness} (hs : l.settings = p.late.settings) (hk : l.clock ≠ .unset) :
    ({ p with late := l } : Part).recordsLawful := by
  obtain ⟨h1, h2, h3, h4, h5, -⟩ := h
  exact ⟨hs ▸ h1, h2, h3, h4, h5, fun hu => absurd hu hk⟩

/-! ## Alarms and notices -/

theorem Part.recordsLawful.notice {b : NoticeBody} : (p.notice b).recordsLawful := h.of_same

theorem Part.recordsLawful.setFlags {f : Flags → Flags} : (p.setFlags f).recordsLawful := h.of_same

theorem Part.recordsLawful.decideDrives : p.decideDrives.recordsLawful := h.of_same

theorem Part.recordsLawful.raise {k : AlarmKind} {x : Subject} : (p.raise k x).recordsLawful :=
  h.of_alarms (Part.alarmsDistinct.raise h.2.2.2.1)

theorem Part.recordsLawful.endCondition {k : AlarmKind} {x : Subject} : (p.endCondition k x).recordsLawful :=
  h.of_alarms (Part.alarmsDistinct.endCondition h.2.2.2.1)

theorem Part.recordsLawful.ackAlarm {a : Alarm} : (p.ackAlarm a).recordsLawful :=
  h.of_alarms (Part.alarmsDistinct.ackAlarm h.2.2.2.1)

theorem Part.recordsLawful.endForeignConditions {x : SlotId} : (p.endForeignConditions x).recordsLawful :=
  h.endCondition.endCondition

theorem Part.recordsLawful.elapse {dt : Ms} : (p.elapse dt).recordsLawful := by
  unfold Part.elapse
  dsimp only
  split <;> exact h.of_same

theorem Part.recordsLawful.advanceTo {t : Ms} : (p.advanceTo t).recordsLawful := by
  unfold Part.advanceTo
  split
  · exact h
  · exact h.elapse

end updates

/-- What every step of a fold keeps, the fold keeps. -/
theorem Part.recordsLawful.foldl {β : Type} {f : Part → β → Part} {l : List β} {p : Part} (h : p.recordsLawful)
    (hf : ∀ (p : Part) (b : β), p.recordsLawful → (f p b).recordsLawful) : (l.foldl f p).recordsLawful := by
  induction l generalizing p with
  | nil => exact h
  | cons b l ih => exact ih (hf p b h)

/-! ## The lateness engine and the chute -/

@[simp] theorem Part.beginSweep_settings (p : Part) (m : Minute) :
    (p.beginSweep m).late.settings = p.late.settings := rfl
@[simp] theorem Part.beginSweep_clock (p : Part) (m : Minute) : (p.beginSweep m).late.clock = p.late.clock := rfl

section operations

variable {p : Part} (h : p.recordsLawful)
include h

theorem Part.recordsLawful.followThreshold {t : Level} {k : AlarmKind} {n : Nat} {old : Option Level} {new : Level} :
    (p.followThreshold t k n old new).recordsLawful := by
  unfold Part.followThreshold
  split
  · exact h.raise
  · exact h.endCondition
  · exact h
  · exact h

theorem Part.recordsLawful.levelChange {c : Contract} {old : Option Level} {new : Level} {charge : Nat} :
    (p.levelChange c old new charge).recordsLawful := by
  unfold Part.levelChange
  dsimp only
  split
  · exact h.notice.followThreshold.followThreshold.escalate
  · exact h.notice.followThreshold.followThreshold

/-- An evaluation is written back into the contracts of a number (R125, stage 7). -/
theorem Part.recordsLawful.writeBack {n : Nat} {take now : Minute} {st : Settings} {c : Contract} {m : Option Nat} :
    (p.updContract n fun d => { d.withEvaluation take (evaluate st c now) with mark := m }).recordsLawful :=
  h.updContract (fun _ => rfl) fun d _ _ => c.withEvaluation_chargeLawful st d take now m

theorem Part.recordsLawful.examine {n : Nat} {now : Minute} : (p.examine n now).recordsLawful := by
  unfold Part.examine
  split
  · exact h
  · split
    · exact h
    · dsimp only
      split
      · exact h.writeBack
      · exact h.writeBack.levelChange

theorem Part.recordsLawful.activateContract {n : Nat} {take : Minute} : (p.activateContract n take).recordsLawful := by
  unfold Part.activateContract
  split
  · exact h
  · split
    · exact h
    · dsimp only
      split
      · exact h.writeBack
      · exact h.writeBack.levelChange

theorem Part.recordsLawful.deleteContract {n : Nat} : (p.deleteContract n).recordsLawful := by
  unfold Part.deleteContract
  split
  · exact h
  · split
    · exact h
    · exact h.dropContract.dropContractLink

theorem Part.recordsLawful.closeContract {n : Nat} {returned : Minute} {w : ClosePath} :
    (p.closeContract n returned w).recordsLawful := by
  unfold Part.closeContract
  split
  · exact h
  next c _ =>
    split
    next => exact h
    next take _ _ =>
      have hr := h.pushRing (n := wrapNext 4294967295 p.book.closingSeq)
        (closingRecord_chargeLawful p.late.settings c (wrapNext 4294967295 p.book.closingSeq) take returned w)
      exact hr.dropContract.dropContractLink.endCondition.endCondition.notice

theorem Part.recordsLawful.beginSweep {m : Minute} : (p.beginSweep m).recordsLawful := h.of_same

theorem Part.recordsLawful.endSweep : p.endSweep.recordsLawful := by
  unfold Part.endSweep
  split <;> exact h.of_same

theorem Part.recordsLawful.boundary : p.boundary.recordsLawful := by
  unfold Part.boundary
  have he := h.elapse (dt := (secondsToSpare p.late.count + 1) * 1000 - p.late.subMs)
  dsimp only
  generalize p.elapse _ = q at he ⊢
  split
  · split
    · exact Part.recordsLawful.beginSweep he.of_same
    · exact he.of_same
  · exact he.of_same

theorem Part.recordsLawful.decideFlap : p.decideFlap.recordsLawful := by
  unfold Part.decideFlap
  split
  · exact Part.recordsLawful.raise h.of_same
  · exact Part.recordsLawful.endCondition h.of_same
  · exact h
  · exact h

end operations

/-! ## Reads and audits leave the slots alone -/

@[simp] theorem Column.place_slots (col : Column) (i : PosId) (x : Purpose) : (col.place i x).slots = col.slots := by
  unfold Column.place
  repeat' split
  all_goals rfl

@[simp] theorem Column.cancel_slots (col : Column) (i : PosId) : (col.cancel i).slots = col.slots := rfl

@[simp] theorem Column.dropVerify_slots (col : Column) (i : PosId) : (col.dropVerify i).slots = col.slots := rfl

@[simp] theorem Column.requeue_slots (col : Column) (i : PosId) : (col.requeue i).slots = col.slots := by
  unfold Column.requeue
  repeat' split
  all_goals rfl

theorem Column.flagsAgree.of_slots {col col' : Column} (h : col.flagsAgree) (e : col'.slots = col.slots := by simp) :
    col'.flagsAgree := by
  simpa only [Column.flagsAgree, e] using h

section operations

variable {p : Part} (h : p.recordsLawful)
include h

/-- A change of a column that leaves its slots alone. -/
theorem Part.recordsLawful.updReads {c : ColId} {f : Column → Column} (hf : ∀ col : Column, (f col).slots = col.slots) :
    (p.updColumn c f).recordsLawful :=
  h.updColumn fun col hc => hc.of_slots (hf col)

theorem Part.recordsLawful.placeRead {x : SlotId} {u : Purpose} : (p.placeRead x u).recordsLawful :=
  h.updReads fun _ => by simp

theorem Part.recordsLawful.cancelReads {x : SlotId} : (p.cancelReads x).recordsLawful := h.updReads fun _ => rfl

theorem Part.recordsLawful.dropVerify {x : SlotId} : (p.dropVerify x).recordsLawful := h.updReads fun _ => rfl

theorem Part.recordsLawful.requeueRead {x : SlotId} : (p.requeueRead x).recordsLawful := h.updReads fun _ => by simp

theorem Part.recordsLawful.placeRecheck {x : SlotId} : (p.placeRecheck x).recordsLawful :=
  h.updReads fun _ => by simp

theorem Part.recordsLawful.startReader {c : ColId} : (p.startReader c).recordsLawful := by
  unfold Part.startReader
  dsimp only
  split
  · split
    · exact h
    · exact h.updReads fun _ => rfl
  · exact h

theorem Part.recordsLawful.startReaders : p.startReaders.recordsLawful := h.foldl fun _ _ h => h.startReader

theorem Part.recordsLawful.followAudit {c : ColId} : (p.followAudit c).recordsLawful := by
  unfold Part.followAudit
  split
  · exact h.updReads fun _ => rfl
  · exact h
  · exact h
  · exact h.updReads fun _ => rfl

theorem Part.recordsLawful.followAudits : p.followAudits.recordsLawful := h.foldl fun _ _ h => h.followAudit

theorem Part.recordsLawful.auditStep {c : ColId} : (p.auditStep c).recordsLawful := by
  unfold Part.auditStep
  split
  · exact h
  · exact h.updReads fun _ => by simp

/-! ## The scheduler -/

theorem Part.recordsLawful.updLatch {x : SlotId} {f : Latch → Latch} : (p.updLatch x f).recordsLawful := h.updEngine

theorem Part.recordsLawful.updRelease {n : Nat} {f : Release → Release} : (p.updRelease n f).recordsLawful := h.of_same

theorem Part.recordsLawful.setSched {d : Scheduler} : ({ p with sched := d } : Part).recordsLawful := h.of_same

theorem Part.recordsLawful.openRelease {r : Release} : (p.openRelease r).recordsLawful := by
  unfold Part.openRelease
  exact Part.recordsLawful.updRelease h.updLatch

theorem Part.recordsLawful.selectOne {r : Release} : (p.selectOne r).recordsLawful := by
  unfold Part.selectOne
  dsimp only
  split
  · exact h.setSched.updRelease.setCustody.placeRead
  · exact h.setSched.updRelease.requeueRead.openRelease

theorem Part.recordsLawful.selectAll {n : Nat} : (selectAll n p).recordsLawful := by
  induction n generalizing p with
  | zero => exact h
  | succ n ih =>
    unfold Machine.selectAll
    split
    · exact h
    · exact ih h.selectOne

theorem Part.recordsLawful.selection : p.selection.recordsLawful := by
  unfold Part.selection
  split
  · exact h.selectAll
  · exact h

theorem Part.recordsLawful.accept {t : Target} {x : SlotId} {c : ReleaseClass} {o : Line} :
    (p.accept t x c o).1.recordsLawful := by
  unfold Part.accept
  dsimp only
  split
  · exact h.setSched.updVehicle fun _ => ⟨rfl, rfl, rfl⟩
  · exact h.setSched

theorem Part.recordsLawful.leaveSlot {r : Release} {o : ReleaseOutcome} : (p.leaveSlot r o).recordsLawful := by
  have hp : (match r.phase with
      | .waiting => p
      | .verifying _ => p.dropVerify r.slot
      | .opened _ _ _ _ => p.stopLatch r.slot).recordsLawful := by
    split
    · exact h
    · exact h.dropVerify
    · exact h.updLatch
  unfold Part.leaveSlot
  dsimp only
  split
  · exact hp.setCustody
  · exact hp

theorem Part.recordsLawful.leaveLinks {r : Release} {o : ReleaseOutcome} : (p.leaveLinks r o).recordsLawful := by
  have hp : (match r.target.unit with
      | some u => p.updVehicle u fun v => { v with request := none }
      | none => p).recordsLawful := by
    split
    · exact h.updVehicle fun _ => ⟨rfl, rfl, rfl⟩
    · exact h
  unfold Part.leaveLinks
  dsimp only
  split
  · split
    · exact hp
    · exact hp.deleteContract
  · exact hp

theorem Part.recordsLawful.endRelease {r : Release} {o : ReleaseOutcome} : (p.endRelease r o).recordsLawful := by
  unfold Part.endRelease
  have hq : (p.leaveQueue r o).recordsLawful := h.of_same
  exact hq.leaveSlot.leaveLinks.notice.selection

theorem Part.recordsLawful.endAll {l : List Release} {o : ReleaseOutcome} : (p.endAll l o).recordsLawful := by
  unfold Part.endAll
  refine h.foldl fun p r h => ?_
  split
  · exact h
  · exact h.endRelease

/-! ## The custody manager -/

theorem Part.recordsLawful.strayVehicle {u : Nat} : (p.strayVehicle u).recordsLawful :=
  h.setStatus.raise.endAll

theorem Part.recordsLawful.forcedRemoval {x : SlotId} : (p.forcedRemoval x).recordsLawful := by
  have hp : ((p.setCustody x .empty).cancelReads x).recordsLawful := h.setCustody.cancelReads
  unfold Part.forcedRemoval
  dsimp only
  split
  · exact hp
  · exact hp.strayVehicle.endCondition
  · exact hp.strayVehicle.endCondition
  · exact hp.raise.endForeignConditions.endCondition.endAll
  · exact hp.raise.endCondition.endAll

theorem Part.recordsLawful.takeVehicle {t : Target} {m : Minute} : (p.takeVehicle t m).recordsLawful := by
  unfold Part.takeVehicle
  split
  · exact h.setStatus.activateContract
  · exact h.setStatus
  · exact h.setStatus
  · exact h

theorem Part.recordsLawful.take {x : SlotId} {r : Release} : (p.take x r).recordsLawful := by
  have hp := (h.setCustody (x := x) (k := .empty)).cancelReads (x := x)
  unfold Part.take
  dsimp only
  split
  · exact hp.takeVehicle.endForeignConditions.endCondition.endRelease
  all_goals exact hp.takeVehicle.endCondition.endRelease

theorem Part.recordsLawful.removal {x : SlotId} : (p.removal x).recordsLawful := by
  unfold Part.removal
  split
  case h_1 => exact h.cancelReads
  case h_2 | h_3 | h_4 => exact h.take
  all_goals exact h.forcedRemoval

theorem Part.recordsLawful.arrival {x : SlotId} : (p.arrival x).recordsLawful := by
  unfold Part.arrival
  dsimp only
  split
  · exact h.setCustody.placeRead
  · exact h.forcedRemoval.setCustody.placeRead

theorem Part.recordsLawful.removeEntry {n : Nat} : (p.removeEntry n).recordsLawful := by
  unfold Part.removeEntry
  dsimp only
  split
  · exact Part.recordsLawful.decideFlap h.of_same
  · exact h.of_same

theorem Part.recordsLawful.returnEffects {x : SlotId} {v : Vehicle} {m : Minute} :
    (p.returnEffects x v m).recordsLawful := by
  unfold Part.returnEffects
  split
  · split
    · exact h.closeContract
    · exact h
  case h_5 => exact h.endCondition
  case h_6 => exact h.removeEntry
  case h_7 => exact h
  all_goals exact h.notice

theorem Part.recordsLawful.misplacement {x : SlotId} {u : Nat} {m : Minute} :
    (p.misplacement x u m).recordsLawful := by
  unfold Part.misplacement
  split
  · exact h
  · split
    · exact h
    · split
      · exact h.notice
      all_goals exact h

theorem Part.recordsLawful.bind {x : SlotId} {v : Vehicle} {m : Minute} : (p.bind x v m).recordsLawful :=
  h.setCustody.setStatus.endCondition.returnEffects.misplacement.endAll

theorem Part.recordsLawful.makeForeign {x : SlotId} {t : Nat} {q : ForeignReason} {m : Minute} {k : AlarmKind} :
    (p.makeForeign x t q m k).recordsLawful :=
  h.setCustody.raise

theorem Part.recordsLawful.identify {x : SlotId} {m : Minute} {o : ReadOutcome} : (p.identify x m o).recordsLawful := by
  unfold Part.identify
  extract_lets q
  have hq : q.recordsLawful := by
    unfold q
    split
    · exact h.endForeignConditions
    all_goals exact h
  split
  · exact hq.setCustody.raise
  · split
    · exact hq.makeForeign
    · split
      · exact hq.makeForeign
      · split
        · exact hq.makeForeign
        all_goals exact hq.bind

theorem Part.recordsLawful.swap {x : SlotId} {t k : Nat} : (p.swap x t k).recordsLawful := by
  unfold Part.swap
  extract_lets q
  have hq : q.recordsLawful := by
    unfold q
    split
    · exact h.strayVehicle
    · exact h.strayVehicle
    · exact h.endForeignConditions
    all_goals exact h
  exact hq.setCustody.identify.raise

theorem Part.recordsLawful.confirmHeld {x : SlotId} {t u : Nat} {m : Minute} {o : ReadOutcome} :
    (p.confirmHeld x t u m o).recordsLawful := by
  unfold Part.confirmHeld
  split
  · exact h.setCustody.raise
  · split
    · exact h.setCustody
    · exact h.swap

theorem Part.recordsLawful.confirmForeign {x : SlotId} {t : Nat} {q : ForeignReason} {m : Minute} {b : Bool}
    {o : ReadOutcome} : (p.confirmForeign x t q m b o).recordsLawful := by
  unfold Part.confirmForeign
  split
  · split
    · exact h.identify
    · exact h
  · split
    · exact h.swap
    · split
      · exact h.identify
      · split
        · exact h.identify
        · exact h

theorem Part.recordsLawful.verify {x : SlotId} {r : Release} {t u : Nat} {m : Minute} {k : VehicleKind}
    {o : ReadOutcome} : (p.verify x r t u m k o).recordsLawful := by
  unfold Part.verify
  split
  · exact h.setCustody.raise.endRelease
  · split
    · exact h.setCustody.openRelease
    · exact h.endRelease.swap

theorem Part.recordsLawful.readOutcome {x : SlotId} {b : Bool} {o : ReadOutcome} :
    (p.readOutcome x b o).recordsLawful := by
  unfold Part.readOutcome
  extract_lets q
  have hq : q.recordsLawful := by
    unfold q
    split
    · exact h.endCondition
    · exact h
  split
  · exact hq
  · exact hq.identify
  · exact hq.confirmHeld
  · exact hq.confirmForeign
  · split
    · exact hq
    · exact hq.verify

theorem Part.recordsLawful.latchFault {x : SlotId} : (p.latchFault x).recordsLawful := by
  unfold Part.latchFault
  have hp := h.updSlot (x := x) (f := fun x =>
    { record := { x.record with latchFault := true, outOfService := true }
      engine := { x.engine.unqualified with latch := none } }) fun _ _ _ => rfl
  exact hp.cancelReads.raise.endAll

end operations

theorem Column.flagsAgree.volatileCleared {col : Column} (h : col.flagsAgree) : col.volatileCleared.flagsAgree :=
  (h.mapSlots (f := Slot.volatileCleared) fun _ hy => hy).of_slots rfl

theorem Column.flagsAgree.setUnreachable {col : Column} (h : col.flagsAgree) {b : Bool} :
    (col.setUnreachable b).flagsAgree :=
  h.mapSlots fun _ hy => hy

theorem Contract.chargeLawful.started {c : Contract} (h : c.chargeLawful) : c.started.chargeLawful := by
  obtain ⟨h1, h2⟩ := h
  refine ⟨h1, fun hl => h2 ?_⟩
  unfold Contract.started Contract.level at *
  cases hs : c.state <;> simp_all

/-! ## Folds over the slots of a column and over the columns -/

theorem Column.mapSlots_get (col : Column) (f : Slot → Slot) (i : PosId) :
    (col.mapSlots f).slots[i] = f col.slots[i] := by
  suffices ∀ (l : List PosId) (col : Column), l.Nodup →
      (l.foldl (fun col i => col.updSlot i f) col).slots[i] = if i ∈ l then f col.slots[i] else col.slots[i] by
    simpa [Column.mapSlots, allPos] using this allPos col (List.nodup_finRange _)
  intro l
  induction l with
  | nil => intro col _; rfl
  | cons j l ih =>
    intro col hn
    obtain ⟨hj, hn⟩ := List.nodup_cons.mp hn
    rw [List.foldl_cons, ih _ hn, Column.updSlot_slots_get]
    by_cases e : j = i
    · subst e; simp [hj]
    · simp [e, Ne.symm e]

/-- What a fold over columns of updates of single columns leaves in a column. -/
theorem Part.column_foldl_updColumn (p : Part) (f : ColId → Column → Column) (d : ColId) (l : List ColId)
    (hn : l.Nodup) :
    (l.foldl (fun p c => p.updColumn c (f c)) p).column d = if d ∈ l then f d (p.column d) else p.column d := by
  induction l generalizing p with
  | nil => rfl
  | cons c l ih =>
    obtain ⟨hc, hn⟩ := List.nodup_cons.mp hn
    rw [List.foldl_cons, ih _ hn]
    by_cases e : c = d
    · subst e; simp [hc]
    · simp [Part.column_updColumn_of_ne p _ e, Ne.symm e]

theorem Part.column_mapColumns (p : Part) (f : ColId → Column → Column) (c : ColId) :
    (p.mapColumns f).column c = f c (p.column c) := by
  rw [Part.mapColumns, Part.column_foldl_updColumn p f c allCols (List.nodup_finRange _)]
  simp [allCols]

section operations

variable {p : Part} (h : p.recordsLawful)
include h

/-! ## Reconciliation -/

theorem Part.recordsLawful.foundGone {x : SlotId} {u : Nat} : (p.foundGone x u).recordsLawful :=
  h.setCustody.setStatus.raise.endCondition

theorem Part.recordsLawful.foundEmpty {x : SlotId} : (p.foundEmpty x).recordsLawful :=
  h.setCustody.endForeignConditions.endCondition

theorem Part.recordsLawful.countSettled {b : Bool} : (p.countSettled b).recordsLawful := by
  unfold Part.countSettled
  split
  · split <;> exact h.of_same
  · exact h

theorem Part.recordsLawful.settlePower {x : SlotId} {u : Nat} {k : VehicleKind} :
    (p.settlePower x u k).recordsLawful := by
  unfold Part.settlePower
  dsimp only
  split
  · exact h.setCustody.deleteContract.dropContractLink.notice.countSettled.placeRecheck
  · exact h.setCustody.notice.countSettled.placeRecheck

theorem Part.recordsLawful.settleTaken {x : SlotId} {u : Nat} {k : VehicleKind} {m : Minute} :
    (p.settleTaken x u k m).recordsLawful :=
  h.setCustody.endCondition.takeVehicle.notice.countSettled

theorem Part.recordsLawful.compareSlot {x : SlotId} {m : Minute} : (p.compareSlot x m).recordsLawful := by
  unfold Part.compareSlot
  split
  case h_1 => exact h
  case h_2 => exact h.setCustody.placeRecheck
  case h_3 | h_4 | h_5 => exact h.placeRecheck
  case h_6 => exact h.foundGone
  case h_7 | h_8 => exact h.foundEmpty
  case h_9 => exact h.settlePower
  case h_10 => exact h.settleTaken

theorem Part.recordsLawful.compareReturned {x : SlotId} : (p.compareReturned x).recordsLawful := by
  unfold Part.compareReturned
  split
  case h_1 => exact h
  case h_2 => exact h.arrival
  case h_3 | h_4 | h_5 => exact h.placeRead
  case h_6 => exact h.foundGone
  case h_7 | h_8 => exact h.foundEmpty
  case h_9 => exact h

/-- A change of a column that changes its slots alike and keeps their flags, with its reads. -/
theorem Part.recordsLawful.mapSlots {c : ColId} {f : Column → Column} {g : Slot → Slot}
    (hg : ∀ y : Slot, y.flagsAgree → (g y).flagsAgree) (hf : ∀ col : Column, (f col).slots = (col.mapSlots g).slots) :
    (p.updColumn c f).recordsLawful :=
  h.updColumn fun col hc => (hc.mapSlots hg).of_slots (hf col)

theorem Part.recordsLawful.enterReconciling {c : ColId} : (p.enterReconciling c).recordsLawful := by
  unfold Part.enterReconciling
  refine Part.recordsLawful.foldl ?_ fun q i hq => ?_
  · exact h.mapSlots (g := Slot.reconciling p.uptime) (fun _ hy => hy) fun _ => rfl
  · dsimp only
    split
    · exact hq
    · exact hq.compareSlot

theorem Part.recordsLawful.enterRunning {c : ColId} : (p.enterRunning c).recordsLawful := by
  unfold Part.enterRunning
  dsimp only
  split
  · have hr : (p.updColumn c fun col => { col with engine := .running }).recordsLawful := h.updReads fun _ => rfl
    exact hr.followAudit.endCondition.selection
  · exact h

theorem Part.recordsLawful.loseColumn {c : ColId} : (p.loseColumn c).recordsLawful := by
  unfold Part.loseColumn
  refine Part.recordsLawful.raise (Part.recordsLawful.endAll ?_)
  exact h.mapSlots (g := Slot.lost) (fun _ hy => hy) fun _ => rfl

theorem Part.recordsLawful.settle : p.settle.recordsLawful := by
  unfold Part.settle
  split
  · exact h.decideDrives
  · exact (Part.recordsLawful.foldl h fun _ _ h => h.enterRunning).startReaders.decideDrives

/-! ## Supply modes, the stop and start-up -/

theorem Part.recordsLawful.supplyAlarms {a b : Mode} : (p.supplyAlarms a b).recordsLawful := by
  unfold Part.supplyAlarms
  extract_lets q
  have hq : q.recordsLawful := by
    unfold q
    split
    · exact h.endCondition
    · exact h
  split
  · exact hq.endCondition
  · split
    · exact hq.raise
    · exact hq
  · exact hq.raise

theorem Part.recordsLawful.shed {n : Nat} : (shed n p).recordsLawful := by
  induction n generalizing p with
  | zero => exact h
  | succ n ih =>
    unfold Machine.shed
    split
    · exact h
    · split
      · exact h
      · exact ih h.endRelease

theorem Part.recordsLawful.shedReleases : p.shedReleases.recordsLawful := by
  unfold Part.shedReleases
  extract_lets q
  have hq : q.recordsLawful := by
    unfold q
    split
    · exact h.endAll
    · exact h
  exact hq.shed.selection

theorem Part.recordsLawful.setSupply {s : Supply} : ({ p with supply := s } : Part).recordsLawful := h.of_same

theorem Part.recordsLawful.markCharges : p.markCharges.recordsLawful := h.setSched

theorem Part.recordsLawful.changeMode {m : Mode} : (p.changeMode m).recordsLawful :=
  h.setSupply.markCharges.followAudits.notice.setFlags.supplyAlarms.shedReleases

theorem Part.recordsLawful.mapColumns {f : ColId → Column → Column}
    (hf : ∀ c (col : Column), col.flagsAgree → (f c col).flagsAgree) : (p.mapColumns f).recordsLawful :=
  h.foldl fun _ c h => h.updColumn (hf c)

theorem Part.recordsLawful.clearVolatile :
    (p.mapColumns fun _ col => col.volatileCleared).recordsLawful :=
  h.mapColumns fun _ _ hc => hc.volatileCleared

theorem Part.recordsLawful.halt : p.halt.recordsLawful :=
  Part.recordsLawful.decideDrives h.clearVolatile.of_same

theorem Part.recordsLawful.volatileStart {cause : Cause} {i : StartInputs} :
    (p.volatileStart cause i).recordsLawful := by
  unfold Part.volatileStart
  exact h.clearVolatile.of_same

theorem Part.recordsLawful.probePort {i : StartInputs} {c : ColId} : (p.probePort i c).recordsLawful := by
  unfold Part.probePort
  split
  · exact h.updColumn fun _ hc => (hc.setUnreachable (b := false)).of_slots rfl
  · split
    · refine Part.recordsLawful.raise ?_
      exact h.updColumn fun _ hc => (hc.setUnreachable (b := true)).of_slots rfl
    · exact h.updColumn fun _ hc => hc.setUnreachable

theorem Part.recordsLawful.clockStopped {b : Bool} : (p.clockStopped b).recordsLawful := by
  unfold Part.clockStopped
  split
  · exact h.of_same
  · exact h

theorem Part.recordsLawful.clockCheck {b : Bool} : (p.clockCheck b).recordsLawful := by
  unfold Part.clockCheck
  dsimp only
  split
  · split
    · exact h.of_same
    · refine Part.recordsLawful.raise ?_
      exact h.setClockState rfl (by simp)
  · exact h

theorem Part.recordsLawful.supplyAlarmsAtStart : p.supplyAlarmsAtStart.recordsLawful := by
  unfold Part.supplyAlarmsAtStart
  extract_lets q
  have hq : q.recordsLawful := by
    unfold q
    split
    · exact h.endCondition
    · exact h.raise
  split
  · exact hq.raise
  · exact hq.endCondition

theorem Part.recordsLawful.examinePending {c : Contract} : (p.examinePending c).recordsLawful := by
  unfold Part.examinePending
  dsimp only
  split
  · exact h
  · split
    · exact h
    · exact h.deleteContract.notice.countSettled

/-- The links and marks that start-up drops (R43, R80). -/
theorem Part.recordsLawful.startTables {b : Bool} : ({ p with
    fleet := p.fleet.map Vehicle.unlinked
    book := { p.book with contracts := p.book.contracts.map Contract.started }
    late := { p.late with fullWalk := b } } : Part).recordsLawful := by
  obtain ⟨h1, h2, ⟨h3, h3', h3'', h3'''⟩, h4, ⟨h5, h5'⟩, h6⟩ := h
  refine ⟨h1, h2, ⟨?_, ?_, ?_, ?_⟩, h4, ⟨?_, h5'⟩, fun hk => ?_⟩
  · simpa [Function.comp_def, Vehicle.unlinked] using h3
  · simpa [Function.comp_def, Vehicle.unlinked] using h3'
  · simpa [List.filterMap_map, Function.comp_def, Vehicle.unlinked] using h3''
  · simpa [Function.comp_def, Contract.started] using h3'''
  · intro c hc
    obtain ⟨d, hd, rfl⟩ := List.mem_map.mp hc
    exact Contract.chargeLawful.started (h5 d hd)
  · simp [h6 hk]

theorem Part.recordsLawful.prepareTables : p.prepareTables.recordsLawful := by
  unfold Part.prepareTables
  exact Part.recordsLawful.foldl h.startTables fun _ _ h => h.examinePending

theorem Part.recordsLawful.startUp {cause : Cause} {i : StartInputs} {b : Bool} :
    (p.startUp cause i b).recordsLawful := by
  have h1 := (h.volatileStart (cause := cause) (i := i)).clockStopped (b := b)
  have h2 := h1.foldl (f := Part.probePort i) (l := allCols) fun _ _ h => h.probePort
  have h3 := (h2.clockCheck (b := b)).supplyAlarmsAtStart.prepareTables
  exact (h3.foldl (f := Part.enterReconciling) fun _ _ h => h.enterReconciling).settle

/-! ## The chute -/

theorem Part.recordsLawful.checkFlap : p.checkFlap.recordsLawful := by
  unfold Part.checkFlap
  dsimp only
  split
  · exact Part.recordsLawful.raise h.of_same
  · exact Part.recordsLawful.endCondition h.of_same

theorem Part.recordsLawful.dropVehicle {u n : Nat} {m : Minute} : (p.dropVehicle u n m).recordsLawful := by
  unfold Part.dropVehicle
  split
  · exact h
  · dsimp only
    split
    case h_1 =>
      split
      · exact h.setStatus.closeContract
      · exact h.setStatus
    case h_2 => exact h.setStatus.endCondition
    all_goals exact h.setStatus

theorem Part.recordsLawful.raiseForEntry {n : Nat} {k : EntryKind} : (p.raiseForEntry n k).recordsLawful := by
  unfold Part.raiseForEntry
  split
  · exact h.raise
  · exact h.raise
  all_goals exact h

theorem Part.recordsLawful.setChute {c : Chute} : ({ p with chute := c } : Part).recordsLawful := h.of_same

theorem Part.recordsLawful.handleDrop {m : Minute} {o : ReadOutcome} : (p.handleDrop m o).recordsLawful := by
  unfold Part.handleDrop
  dsimp only
  refine (Part.recordsLawful.decideFlap (Part.recordsLawful.raiseForEntry ?_)).notice.setChute
  split
  · exact h.setChute.dropVehicle
  all_goals exact h.setChute

theorem Part.recordsLawful.endEntryCondition {e : ChuteEntry} : (p.endEntryCondition e).recordsLawful := by
  unfold Part.endEntryCondition
  split
  · exact h.endCondition
  all_goals exact h

theorem Part.recordsLawful.emptyChute : p.emptyChute.recordsLawful := by
  unfold Part.emptyChute
  exact (Part.recordsLawful.foldl h.setChute fun _ _ h => h.endEntryCondition).setChute.endCondition.decideFlap

theorem Part.recordsLawful.completeStart {cause : Cause} {l : List (List Byte)} :
    (p.completeStart cause l).recordsLawful := by
  have hp : (p.chuteCheck l).recordsLawful := by
    unfold Part.chuteCheck
    dsimp only
    split
    · exact h.setChute.checkFlap
    · split
      · exact h.setChute.checkFlap
      · exact h.handleDrop.checkFlap
  unfold Part.completeStart
  exact hp.notice.setFlags.setSupply

end operations

theorem Settings.defaults_inRange : Settings.defaults.inRange := by
  unfold Settings.inRange Settings.defaults
  decide

/-- FACTORY CLEAR leaves empty tables and the default settings, which are lawful whatever stood before (R161). -/
theorem Part.factoryRecords_lawful (p : Part) : p.factoryRecords.recordsLawful := by
  have hc := p.column_mapColumns fun _ col =>
    { col.mapSlots (fun x => { x with record := SlotRecord.cleared }) with fitted := false }
  unfold Part.factoryRecords
  generalize p.mapColumns _ = q at hc ⊢
  have hflags : q.flagsAgree := by
    rw [Part.flagsAgree_iff]
    intro c i h
    have hr : (q.column c).slots[i].record = SlotRecord.cleared := by
      simp only [hc, Column.mapSlots_get]
    rw [hr] at h
    exact absurd h (by decide)
  refine ⟨Settings.defaults_inRange, hflags, ?_, ?_, ?_, fun _ => rfl⟩
  · exact ⟨List.nodup_nil, List.nodup_nil, List.nodup_nil, List.nodup_nil⟩
  · exact ⟨List.nodup_nil, List.nodup_nil, Nat.zero_le _⟩
  · exact ⟨nofun, nofun⟩

theorem clamp_mem {low high n : Nat} (h : low ≤ high) : low ≤ clamp low high n ∧ clamp low high n ≤ high := by
  unfold clamp
  omega

theorem clampedSettings_inRange (grace prewarn : Byte) (t2 t3 : BitVec 16) (window : Byte) (aging : BitVec 16)
    (audit : Bool) : (clampedSettings grace prewarn t2 t3 window aging audit).inRange := by
  have hg : min grace.toNat 180 ≤ 180 := Nat.min_le_right ..
  have hu := clamp_mem (low := min grace.toNat 180 + 1) (high := 10080) (n := t2.toNat) (by omega)
  have ht := clamp_mem (low := clamp (min grace.toNat 180 + 1) 10080 t2.toNat + 1) (high := 20160) (n := t3.toNat)
    (by omega)
  have hw := clamp_mem (low := 5) (high := 60) (n := window.toNat) (by omega)
  have ha := clamp_mem (low := 10) (high := 600) (n := aging.toNat) (by omega)
  exact ⟨hg, Nat.min_le_right .., hu.1, hu.2, ht.1, ht.2, hw.1, hw.2, ha.1, ha.2⟩

/-- A home slot that no other vehicle names, given to the vehicle of a unit (R49). -/
theorem homes_nodup {l : List Vehicle} {u : Nat} {home : Option SlotId} (hu : (l.map (·.unit)).Nodup)
    (hh : (l.filterMap (·.home)).Nodup) (ht : ∀ x, home = some x → ∀ w ∈ l, w.home = some x → w.unit = u) :
    ((l.map fun v => if v.unit = u then { v with home := home } else v).filterMap (·.home)).Nodup := by
  induction l with
  | nil => exact List.nodup_nil
  | cons v l ih =>
    obtain ⟨hv, hu⟩ := List.nodup_cons.mp hu
    have hl : (l.filterMap (·.home)).Nodup := hh.sublist ((List.sublist_cons_self v l).filterMap _)
    have ih := ih hu hl fun x hx w hw => ht x hx w (List.mem_cons_of_mem _ hw)
    by_cases e : v.unit = u
    · have hrest : (l.map fun v => if v.unit = u then { v with home := home } else v) = l := by
        refine (List.map_congr_left fun w hw => if_neg fun hw' => hv ?_).trans (List.map_id l)
        exact List.mem_map.mpr ⟨w, hw, hw'.trans e.symm⟩
      rw [List.map_cons, if_pos e, hrest]
      cases home with
      | none => simpa using hl
      | some x =>
        refine List.nodup_cons.mpr ⟨fun hx => ?_, hl⟩
        obtain ⟨w, hw, hwx⟩ := List.mem_filterMap.mp hx
        exact hv (List.mem_map.mpr ⟨w, hw, (ht x rfl w (List.mem_cons_of_mem _ hw) hwx).trans e.symm⟩)
    · rw [List.map_cons, if_neg e]
      cases hy : v.home with
      | none => simpa [hy] using ih
      | some y =>
        rw [List.filterMap_cons_some hy] at hh ⊢
        refine List.nodup_cons.mpr ⟨fun hm => ?_, ih⟩
        obtain ⟨w', hw', hwy⟩ := List.mem_filterMap.mp hm
        obtain ⟨w, hw, rfl⟩ := List.mem_map.mp hw'
        split at hwy
        · exact e (ht y hwy v (List.mem_cons_self ..) hy)
        · exact (List.nodup_cons.mp hh).1 (List.mem_filterMap.mpr ⟨w, hw, hwy⟩)

section requests

variable {p : Part} (h : p.recordsLawful)
include h

/-! ## Lines -/

theorem Part.recordsLawful.updLine {l : Line} {f : LineState → LineState} : (p.updLine l f).recordsLawful := h.of_same

theorem Part.recordsLawful.restartHold {l : Line} : (p.restartHold l).recordsLawful := by
  unfold Part.restartHold
  split
  · exact h.of_same
  · exact h
  · exact h

theorem Part.recordsLawful.hear {l : Line} : (p.hear l).recordsLawful := by
  unfold Part.hear Part.hunt
  exact h.updLine.restartHold

theorem Part.recordsLawful.reply {l : Line} {r : SentReply} : (p.reply l r).recordsLawful := by
  unfold Part.reply Part.choiceMade
  exact h.of_same

/-- A request keeps the records lawful where its body does. -/
theorem Part.recordsLawful.request {k : KindRow} {c : Instr} {d : ReqHdr} {body : Part → Part × Reply}
    (hb : ∀ q : Part, q.recordsLawful → (body q).1.recordsLawful) : (p.request k c d body).recordsLawful := by
  unfold Part.request
  split
  · exact h
  · split
    · unfold Part.broadcast Part.hunt
      dsimp only
      split
      · exact h.updLine
      · split
        · exact h.updLine.setFlags
        · exact hb _ h.updLine
    · unfold Part.unicast Part.buffered
      dsimp only
      split
      · exact h.hear.setFlags
      · refine Part.recordsLawful.reply ?_
        unfold Part.dispatch
        split
        · exact h.hear.updLine
        · split
          · exact h.hear.updLine
          · exact hb _ h.hear.updLine

/-- A checked request keeps the records lawful where its effect does when no row refuses it. -/
theorem Part.recordsLawful.checked {rows : List (Bool × Reply)} {effect : Part → Part × Reply}
    (he : firstRefusal rows = none → (effect p).1.recordsLawful) : (p.checked rows effect).1.recordsLawful := by
  rcases p.checked_cases rows effect with ⟨r, -, e⟩ | ⟨hr, e⟩
  · rw [e]; exact h
  · rw [e]; exact he hr

theorem Part.recordsLawful.withVehicle {u : BitVec 24} {effect : Vehicle → Part × Reply}
    (he : ∀ v, p.findUnit u.toNat = some v → (effect v).1.recordsLawful) : (p.withVehicle u effect).1.recordsLawful := by
  unfold Part.withVehicle
  split
  · exact h
  · exact he _ ‹_›

theorem Part.recordsLawful.withContract {n : BitVec 32} {effect : Contract → Part × Reply}
    (he : ∀ c, (effect c).1.recordsLawful) : (p.withContract n effect).1.recordsLawful := by
  unfold Part.withContract
  split
  · exact h
  · exact he _

/-! ## Requests on the clock, the settings and the fleet table -/

theorem Part.recordsLawful.setClock {n : BitVec 32} : (p.setClock n).recordsLawful := by
  have hs : ({ p with late := { p.late with count := n, subMs := p.late.subMs % 1000, clock := .set } } :
      Part).recordsLawful := h.setClockState rfl nofun
  unfold Part.setClock
  exact Part.recordsLawful.of_same (hs.endCondition (k := .clockSuspect) (x := .clock))

theorem Part.recordsLawful.configure {st : Settings} (hst : st.inRange) : (p.configure st).recordsLawful := by
  unfold Part.configure Part.markAged
  dsimp only
  split
  · exact (h.setSettings hst).followAudits
  · exact (h.setSettings hst).followAudits.setSched.selection

/-- A vehicle joins the fleet table with a unit, a tag and a home slot that no other carries (R45). -/
theorem Part.recordsLawful.addVehicle {v : Vehicle} (hu : ∀ w ∈ p.fleet, w.unit ≠ v.unit)
    (ht : ∀ w ∈ p.fleet, w.tag ≠ v.tag) (hh : ∀ x, v.home = some x → ∀ w ∈ p.fleet, w.home ≠ some x) :
    ({ p with fleet := p.fleet ++ [v] } : Part).recordsLawful := by
  obtain ⟨h1, h2, ⟨h3, h3', h3'', h3'''⟩, h4⟩ := h
  refine ⟨h1, h2, ⟨?_, ?_, ?_, h3'''⟩, h4⟩
  · rw [List.map_append]
    exact h3.append (List.nodup_singleton _) (by simpa using hu)
  · rw [List.map_append]
    exact h3'.append (List.nodup_singleton _) (by simpa using ht)
  · rw [List.filterMap_append]
    cases hv : v.home with
    | none => simpa [List.filterMap_cons_none hv] using h3''
    | some x =>
      rw [List.filterMap_cons_some hv]
      exact h3''.append (List.nodup_singleton _) (by simpa using hh x hv)

theorem Part.recordsLawful.updEntry {n : Nat} {f : ChuteEntry → ChuteEntry} : (p.updEntry n f).recordsLawful := h.of_same

theorem Part.recordsLawful.makeConflict {t n : Nat} : (p.makeConflict t n).recordsLawful :=
  h.updEntry.raise

theorem Part.recordsLawful.makeDuplicate {x : SlotId} : (p.makeDuplicate x).recordsLawful :=
  h.setCustody.endCondition.raise

theorem Part.recordsLawful.adoptSlot {u t : Nat} {x : SlotId} {l : List SlotId} :
    (p.adoptSlot u t x l).recordsLawful := by
  unfold Part.adoptSlot
  have h1 := (h.setCustody (x := x) (k := (p.custody x).adopted u)).setStatus (u := u) (st := .inSlot x)
  have h2 := (h1.endCondition (k := .fobUnknown) (x := .slot x)).foldl (f := Part.makeDuplicate) (l := l)
    fun _ _ h => h.makeDuplicate
  exact (h2.foldl fun _ _ h => h.makeConflict).decideFlap.endAll

theorem Part.recordsLawful.adoptEntry {u t n : Nat} {l : List Nat} : (p.adoptEntry u t n l).recordsLawful := by
  unfold Part.adoptEntry
  exact (h.updEntry.setStatus.foldl fun _ _ h => h.makeConflict).decideFlap

theorem Part.recordsLawful.enrol {u t : Nat} {home : Option SlotId}
    (hr : firstRefusal (p.enrolRows u t home) = none) : (p.enrol u t home).recordsLawful := by
  simp only [firstRefusal_eq_none, Part.enrolRows, List.mem_cons, List.not_mem_nil, or_false, forall_eq_or_imp,
    forall_eq] at hr
  obtain ⟨hu, ht, hh, -⟩ := hr
  have hv : ∀ v : Vehicle, v.unit = u → v.tag = t → v.home = home →
      ({ p with fleet := p.fleet ++ [v] } : Part).recordsLawful := by
    rintro v rfl rfl rfl
    refine h.addVehicle (by simpa [Part.findUnit] using hu) (by simpa [Part.findTag] using ht) fun x hx => ?_
    simpa [hx, Part.findHome] using hh
  unfold Part.enrol
  dsimp only
  split
  · exact (hv _ rfl rfl rfl).adoptSlot
  · split
    · exact (hv _ rfl rfl rfl).adoptEntry
    · exact hv _ rfl rfl rfl

theorem Part.recordsLawful.retire {v : Vehicle} : (p.retire v).recordsLawful := by
  have hp : (match v.slot with
      | some s => p.setCustody s (p.custody s).retired
      | none => p).recordsLawful := by
    split
    · exact h.setCustody
    · exact h
  unfold Part.retire
  dsimp only
  obtain ⟨h1, h2, ⟨h3, h3', h3'', h3'''⟩, h4⟩ := hp
  have hs := List.filter_sublist (p := fun w : Vehicle => w.unit != v.unit)
    (l := (match v.slot with | some s => p.setCustody s (p.custody s).retired | none => p).fleet)
  exact ⟨h1, h2, ⟨h3.sublist (hs.map _), h3'.sublist (hs.map _), h3''.sublist (hs.filterMap _), h3'''⟩, h4⟩

theorem Part.recordsLawful.setHome {u : Nat} {home : Option SlotId} (ht : p.homeTaken u home = false) :
    (p.updVehicle u fun w => { w with home := home }).recordsLawful := by
  have ht : ∀ x, home = some x → ∀ w ∈ p.fleet, w.home = some x → w.unit = u := by
    rintro x rfl
    simpa [Part.homeTaken] using ht
  obtain ⟨h1, h2, ⟨h3, h3', h3'', h3'''⟩, h4⟩ := h
  have keep (v : Vehicle) : (if v.unit = u then { v with home := home } else v).unit = v.unit ∧
      (if v.unit = u then { v with home := home } else v).tag = v.tag := by
    split <;> simp
  refine ⟨h1, h2, ⟨?_, ?_, homes_nodup h3 h3'' ht, h3'''⟩, h4⟩
  · simpa [Function.comp_def, keep] using h3
  · simpa [Function.comp_def, keep] using h3'

end requests

/-! ## Contracts, releases and the staff -/

/-- What acceptance of a release leaves alone. -/
@[simp] theorem Part.accept_frame (p : Part) (t : Target) (x : SlotId) (c : ReleaseClass) (o : Line) :
    (p.accept t x c o).1.book = p.book ∧ (p.accept t x c o).1.late = p.late := by
  unfold Part.accept
  dsimp only
  split <;> simp

@[simp] theorem Part.acceptVehicle_frame (p : Part) (v : Vehicle) (t : Target) (c : ReleaseClass) (o : Line) :
    (p.acceptVehicle v t c o).1.book = p.book ∧ (p.acceptVehicle v t c o).1.late = p.late := by
  unfold Part.acceptVehicle
  split <;> simp

section requests

variable {p : Part} (h : p.recordsLawful)
include h

/-- A contract joins the table with a number that no other carries, PENDING and charged nothing, while the clock is not
UNSET (R84). -/
theorem Part.recordsLawful.addContract {c : Contract} (hn : p.findContract c.number = none) (hc : c.chargeLawful)
    (hk : p.late.clock ≠ .unset) :
    ({ p with book := { p.book with contracts := p.book.contracts ++ [c] } } : Part).recordsLawful := by
  have hn : ∀ d ∈ p.book.contracts, d.number ≠ c.number := by simpa [Part.findContract] using hn
  obtain ⟨h1, h2, ⟨h3, h3', h3'', h3'''⟩, h4, ⟨h5, h5'⟩, -⟩ := h
  refine ⟨h1, h2, ⟨h3, h3', h3'', ?_⟩, h4, ⟨fun d hd => ?_, h5'⟩, fun hu => absurd hu hk⟩
  · rw [List.map_append]
    exact h3'''.append (List.nodup_singleton _) (by simpa using hn)
  · rcases List.mem_append.mp hd with hd | hd
    · exact h5 d hd
    · rw [List.mem_singleton.mp hd]; exact hc

theorem Part.recordsLawful.acceptVehicle {v : Vehicle} {t : Target} {c : ReleaseClass} {o : Line} :
    (p.acceptVehicle v t c o).1.recordsLawful := by
  unfold Part.acceptVehicle
  split
  · exact h.accept
  · exact h

theorem Part.recordsLawful.openContract {v : Vehicle} {t : Terms} {o : Line}
    (hn : p.findContract t.number = none) (hk : p.late.clock ≠ .unset) :
    (p.openContract v t o).1.recordsLawful := by
  have hp := h.addContract (c := t.record v.unit p.minute) hn ⟨Nat.zero_le _, fun _ => rfl⟩ hk
  have ha := hp.acceptVehicle (v := v) (t := .contract v.unit t.number) (c := t.cls.releaseClass) (o := o)
  unfold Part.openContract
  dsimp only
  refine Part.recordsLawful.selection (Part.recordsLawful.updVehicle ?_ fun _ => ⟨rfl, rfl, rfl⟩)
  have hzero : ∀ c ∈ p.book.contracts ++ [t.record v.unit p.minute], c.number = t.number → c.charge = 0 := by
    intro c hc e
    rcases List.mem_append.mp hc with hc | hc
    · have hn : ∀ d ∈ p.book.contracts, d.number ≠ t.number := by simpa [Part.findContract] using hn
      exact absurd e (hn c hc)
    · rw [List.mem_singleton.mp hc]; rfl
  refine ha.updContract (fun _ => rfl) fun c hc e => ?_
  have hz := hzero c (by simpa using hc) e
  exact ⟨by show c.charge ≤ _; omega, fun _ => hz⟩

theorem Part.recordsLawful.submitVehicle {u : BitVec 24} {t : Target} {c : ReleaseClass} {o : Line} {b : Bool} :
    (p.submitVehicle u t c o b).1.recordsLawful := by
  unfold Part.submitVehicle
  split
  · exact h
  · exact h.checked fun _ => h.acceptVehicle.selection.settle

theorem Part.recordsLawful.submitSlot {x : BitVec 16} {o : Line} : (p.submitSlot x o).1.recordsLawful := by
  unfold Part.submitSlot
  split
  · exact h
  · exact h.checked fun _ => h.accept.selection.settle

theorem Part.recordsLawful.cancelRelease {n : Nat} : (p.cancelRelease n).1.recordsLawful := by
  unfold Part.cancelRelease
  split
  · exact h.endRelease.settle
  · split <;> exact h

theorem Part.recordsLawful.extend {n : Nat} {due : Minute} : (p.extend n due).recordsLawful := by
  unfold Part.extend
  have hd : (p.updContract n fun c => { c with due := due }).recordsLawful :=
    h.updContract (fun _ => rfl) fun c hc _ => h.2.2.2.2.1.1 c hc
  exact hd.examine

theorem Part.recordsLawful.closeByHand {c : Contract} {r : ManualReason} : (p.closeByHand c r).recordsLawful :=
  h.closeContract.setStatus

theorem Part.recordsLawful.holdVehicle {u : Nat} : (p.holdVehicle u).recordsLawful := by
  unfold Part.holdVehicle
  refine Part.recordsLawful.foldl (h.updVehicle fun _ => ⟨rfl, rfl, rfl⟩) fun q r hq => ?_
  unfold Part.endHeld
  split
  · exact hq
  · exact hq.endRelease

theorem Part.recordsLawful.unholdVehicle {u : Nat} : (p.unholdVehicle u).recordsLawful := by
  unfold Part.unholdVehicle
  exact Part.recordsLawful.selection (h.updVehicle fun _ => ⟨rfl, rfl, rfl⟩)

theorem Part.recordsLawful.account {v : Vehicle} : (p.account v).recordsLawful := by
  unfold Part.account
  dsimp only
  split
  · exact h.setStatus.endCondition
  · exact h.setStatus

theorem Part.recordsLawful.locate {x : Option SlotId} : (p.locate x).1.recordsLawful := by
  unfold Part.locate
  split
  · exact h
  · exact h.updEngine

theorem Part.recordsLawful.takeOutOfService {x : SlotId} : (p.takeOutOfService x).recordsLawful := by
  unfold Part.takeOutOfService
  split
  · exact h
  · refine Part.recordsLawful.cancelReads ?_
    exact h.updSlot fun _ _ _ => rfl

theorem Part.recordsLawful.returnToService {x : SlotId} : (p.returnToService x).recordsLawful := by
  have hr : (p.updSlot x (Slot.returned p.uptime)).recordsLawful := h.updSlot fun _ _ hf => absurd hf nofun
  unfold Part.returnToService
  dsimp only
  split
  · exact hr.endCondition.compareReturned.selection
  · exact hr.compareReturned.selection

theorem Part.recordsLawful.slotService {x : SlotId} {b : Bool} : (p.slotService x b).1.recordsLawful := by
  unfold Part.slotService
  split
  · split
    · exact h.checked fun _ => h.returnToService.settle
    · exact h
  · exact h.checked fun _ => h.takeOutOfService.settle

theorem Part.recordsLawful.slotServiceBody {d : ReqHdr} {x : BitVec 16} {b : Byte} :
    (slotServiceBody d x b p).1.recordsLawful := by
  unfold Machine.slotServiceBody
  refine h.checked fun _ => ?_
  split
  · exact h
  · exact h.slotService

theorem Part.recordsLawful.ackBody {d : ReqHdr} {n : BitVec 16} {m : Byte} : (ackBody d n m p).1.recordsLawful := by
  unfold Machine.ackBody
  refine h.checked fun _ => ?_
  split
  · exact (Part.recordsLawful.foldl h fun _ _ h => h.ackAlarm).decideDrives
  · unfold Part.acknowledge
    split
    · exact h
    · exact h.ackAlarm.decideDrives

theorem Part.recordsLawful.endHold : p.endHold.recordsLawful := by
  unfold Part.endHold
  split
  · exact h
  · exact Part.recordsLawful.selection h.of_same

theorem Part.recordsLawful.serviceHoldBody {m : Byte} : (serviceHoldBody m p).1.recordsLawful := by
  unfold Machine.serviceHoldBody
  refine h.checked fun _ => ?_
  split
  · exact h.of_same
  · exact h.endHold.settle

/-! ## Events -/

theorem Part.recordsLawful.contactSeen {x : SlotId} {b : Bool} : (p.contactSeen x b).recordsLawful := by
  unfold Part.contactSeen
  dsimp only
  split
  · exact h.updEngine
  · split
    · split
      · exact h.updEngine.updEngine.endRelease.settle
      · exact h.updEngine.updEngine
    · exact h.updEngine.updEngine

theorem Part.recordsLawful.senseSeen {x : SlotId} {b : Bool} : (p.senseSeen x b).recordsLawful := by
  unfold Part.senseSeen
  dsimp only
  split
  · exact h.updEngine
  · split
    · exact h.updEngine.updLatch.selection.settle
    · exact h.updEngine.updLatch

theorem Part.recordsLawful.qualify {x : SlotId} : ∀ q ∈ p.qualify x, q.recordsLawful := by
  unfold Part.qualify
  split
  · dsimp only
    simp only [Option.mem_def, Option.some.injEq, forall_eq']
    split
    · exact h.advanceTo.updEngine.removal
    · exact h.advanceTo.updEngine.arrival
  · simp

theorem Part.recordsLawful.probe {c : ColId} {b : Bool} : ∀ q ∈ p.probe c b, q.recordsLawful := by
  unfold Part.probe
  split
  · dsimp only
    simp only [Option.mem_def, Option.some.injEq, forall_eq']
    split
    · exact h.advanceTo.enterReconciling
    · exact h.advanceTo.updReads fun _ => rfl
  · simp

theorem Part.recordsLawful.attemptOver {t : Ms} {l : List Byte} : (p.attemptOver t l).recordsLawful := by
  unfold Part.attemptOver
  split
  · exact h.advanceTo
  · exact h

theorem Part.recordsLawful.endRead {c : ColId} {rd : Read} {o : ReadOutcome} : (p.endRead c rd o).recordsLawful := by
  unfold Part.endRead
  have hr : (p.updColumn c fun col => { col with reader := none }).recordsLawful := h.updReads fun _ => rfl
  exact Part.recordsLawful.updReads hr.readOutcome fun _ => rfl

theorem Part.recordsLawful.attemptEnd {c : ColId} {l : List Byte} : ∀ q ∈ p.attemptEnd c l, q.recordsLawful := by
  unfold Part.attemptEnd
  split
  · simp
  · dsimp only
    simp only [Option.mem_def, Option.some.injEq, forall_eq']
    split
    · exact h.attemptOver.endRead
    · split
      · exact h.attemptOver.updReads fun _ => rfl
      · exact h.attemptOver.endRead

theorem Part.recordsLawful.tick {c : ColId} : ∀ q ∈ p.tick c, q.recordsLawful := by
  unfold Part.tick
  split
  · simp
  next t _ =>
    simp only [Option.mem_def, Option.some.injEq, forall_eq']
    have ht : ((p.advanceTo t).updColumn c fun col => { col with auditNext := some (t + Config.auditPeriod) }).recordsLawful :=
      h.advanceTo.updReads fun _ => rfl
    exact ht.auditStep

theorem Part.recordsLawful.expireCharge : ∀ q ∈ p.expireCharge, q.recordsLawful := by
  unfold Part.expireCharge
  split
  · simp
  · simp only [Option.mem_def, Option.some.injEq, forall_eq']
    exact Part.recordsLawful.selection h.advanceTo.markCharges.setSched

theorem Part.recordsLawful.age {n : Nat} : ∀ q ∈ p.age n, q.recordsLawful := by
  unfold Part.age
  split
  · simp
  · split
    · simp only [Option.mem_def, Option.some.injEq, forall_eq']
      exact h.advanceTo.updRelease.selection
    · simp

theorem Part.recordsLawful.passDeadline {n : Nat} : ∀ q ∈ p.passDeadline n, q.recordsLawful := by
  intro q hq
  simp only [Part.passDeadline, Option.mem_def, Option.bind_eq_some_iff, Option.map_eq_some_iff] at hq
  obtain ⟨r, -, t, -, rfl⟩ := hq
  split
  · exact h.advanceTo.updRelease
  · exact h.advanceTo.endRelease

theorem Part.recordsLawful.mouthAttempt {l : List Byte} : ∀ q ∈ p.mouthAttempt l, q.recordsLawful := by
  unfold Part.mouthAttempt
  split
  · dsimp only
    simp only [Option.mem_def, Option.some.injEq, forall_eq']
    split
    · exact h.attemptOver.handleDrop
    · split
      · exact h.attemptOver.setChute
      · exact h.attemptOver.handleDrop
  · simp

theorem Part.recordsLawful.sweepStep : ∀ q ∈ p.sweepStep, q.recordsLawful := by
  unfold Part.sweepStep
  split
  · simp
  · simp only [Option.mem_def, Option.some.injEq, forall_eq']
    split
    · exact h.endSweep
    · split
      · exact h.endSweep
      · exact h.examine

theorem Part.recordsLawful.mainsAbsent : ∀ q ∈ p.mainsAbsent, q.recordsLawful := by
  unfold Part.mainsAbsent Part.clearMainsTiming
  split
  · dsimp only
    simp only [Option.mem_def, Option.some.injEq, forall_eq']
    split
    · exact h.advanceTo.setSupply.changeMode.changeMode
    · exact h.advanceTo.setSupply.changeMode
  · simp

theorem Part.recordsLawful.mainsPresent : ∀ q ∈ p.mainsPresent, q.recordsLawful := by
  unfold Part.mainsPresent Part.clearMainsTiming
  split
  · simp
  · simp
  · simp only [Option.mem_def, Option.some.injEq, forall_eq']
    exact h.advanceTo.setSupply.changeMode

theorem Part.recordsLawful.batteryQualified : ∀ q ∈ p.batteryQualified, q.recordsLawful := by
  unfold Part.batteryQualified
  split
  · simp
  · dsimp only
    simp only [Option.mem_def, Option.some.injEq, forall_eq']
    split
    · exact h.advanceTo.setSupply.changeMode
    · exact h.advanceTo.setSupply

theorem Part.recordsLawful.finishStart {l : List (List Byte)} : ∀ q ∈ p.finishStart l, q.recordsLawful := by
  unfold Part.finishStart
  split
  · split
    · simp
    · simp only [Option.mem_def, Option.some.injEq, forall_eq']
      exact h.completeStart
  · simp
  · simp

end requests

/-! ## Every command keeps the records lawful -/

theorem State.recordsLawful_onPart {s t : State} {f : Part → Part} (hf : (f s.part).recordsLawful) (e : s.onPart f = .next t) :
    t.part.recordsLawful := by
  obtain rfl := Host.Outcome.next.inj e
  exact hf

theorem Part.recordsLawful.setLines {p : Part} (h : p.recordsLawful) {l : LineController} :
    ({ p with lines := l } : Part).recordsLawful := h.of_same

theorem Part.recordsLawful.fetch {p : Part} (h : p.recordsLawful) : p.fetch.1.recordsLawful := by
  unfold Part.fetch
  exact Part.recordsLawful.decideDrives h.of_same

section commands

variable {s t : State} (h : s.part.recordsLawful)
include h

theorem State.recordsLawful_request {k : KindRow} {c : Instr} {d : ReqHdr} {body : Part → Part × Reply}
    (hb : ∀ q : Part, q.recordsLawful → (body q).1.recordsLawful) (e : State.request k c d body s = .next t) :
    t.part.recordsLawful :=
  State.recordsLawful_onPart (h.request hb) e

theorem State.recordsLawful_event {f : Part → Option Part} (hf : ∀ q ∈ f s.part, q.recordsLawful)
    (e : s.event f = .next t) : t.part.recordsLawful := by
  rcases State.event_next e with ⟨-, rfl⟩ | ⟨q, hq, rfl⟩
  · exact h
  · exact hf q hq

theorem State.recordsLawful_live {f : Part → Option Part} (hf : ∀ q ∈ f s.part, q.recordsLawful)
    (e : s.live f = .next t) : t.part.recordsLawful := by
  refine State.recordsLawful_event h (fun q hq => ?_) e
  split at hq
  · simp at hq
  · exact hf q hq

theorem State.recordsLawful_heard {l : Line} {f : Part → Option Part} (hf : ∀ q ∈ f s.part, q.recordsLawful)
    (e : s.heard l f = .next t) : t.part.recordsLawful := by
  refine State.recordsLawful_live h (fun q hq => ?_) e
  split at hq
  · simp at hq
  · exact hf q hq

theorem State.recordsLawful_liveDecide {f : Part → Option Part} (hf : ∀ q ∈ f s.part, q.recordsLawful)
    (e : s.liveDecide f = .next t) : t.part.recordsLawful := by
  refine State.recordsLawful_live h (fun q hq => ?_) e
  obtain ⟨r, hr, rfl⟩ := Option.map_eq_some_iff.mp hq
  exact (hf r hr).decideDrives

theorem State.recordsLawful_liveHandle {f : Part → Option Part} (hf : ∀ q ∈ f s.part, q.recordsLawful)
    (e : s.liveHandle f = .next t) : t.part.recordsLawful := by
  unfold State.liveHandle State.handle at e
  refine State.recordsLawful_event h (fun q hq => ?_) e
  obtain ⟨r, hr, rfl⟩ := Option.map_eq_some_iff.mp hq
  dsimp only at hr
  split at hr
  · simp at hr
  · exact (hf r hr).settle

/-- The requests keep the records lawful. -/
theorem exec_request_recordsLawful {c : Instr} {d : ReqHdr} {kind : Byte} {body : List Byte}
    (hc : encodeRequest c = some (d, kind, body)) (e : exec c s = .next t) : t.part.recordsLawful := by
  cases c with
  | identify d => exact State.recordsLawful_request h (fun q hq => hq) e
  | status d => exact State.recordsLawful_request h (fun q hq => hq.setFlags) e
  | fetchNotices d => exact State.recordsLawful_request h (fun q hq => hq.fetch) e
  | readSlot d first count => exact State.recordsLawful_request h (fun q hq => hq.checked fun _ => hq) e
  | readVehicle d unit tagId =>
    refine State.recordsLawful_request h (fun q hq => hq.checked fun _ => ?_) e
    split <;> exact hq
  | readContract d n =>
    refine State.recordsLawful_request h (fun q hq => hq.checked fun _ => ?_) e
    split <;> exact hq
  | listDue d start => exact State.recordsLawful_request h (fun q hq => hq.checked fun _ => hq) e
  | listClosed d n => exact State.recordsLawful_request h (fun q hq => hq) e
  | listChute d start => exact State.recordsLawful_request h (fun q hq => hq.checked fun _ => hq) e
  | listAlarms d start => exact State.recordsLawful_request h (fun q hq => hq) e
  | readSettings d => exact State.recordsLawful_request h (fun q hq => hq) e
  | setClock d n =>
    exact State.recordsLawful_request h (fun q hq => hq.checked fun _ => hq.setClock.decideDrives) e
  | configure d grace prewarn t2 t3 window aging audit =>
    exact State.recordsLawful_request h (fun q hq => hq.checked fun _ =>
      (hq.configure (clampedSettings_inRange ..)).settle) e
  | enrolVehicle d unit tagId home =>
    refine State.recordsLawful_request h (fun q hq => hq.checked fun hr => ?_) e
    refine Part.recordsLawful.settle (hq.enrol ?_)
    rw [firstRefusal_eq_none] at hr ⊢
    exact fun x hx => hr x (List.mem_append_right _ hx)
  | retireVehicle d unit =>
    exact State.recordsLawful_request h (fun q hq => hq.checked fun _ => hq.withVehicle fun v _ =>
      hq.checked fun _ => hq.retire) e
  | setHomeSlot d unit slot =>
    refine State.recordsLawful_request h (fun q hq => hq.checked fun _ => hq.withVehicle fun v _ =>
      hq.checked fun hr => hq.setHome ?_) e
    simpa [firstRefusal_eq_none] using hr
  | holdVehicle d unit =>
    exact State.recordsLawful_request h (fun q hq => hq.checked fun _ => hq.withVehicle fun v _ =>
      hq.holdVehicle.settle) e
  | unholdVehicle d unit =>
    exact State.recordsLawful_request h (fun q hq => hq.checked fun _ => hq.withVehicle fun v _ =>
      hq.unholdVehicle.settle) e
  | accountVehicle d unit =>
    exact State.recordsLawful_request h (fun q hq => hq.checked fun _ => hq.withVehicle fun v _ =>
      hq.checked fun _ => hq.account.decideDrives) e
  | locate d unit slot =>
    refine State.recordsLawful_request h (fun q hq => hq.checked fun _ => ?_) e
    split
    · exact hq.locate
    · exact hq.withVehicle fun v _ => hq.locate
  | openContract d n unit cls due hourRate dayRate grace =>
    refine State.recordsLawful_request h (fun q hq => hq.checked fun hr => ?_) e
    split
    · exact hq
    · refine hq.checked fun _ => Part.recordsLawful.settle (hq.openContract ?_ ?_)
      · have := firstRefusal_eq_none.mp hr ((q.findContract n.toNat).isSome, .duplicate) (by simp [Part.openRows])
        simpa using this
      · have := firstRefusal_eq_none.mp hr (q.late.clock == .unset, .clockUnset) (by simp [Part.openRows])
        simpa using this
  | extendContract d n due =>
    exact State.recordsLawful_request h (fun q hq => hq.checked fun _ => hq.withContract fun c =>
      hq.checked fun _ => hq.extend.decideDrives) e
  | closeContract d n reason =>
    exact State.recordsLawful_request h (fun q hq => hq.checked fun _ => hq.withContract fun c =>
      hq.checked fun _ => hq.closeByHand.decideDrives) e
  | release d kind unit slot =>
    refine State.recordsLawful_request h (fun q hq => hq.checked fun _ => ?_) e
    split
    · exact hq.submitVehicle
    · exact hq.submitVehicle
    · exact hq.submitSlot
    · exact hq
  | cancelRelease d n =>
    exact State.recordsLawful_request h (fun q hq => hq.checked fun _ => hq.cancelRelease) e
  | slotServiceOff d slot setting => exact State.recordsLawful_request h (fun q hq => hq.slotServiceBody) e
  | slotServiceOn d slot => exact State.recordsLawful_request h (fun q hq => hq.slotServiceBody) e
  | chuteEmptied d =>
    exact State.recordsLawful_request h (fun q hq => hq.checked fun _ => hq.emptyChute.decideDrives) e
  | ackAlarm d n mark => exact State.recordsLawful_request h (fun q hq => hq.ackBody) e
  | ackAlarmAll d n => exact State.recordsLawful_request h (fun q hq => hq.ackBody) e
  | restart d i => exact State.recordsLawful_request h (fun q hq => hq.checked fun _ => hq.startUp) e
  | serviceHoldOn d => exact State.recordsLawful_request h (fun q hq => hq.serviceHoldBody) e
  | serviceHoldOff d setting => exact State.recordsLawful_request h (fun q hq => hq.serviceHoldBody) e
  | factoryClear d i =>
    exact State.recordsLawful_request h (fun q hq => hq.checked fun _ => q.factoryRecords_lawful.startUp) e
  | _ => simp [encodeRequest] at hc

/-- Every command keeps the records lawful. -/
theorem exec_recordsLawful {c : Instr} (e : exec c s = .next t) : t.part.recordsLawful := by
  cases hc : encodeRequest c with
  | some x => exact exec_request_recordsLawful h hc e
  | none =>
  cases c with dsimp only [exec] at e
  | unknownKind d kind => exact State.recordsLawful_request h (fun q hq => hq) e
  | frameDiscarded l | frameIgnored l | frameLengthAbandoned l =>
    exact State.recordsLawful_heard h (by simpa [Part.passOver, Part.hunt] using h.updLine) e
  | frameGapTimeout l => exact State.recordsLawful_live h (by simpa [Part.passOver, Part.hunt] using h.updLine) e
  | syncByteBeginsFrame l => exact State.recordsLawful_heard h (by simpa using h.updLine) e
  | lineOverrun l =>
    refine State.recordsLawful_heard h (fun q hq => ?_) e
    split at hq
    · obtain rfl := Option.some.inj hq
      exact h.hear.setFlags
    · simp at hq
  | replySent l => exact State.recordsLawful_live h (by simpa using h.updLine) e
  | presenceContactChange x b => exact State.recordsLawful_onPart h.contactSeen e
  | candidateQualified x => exact State.recordsLawful_liveHandle h h.qualify e
  | latchSenseChange x b => exact State.recordsLawful_onPart h.senseSeen e
  | strikeConfirmTimeout x =>
    refine State.recordsLawful_liveHandle h (fun q hq => ?_) e
    split at hq
    · obtain rfl := Option.some.inj hq
      exact h.advanceTo.latchFault
    · simp at hq
  | heldOpenClosedTimeout x | uncommandedOpen x =>
    refine State.recordsLawful_liveHandle h (fun q hq => ?_) e
    split at hq
    · obtain rfl := Option.some.inj hq
      exact h.advanceTo.latchFault
    · simp at hq
  | closingConfirmTimeout x =>
    refine State.recordsLawful_liveHandle h (fun q hq => ?_) e
    split at hq
    · obtain rfl := Option.some.inj hq
      exact h.advanceTo.latchFault.selection
    · simp at hq
  | boardSilenceTimeout c =>
    refine State.recordsLawful_liveHandle h (fun q hq => ?_) e
    split at hq
    · obtain rfl := Option.some.inj hq
      exact h.loseColumn
    · simp at hq
  | columnProbe c b => exact State.recordsLawful_liveHandle h h.probe e
  | readAttemptEnd c l => exact State.recordsLawful_liveHandle h h.attemptEnd e
  | auditTick c => exact State.recordsLawful_liveHandle h h.tick e
  | strikeChargeExpiry => exact State.recordsLawful_liveHandle h h.expireCharge e
  | agingReached n => exact State.recordsLawful_liveHandle h h.age e
  | takeDeadline n => exact State.recordsLawful_liveHandle h h.passDeadline e
  | locateTimerExpiry x =>
    refine State.recordsLawful_live h (fun q hq => ?_) e
    obtain ⟨t, -, rfl⟩ := Option.map_eq_some_iff.mp hq
    exact h.advanceTo.updEngine
  | dropDetected =>
    refine State.recordsLawful_onPart ?_ e
    split <;> exact h.setChute
  | chuteReadAttemptEnd l => exact State.recordsLawful_liveDecide h h.mouthAttempt e
  | pocketEmpty => exact State.recordsLawful_onPart h.setChute e
  | pocketDriveTimeout =>
    refine State.recordsLawful_live h (fun q hq => ?_) e
    split at hq
    · obtain rfl := Option.some.inj hq
      exact h.advanceTo.setChute
    · simp at hq
  | pocketRetry =>
    refine State.recordsLawful_live h (fun q hq => ?_) e
    split at hq
    · obtain rfl := Option.some.inj hq
      exact h.advanceTo.setChute
    · simp at hq
  | minuteBoundary => exact State.recordsLawful_live h (by simpa using h.boundary) e
  | sweepExamination => exact State.recordsLawful_liveDecide h h.sweepStep e
  | mainsInputChange b => exact State.recordsLawful_onPart h.setSupply e
  | mainsAbsentQualified => exact State.recordsLawful_liveHandle h h.mainsAbsent e
  | mainsPresentQualified => exact State.recordsLawful_liveHandle h h.mainsPresent e
  | batterySenseChange mv => exact State.recordsLawful_onPart h.setSupply e
  | batteryStateQualified => exact State.recordsLawful_liveHandle h h.batteryQualified e
  | supplyStop => exact State.recordsLawful_live h (by simpa using h.halt) e
  | powerOn i b =>
    refine State.recordsLawful_event h (fun q hq => ?_) e
    split at hq
    · obtain rfl := Option.some.inj hq
      exact h.startUp
    · simp at hq
  | startupCompletion l => exact State.recordsLawful_liveDecide h h.finishStart e
  | serviceHoldTimeout =>
    refine State.recordsLawful_liveHandle h (fun q hq => ?_) e
    obtain ⟨t, -, rfl⟩ := Option.map_eq_some_iff.mp hq
    exact h.advanceTo.setLines.selection
  | _ => simp [encodeRequest] at hc

/-- The step on an empty queue moves the time or the queue alone. -/
theorem State.idle_recordsLawful : s.idle.part.recordsLawful := by
  unfold State.idle
  dsimp only
  split
  · dsimp only
    split
    · exact h
    · exact h.of_same
  · exact h.elapse

end commands

/-- Settles O58: the records are lawful after every step, command by command. -/
theorem recordsKept : Obligations.RecordsKept := by
  intro s t h e
  unfold step at e
  split at e
  · obtain rfl := Host.Outcome.next.inj e
    exact State.idle_recordsLawful h
  next c rest _ => exact exec_recordsLawful (s := { s with pending := rest }) h e

end Sys2Proof.Machine
end

section
/-! PROOFS. The lamps of the slots and the beacons of the columns in the words of R16, R17 and R143 (LampsAndBeacons):
one equivalence for each row, and the rows in their order. -/

namespace Sys2Proof.Machine

/-! ## The conditions of the rows -/

theorem Vehicle.slot_eq_some_iff (v : Vehicle) (x : SlotId) : v.slot = some x ↔ v.status = .inSlot x := by
  unfold Vehicle.slot
  split <;> simp_all

theorem Vehicle.slot_eq_none_iff (v : Vehicle) : v.slot = none ↔ ∀ z, v.status ≠ .inSlot z := by
  unfold Vehicle.slot
  split <;> simp_all

theorem Vehicle.isOut_iff (v : Vehicle) : v.isOut = true ↔ ∃ o, v.status = .out o := by
  unfold Vehicle.isOut
  split <;> simp_all

theorem AlarmState.unacked_iff (a : AlarmState) : a.unacked = true ↔ a ≠ .activeAcked := by
  cases a <;> simp [AlarmState.unacked]

/-- An OPEN release stands on a slot (R16 row 1). -/
theorem Part.openOn_isSome_iff (p : Part) (x : SlotId) :
    (p.openOn x).isSome = true ↔ ∃ r ∈ p.sched.queue, r.isOpen = true ∧ r.slot = x := by
  simp [Part.openOn, List.find?_isSome]

theorem Part.columnOpen_iff (p : Part) (c : ColId) :
    p.columnOpen c = true ↔ ∃ r ∈ p.sched.queue, r.isOpen = true ∧ r.slot.col = c := by
  simp [Part.columnOpen]

/-- The slot of a vehicle's alarm is the vehicle's slot, or its home slot where its record names none (R143). -/
theorem Part.alarmSlot_vehicle_iff (p : Part) (unit : Nat) (y : SlotId) :
    p.alarmSlot (.vehicle unit) = some y ↔ ∃ v, p.findUnit unit = some v ∧
      (v.status = .inSlot y ∨ ((∀ z, v.status ≠ .inSlot z) ∧ v.home = some y)) := by
  simp only [Part.alarmSlot, Option.bind_eq_some_iff, Option.or_eq_some_iff, Vehicle.slot_eq_some_iff,
    Vehicle.slot_eq_none_iff]

theorem Part.alarmSlot_eq_some_iff (p : Part) (k : Subject) (y : SlotId) :
    p.alarmSlot k = some y ↔ k = .slot y ∨ ∃ unit v, k = .vehicle unit ∧ p.findUnit unit = some v ∧
      (v.status = .inSlot y ∨ ((∀ z, v.status ≠ .inSlot z) ∧ v.home = some y)) := by
  cases k with
  | slot s => simp [Part.alarmSlot]
  | vehicle unit => rw [Part.alarmSlot_vehicle_iff]; simp
  | _ => simp [Part.alarmSlot]

/-- An unacknowledged alarm of the slot stands (R16 row 2, R143). -/
theorem Part.alarmed_iff (p : Part) (y : SlotId) : p.alarmed y = true ↔
    ∃ a ∈ p.alarm.list, a.state ≠ .activeAcked ∧
      (a.subject = .slot y ∨ ∃ unit v, a.subject = .vehicle unit ∧ p.findUnit unit = some v ∧
        (v.status = .inSlot y ∨ ((∀ z, v.status ≠ .inSlot z) ∧ v.home = some y))) := by
  simp only [Part.alarmed, List.any_eq_true, Bool.and_eq_true, beq_iff_eq, AlarmState.unacked_iff,
    Part.alarmSlot_eq_some_iff]

theorem Part.unitHeld_iff (p : Part) (unit : Nat) :
    p.unitHeld unit = true ↔ ∃ v, p.findUnit unit = some v ∧ v.hold ≠ none := by
  simp [Part.unitHeld, Option.any_eq_true, Option.isSome_iff_ne_none]

/-- The vehicle of the fob in the slot carries a hold (R16 row 4). -/
theorem Part.heldBack_iff (p : Part) (x : SlotId) : p.heldBack x = true ↔
    ∃ tag unit m f v, (p.custody x = .held tag unit m f ∨ ∃ k, p.custody x = .releasing tag unit m k f) ∧
      p.findUnit unit = some v ∧ v.hold ≠ none := by
  unfold Part.heldBack
  cases p.custody x with
  | held t u m f => simp [Part.unitHeld_iff]
  | releasing t u m k f => simp [Part.unitHeld_iff]
  | _ => simp

theorem reaches_dueSoon_iff (c : Contract) :
    reaches .dueSoon c.level = true ↔ ∃ take l, c.state = .active take l ∧ l ≠ .current := by
  unfold Contract.level
  cases c.state with
  | pending r => simp [reaches]
  | active take l => cases l <;> simp [reaches, Level.rank]

/-- The slot is reserved for a vehicle that is OUT (R16 row 7). -/
theorem Part.reserved_iff (p : Part) (x : SlotId) : p.reserved x = true ↔
    ∃ v ∈ p.fleet, v.home = some x ∧ (∃ o, v.status = .out o) ∧
      ∃ c ∈ p.book.contracts, c.unit = v.unit ∧ ∃ take l, c.state = .active take l ∧ l ≠ .current := by
  simp only [Part.reserved, List.any_eq_true, Bool.and_eq_true, beq_iff_eq, Vehicle.isOut_iff, reaches_dueSoon_iff,
    and_assoc]

/-! ## The rows in their order -/

section rows

variable {p : Part} {x : SlotId}

theorem Part.lampRow_open (h : (p.openOn x).isSome = true) : p.lampRow x = 1 := by
  simp [Part.lampRow, h]

theorem Part.lampRow_alarmed (h1 : (p.openOn x).isSome = false) (h2 : p.alarmed x = true) : p.lampRow x = 2 := by
  simp [Part.lampRow, h1, h2]

/-- From row 3 on a lamp shows its row in MAINS alone (R16, Note 6). -/
theorem Part.lampRow_ge (h1 : (p.openOn x).isSome = false) (h2 : p.alarmed x = false) : 3 ≤ p.lampRow x := by
  simp only [Part.lampRow, h1, h2, Bool.false_eq_true, if_false]
  repeat' split
  all_goals omega

theorem Part.lampRow_out (h1 : (p.openOn x).isSome = false) (h2 : p.alarmed x = false)
    (h3 : (p.record x).latchFault = true ∨ (p.record x).outOfService = true) : p.lampRow x = 3 := by
  rcases h3 with h3 | h3 <;> simp [Part.lampRow, h1, h2, h3]

theorem Part.lampRow_held (h1 : (p.openOn x).isSome = false) (h2 : p.alarmed x = false)
    (h3 : ¬ ((p.record x).latchFault = true ∨ (p.record x).outOfService = true)) (h4 : p.heldBack x = true) :
    p.lampRow x = 4 := by
  simp [Part.lampRow, h1, h2, h3, h4]

/-- The rows 5 to 8, by the record of the slot. -/
theorem Part.lampRow_rest (h1 : (p.openOn x).isSome = false) (h2 : p.alarmed x = false)
    (h3 : ¬ ((p.record x).latchFault = true ∨ (p.record x).outOfService = true)) (h4 : p.heldBack x = false) :
    p.lampRow x = match p.custody x with
      | .foreign _ _ _ => 5
      | .unread _ => 5
      | .held _ _ _ _ => if (p.engine x).locateUntil.isSome then 6 else 8
      | .releasing _ _ _ _ _ => if (p.engine x).locateUntil.isSome then 6 else 8
      | .empty => if (p.engine x).locateUntil.isSome then 6 else if p.reserved x then 7 else 8 := by
  have h3' : ((p.record x).latchFault || (p.record x).outOfService) = false := by simpa using h3
  simp only [Part.lampRow, h1, h2, h3', h4, Bool.false_eq_true, if_false, Part.custody] <;> rfl

/-- A slot without a fob holds no vehicle back. -/
theorem Part.heldBack_of_empty (h : p.custody x = .empty) : p.heldBack x = false := by
  simp [Part.heldBack, h]

theorem Part.lamp_mains (hw : (p.column x.col).engine.watches = true) (hm : p.supply.mode = .mains) :
    p.lamp x = rowPattern (p.lampRow x) := by
  simp [Part.lamp, hw, hm]

theorem Part.lamp_reserve (hw : (p.column x.col).engine.watches = true) (hm : p.supply.mode ≠ .mains)
    (h1 : (p.openOn x).isSome = false) (h2 : p.alarmed x = false) : p.lamp x = .off := by
  simp [Part.lamp, hw, hm, Part.lampRow_ge h1 h2]

end rows

/-- Settles O55, row by row. -/
theorem lampsAndBeacons : Obligations.LampsAndBeacons := by
  intro p x isOpen alarmed out onHold waiting located reserved
  have hopen : (p.openOn x).isSome = true ↔ isOpen := p.openOn_isSome_iff x
  have halarmed (y : SlotId) : p.alarmed y = true ↔ alarmed y := p.alarmed_iff y
  have hheld : p.heldBack x = true ↔ onHold := p.heldBack_iff x
  have hlocated : (p.engine x).locateUntil.isSome = true ↔ located := Option.isSome_iff_ne_none
  have hreserved : p.reserved x = true ↔ reserved := p.reserved_iff x
  refine ⟨fun hw => by simp [Part.lamp, Part.beacon, hw], fun hw => ⟨?_, ?_, ?_, ?_, ?_, ?_⟩⟩
  · intro h
    simp [Part.lamp, hw, Part.lampRow_open (hopen.mpr h), rowPattern]
  · intro h1 h2
    simp [Part.lamp, hw, Part.lampRow_alarmed (Bool.eq_false_iff.mpr (mt hopen.mp h1)) ((halarmed x).mpr h2), rowPattern]
  · intro h1 h2 hm
    exact Part.lamp_reserve hw hm (Bool.eq_false_iff.mpr (mt hopen.mp h1)) (Bool.eq_false_iff.mpr (mt (halarmed x).mp h2))
  · intro h1 h2 hm
    have h1 := Bool.eq_false_iff.mpr (mt hopen.mp h1)
    have h2 := Bool.eq_false_iff.mpr (mt (halarmed x).mp h2)
    rw [Part.lamp_mains hw hm]
    have rest (h3 : ¬ out) (h4 : ¬ onHold) := Part.lampRow_rest h1 h2 h3 (Bool.eq_false_iff.mpr (mt hheld.mp h4))
    have free (h : p.custody x = .empty) : ¬ onHold := by
      rw [← hheld, Part.heldBack_of_empty h]
      exact Bool.false_ne_true
    refine ⟨fun h3 => ?_, fun h3 h4 => ?_, fun h3 h4 => ?_, fun h3 h4 h5 h6 => ?_, fun h3 h6 he h7 => ?_,
      fun h3 h6 he h7 => ?_, fun h3 h4 h5 h6 he => ?_⟩
    · rw [Part.lampRow_out h1 h2 h3, rowPattern]
    · rw [Part.lampRow_held h1 h2 h3 (hheld.mpr h4), rowPattern]
    · have hn : ¬ onHold := by
        rintro ⟨tag, unit, m, f, v, hc, -⟩
        rcases h4 with ⟨m, h4⟩ | ⟨t, q, m, h4⟩ <;> simp [h4] at hc
      rw [rest h3 hn]
      rcases h4 with ⟨m, h4⟩ | ⟨t, q, m, h4⟩ <;> simp [h4, rowPattern]
    · rw [rest h3 h4]
      have hl := hlocated.mpr h6
      cases hc : p.custody x with
      | unread m => exact absurd (.inl ⟨m, hc⟩) h5
      | foreign t q m => exact absurd (.inr ⟨t, q, m, hc⟩) h5
      | _ => simp [hl, rowPattern]
    · rw [rest h3 (free he)]
      have hl := mt hlocated.mp h6
      simp [he, hl, hreserved.mpr h7, rowPattern]
    · rw [rest h3 (free he)]
      have hl := mt hlocated.mp h6
      simp [he, hl, mt hreserved.mp h7, rowPattern]
    · rw [rest h3 h4]
      have hl := mt hlocated.mp h6
      cases hc : p.custody x with
      | empty => exact absurd hc he
      | unread m => exact absurd (.inl ⟨m, hc⟩) h5
      | foreign t q m => exact absurd (.inr ⟨t, q, m, hc⟩) h5
      | _ => simp [hl, rowPattern]
  · intro h
    simp [Part.beacon, hw, (p.columnOpen_iff x.col).mpr h]
  · intro h
    have hc : p.columnOpen x.col = false := by
      rw [Bool.eq_false_iff, ne_eq, p.columnOpen_iff]
      rintro ⟨r, hr, ho, e⟩
      exact h r hr ho e
    have hany : (allPos.any fun i => p.alarmed ⟨x.col, i⟩) = true ↔ ∃ i, alarmed ⟨x.col, i⟩ := by
      simp [allPos, halarmed]
    refine ⟨fun hm ha => ?_, fun ha => ?_⟩
    · simp [Part.beacon, hw, hc, hm, hany.mpr ha]
    · have hn : ¬ (p.supply.mode = .mains ∧ (allPos.any fun i => p.alarmed ⟨x.col, i⟩) = true) := by
        rw [hany]
        rintro ⟨hm, i, hi⟩
        rcases ha with ha | ha
        · exact ha hm
        · exact ha i hi
      unfold Part.beacon
      rw [if_pos hw, if_neg (by simp [hc]), if_neg hn]

end Sys2Proof.Machine
end

section
/-! PROOFS. What the scheduler and the settling of a handling can do to the columns and the slots, said once: they move
release kinds, latches and reads, and leave everything else of a slot alone; and which slots and columns they do not
touch at all. -/

namespace Sys2Proof.Machine

/-! ## Reading columns and slots -/

theorem Part.column_congr {p q : Part} (h : q.columns = p.columns) (c : ColId) : q.column c = p.column c := by
  rw [Part.column, Part.column, h]

theorem Part.slot_of_column {p q : Part} {x : SlotId} (h : q.column x.col = p.column x.col) : q.slot x = p.slot x := by
  rw [Part.slot, Part.slot, h]

theorem Part.slot_congr {p q : Part} (h : q.columns = p.columns) (x : SlotId) : q.slot x = p.slot x :=
  Part.slot_of_column (Part.column_congr h _)

theorem Part.record_of_slot {p q : Part} {x : SlotId} (h : q.slot x = p.slot x) : q.record x = p.record x := by
  rw [Part.record, Part.record, h]

theorem Part.engine_of_slot {p q : Part} {x : SlotId} (h : q.slot x = p.slot x) : q.engine x = p.engine x := by
  rw [Part.engine, Part.engine, h]

theorem Part.custody_of_slot {p q : Part} {x : SlotId} (h : q.slot x = p.slot x) : q.custody x = p.custody x := by
  rw [Part.custody, Part.custody, Part.record_of_slot h]

@[simp] theorem Part.column_updSlot_of_ne (p : Part) {x : SlotId} {c : ColId} (f : Slot → Slot) (h : x.col ≠ c) :
    (p.updSlot x f).column c = p.column c :=
  Part.column_updColumn_of_ne p _ h

/-! ## Release kinds come and go -/

@[simp] theorem Custody.returned_returned (k : Custody) : k.returned.returned = k.returned := by cases k <;> rfl

@[simp] theorem Custody.returned_released (k : Custody) (kind : VehicleKind) : (k.released kind).returned = k.returned := by
  cases k <;> rfl

/-- A record that is neither HELD nor RELEASING is known by what it would be returned to. -/
theorem Custody.eq_of_returned {k k' : Custody} (h : k'.returned = k.returned) (hh : ∀ t u m f, k ≠ .held t u m f)
    (hr : ∀ t u m j f, k ≠ .releasing t u m j f) : k' = k := by
  cases k with
  | held t u m f => exact absurd rfl (hh t u m f)
  | releasing t u m j f => exact absurd rfl (hr t u m j f)
  | _ => cases k' <;> simp_all [Custody.returned]

/-! ## The base of a slot and of a column -/

/-- A slot without the release kind of its record and without the state of its latch. -/
def Slot.base (x : Slot) : Slot :=
  { record := { x.record with custody := x.record.custody.returned }
    engine := { x.engine with latch := x.engine.latch.map fun _ => .closed none } }

/-- A column with the bases of its slots and without its reads. -/
def Column.base (col : Column) : Column :=
  { col with slots := col.slots.map Slot.base, readList := [], reader := none }

/-- The bases of the columns: what selections and the endings of releases leave alone. -/
def Part.bases (p : Part) (c : ColId) : Column := (p.column c).base

theorem Part.bases_congr {p q : Part} (h : q.columns = p.columns) : q.bases = p.bases :=
  funext fun c => by rw [Part.bases, Part.bases, Part.column_congr h]

/-- A change of columns that leaves the bases alone. -/
theorem Part.bases_updColumn (p : Part) {c : ColId} {f : Column → Column} (h : (f (p.column c)).base = (p.column c).base) :
    (p.updColumn c f).bases = p.bases := by
  funext d
  rw [Part.bases, Part.bases]
  rcases eq_or_ne c d with rfl | hd
  · rw [Part.column_updColumn_self, h]
  · rw [Part.column_updColumn_of_ne p f hd]

theorem Column.base_updSlot {col : Column} {i : PosId} {f : Slot → Slot} (h : (f col.slots[i]).base = col.slots[i].base) :
    (col.updSlot i f).base = col.base := by
  have hs : (col.updSlot i f).slots.map Slot.base = col.slots.map Slot.base := by
    ext j hj : 1
    rw [Vector.getElem_map, Vector.getElem_map]
    have := col.updSlot_slots_get i ⟨j, hj⟩ f
    simp only [Fin.getElem_fin] at this
    rw [this]
    split
    next e => subst e; exact h
    next => rfl
  simp only [Column.base, hs]
  rfl

theorem Part.bases_updSlot (p : Part) {x : SlotId} {f : Slot → Slot} (h : (f (p.slot x)).base = (p.slot x).base) :
    (p.updSlot x f).bases = p.bases :=
  p.bases_updColumn (Column.base_updSlot h)

@[simp] theorem Column.place_base (col : Column) (i : PosId) (x : Purpose) : (col.place i x).base = col.base := by
  unfold Column.place
  repeat' split
  all_goals rfl

@[simp] theorem Column.requeue_base (col : Column) (i : PosId) : (col.requeue i).base = col.base := by
  unfold Column.requeue
  repeat' split
  all_goals rfl

section bases

variable (p : Part)

@[simp] theorem Part.placeRead_bases (x : SlotId) (u : Purpose) : (p.placeRead x u).bases = p.bases :=
  p.bases_updColumn (Column.place_base ..)

@[simp] theorem Part.requeueRead_bases (x : SlotId) : (p.requeueRead x).bases = p.bases :=
  p.bases_updColumn (Column.requeue_base ..)

@[simp] theorem Part.dropVerify_bases (x : SlotId) : (p.dropVerify x).bases = p.bases := p.bases_updColumn rfl

@[simp] theorem Part.updLatch_bases (x : SlotId) (f : Latch → Latch) : (p.updLatch x f).bases = p.bases :=
  p.bases_updSlot (by simp [Slot.base, Function.comp_def])

@[simp] theorem Part.updRelease_bases (n : Nat) (f : Release → Release) : (p.updRelease n f).bases = p.bases := rfl

@[simp] theorem Part.strike_bases (x : SlotId) : (p.strike x).bases = p.bases := p.updLatch_bases x _

@[simp] theorem Part.stopLatch_bases (x : SlotId) : (p.stopLatch x).bases = p.bases := p.updLatch_bases x _

/-- A record keeps its base where it moves between HELD and RELEASING. -/
theorem Part.setCustody_bases {x : SlotId} {k : Custody} (h : k.returned = (p.custody x).returned) :
    (p.setCustody x k).bases = p.bases :=
  p.bases_updSlot (by
    have h' : k.returned = (p.slot x).record.custody.returned := h
    simp [Slot.base, h'])

@[simp] theorem Part.openRelease_bases (r : Release) : (p.openRelease r).bases = p.bases := by
  simp [Part.openRelease]

@[simp] theorem Part.notice_bases (b : NoticeBody) : (p.notice b).bases = p.bases := Part.bases_congr (by simp)

@[simp] theorem Part.raise_bases (k : AlarmKind) (x : Subject) : (p.raise k x).bases = p.bases :=
  Part.bases_congr (by simp)

@[simp] theorem Part.endCondition_bases (k : AlarmKind) (x : Subject) : (p.endCondition k x).bases = p.bases :=
  Part.bases_congr (by simp)

@[simp] theorem Part.setSched_bases (d : Scheduler) : ({ p with sched := d } : Part).bases = p.bases := rfl

@[simp] theorem Part.selectOne_bases (r : Release) : (p.selectOne r).bases = p.bases := by
  unfold Part.selectOne
  dsimp only
  split
  · rw [Part.placeRead_bases, Part.setCustody_bases _ (Custody.returned_released ..)]
    rfl
  · rw [Part.openRelease_bases, Part.requeueRead_bases]
    rfl

@[simp] theorem selectAll_bases (n : Nat) : (selectAll n p).bases = p.bases := by
  induction n generalizing p with
  | zero => rfl
  | succ n ih =>
    unfold selectAll
    split
    · rfl
    · rw [ih, Part.selectOne_bases]

@[simp] theorem Part.selection_bases : p.selection.bases = p.bases := by
  unfold Part.selection
  split
  · exact selectAll_bases p _
  · rfl

@[simp] theorem Part.leaveSlot_bases (r : Release) (o : ReleaseOutcome) : (p.leaveSlot r o).bases = p.bases := by
  have hq : (match r.phase with
      | .waiting => p
      | .verifying _ => p.dropVerify r.slot
      | .opened _ _ _ _ => p.stopLatch r.slot).bases = p.bases := by
    split <;> simp
  unfold Part.leaveSlot
  dsimp only
  split
  · exact (Part.setCustody_bases _ (by simp)).trans hq
  · exact hq

@[simp] theorem Part.leaveQueue_bases (r : Release) (o : ReleaseOutcome) : (p.leaveQueue r o).bases = p.bases := rfl

@[simp] theorem Part.leaveLinks_bases (r : Release) (o : ReleaseOutcome) : (p.leaveLinks r o).bases = p.bases :=
  Part.bases_congr (by simp)

@[simp] theorem Part.endRelease_bases (r : Release) (o : ReleaseOutcome) : (p.endRelease r o).bases = p.bases := by
  simp [Part.endRelease]

@[simp] theorem Part.endAll_bases (l : List Release) (o : ReleaseOutcome) : (p.endAll l o).bases = p.bases :=
  foldl_keeps Part.bases _ (fun p r => by split <;> simp) l p

end bases

/-! ## What a kept base says of a slot -/

section reads

variable {p q : Part} (h : q.bases = p.bases)
include h

theorem Part.base_of_bases (x : SlotId) : (q.slot x).base = (p.slot x).base := by
  have hc := congrArg Column.slots (congrFun h x.col)
  have hx := congrArg (fun v : Vector Slot 24 => v[x.pos.val]) hc
  simpa [Part.bases, Column.base, Part.slot] using hx

theorem Part.returned_of_bases (x : SlotId) : (q.custody x).returned = (p.custody x).returned :=
  congrArg (fun y : Slot => y.record.custody) (Part.base_of_bases h x)

/-- A record that is neither HELD nor RELEASING stays whole. -/
theorem Part.custody_of_bases {x : SlotId} (hh : ∀ t u m f, p.custody x ≠ .held t u m f)
    (hr : ∀ t u m k f, p.custody x ≠ .releasing t u m k f) : q.custody x = p.custody x :=
  Custody.eq_of_returned (Part.returned_of_bases h x) hh hr

theorem Part.engineState_of_bases (c : ColId) : (q.column c).engine = (p.column c).engine := by
  show (q.bases c).engine = (p.bases c).engine
  rw [h]

end reads

/-! ## The queue: what selections and endings leave of the live requests -/

/-- A live request without its phase. -/
def Release.bare (r : Release) : Release := { r with phase := .waiting }

/-- The live requests without their phases, in queue order. -/
def Part.requests (p : Part) : List Release := p.sched.queue.map Release.bare

theorem Part.liveNumbers_eq (p : Part) : p.liveNumbers = p.requests.map (·.number) := by
  simp [Part.liveNumbers, Part.requests, Release.bare, Function.comp_def]

theorem Part.mem_requests_of_queue {p : Part} {r : Release} (h : r ∈ p.sched.queue) : r.bare ∈ p.requests :=
  List.mem_map.mpr ⟨r, h, rfl⟩

theorem Part.requests_congr {p q : Part} (h : q.sched.queue = p.sched.queue) : q.requests = p.requests := by
  rw [Part.requests, Part.requests, h]

theorem Part.liveNumbers_of_requests {p q : Part} (h : q.requests = p.requests) : q.liveNumbers = p.liveNumbers := by
  rw [Part.liveNumbers_eq, Part.liveNumbers_eq, h]

/-- No live request is for a slot. -/
def Part.noneOn (p : Part) (x : SlotId) : Prop := ∀ r ∈ p.requests, r.slot ≠ x

theorem Part.noneOn_iff (p : Part) (x : SlotId) : p.noneOn x ↔ p.liveOn x = [] := by
  simp [Part.noneOn, Part.requests, Part.liveOn, Release.bare, List.filter_eq_nil_iff]

theorem Part.noneOn.queue {p : Part} {x : SlotId} (h : p.noneOn x) : ∀ r ∈ p.sched.queue, r.slot ≠ x :=
  fun r hr => h r.bare (Part.mem_requests_of_queue hr)

theorem Part.noneOn.of_requests {p q : Part} {x : SlotId} (h : p.noneOn x) (hr : q.requests = p.requests) : q.noneOn x := by
  rwa [Part.noneOn, hr]

/-- A change of phases keeps the live requests. -/
theorem Part.updRelease_requests (p : Part) (n : Nat) {f : Release → Release} (h : ∀ r, (f r).bare = r.bare) :
    (p.updRelease n f).requests = p.requests := by
  simp only [Part.requests, Part.updRelease_queue, List.map_map]
  refine List.map_congr_left fun r _ => ?_
  simp only [Function.comp_apply]
  split <;> simp [h]

/-- What an opening leaves alone of the queue and of the ended list. -/
@[simp] theorem Part.openRelease_sched (p : Part) (r : Release) :
    (p.openRelease r).requests = p.requests ∧ (p.openRelease r).sched.ended = p.sched.ended := by
  refine ⟨?_, by simp [Part.openRelease]⟩
  unfold Part.openRelease
  refine (Part.updRelease_requests _ _ ?_).trans (Part.requests_congr rfl)
  exact fun _ => rfl

/-- The part with a strike charged and a request VERIFYING: what every selection begins with (R65). -/
def Part.charged (p : Part) (r : Release) : Part :=
  Part.updRelease
    { p with sched := { p.sched with strikes := p.sched.strikes ++ [{ charged := p.uptime, left := false }] } }
    r.number fun r => { r with phase := .verifying p.uptime }

@[simp] theorem Part.charged_requests (p : Part) (r : Release) : (p.charged r).requests = p.requests := by
  refine (Part.updRelease_requests _ _ ?_).trans (Part.requests_congr rfl)
  exact fun _ => rfl

@[simp] theorem Part.charged_column (p : Part) (r : Release) (c : ColId) : (p.charged r).column c = p.column c := rfl

@[simp] theorem Part.charged_slot (p : Part) (r : Release) (x : SlotId) : (p.charged r).slot x = p.slot x := rfl

@[simp] theorem Part.charged_custody (p : Part) (r : Release) (x : SlotId) : (p.charged r).custody x = p.custody x := rfl

theorem Part.selectOne_vehicle (p : Part) {r : Release} {kind : VehicleKind} (h : r.target.vehicleKind = some kind) :
    p.selectOne r =
      ((p.charged r).setCustody r.slot ((p.custody r.slot).released kind)).placeRead r.slot .verify := by
  simp only [Part.selectOne, h] <;> rfl

theorem Part.selectOne_staffSlot (p : Part) {r : Release} (h : r.target.vehicleKind = none) :
    p.selectOne r = ((p.charged r).requeueRead r.slot).openRelease { r with phase := .verifying p.uptime } := by
  simp only [Part.selectOne, h] <;> rfl

@[simp] theorem Part.selectOne_sched (p : Part) (r : Release) :
    (p.selectOne r).requests = p.requests ∧ (p.selectOne r).sched.ended = p.sched.ended := by
  cases h : r.target.vehicleKind with
  | some kind =>
    rw [Part.selectOne_vehicle p h]
    exact ⟨Part.charged_requests p r, rfl⟩
  | none =>
    rw [Part.selectOne_staffSlot p h]
    exact ⟨(Part.openRelease_sched ..).1.trans (Part.charged_requests p r), (Part.openRelease_sched ..).2⟩

/-! ## Selections and settlings, step by step -/

/-- A winner waits in the queue and is eligible. -/
theorem Part.winner_mem {p : Part} {r : Release} (h : p.winner = some r) : r ∈ p.sched.queue ∧ p.eligible r = true := by
  have key : ∀ (l : List Release) (b : Option Release), l.foldl p.keep b = some r → r ∈ l ∨ b = some r := by
    intro l
    induction l with
    | nil => exact fun _ e => .inr e
    | cons a l ih =>
      intro b e
      rcases ih _ e with hl | hb
      · exact .inl (List.mem_cons_of_mem _ hl)
      · cases b with
        | none => simp_all
        | some c => rw [Part.keep_some] at hb; split at hb <;> simp_all
  rcases key _ _ (p.winner_eq ▸ h) with hm | hn
  · exact List.mem_filter.mp hm
  · simp at hn

/-- What every selection of a winner keeps, selections keep. -/
theorem selectAll_induct {P : Part → Prop} (hsel : ∀ q r, P q → q.winner = some r → P (q.selectOne r)) (n : Nat)
    {p : Part} (h : P p) : P (selectAll n p) := by
  induction n generalizing p with
  | zero => exact h
  | succ n ih =>
    unfold selectAll
    split
    · exact h
    · exact ih (hsel _ _ h ‹_›)

theorem Part.selection_induct {P : Part → Prop} (hsel : ∀ q r, P q → q.winner = some r → P (q.selectOne r)) {p : Part}
    (h : P p) : P p.selection := by
  unfold Part.selection
  split
  · exact selectAll_induct hsel _ h
  · exact h

/-- A column that enters RUNNING, before the selection it makes. -/
def Part.runColumn (p : Part) (c : ColId) : Part :=
  ((p.updColumn c fun col => { col with engine := .running }).followAudit c).endCondition .columnLost (.column c)

/-- A column that waits for no read any more and is about to enter RUNNING. -/
def Part.mayRun (p : Part) (c : ColId) : Prop :=
  (p.column c).engine = .reconciling ∧ (p.column c).unreconciled = []

theorem Part.enterRunning_of_mayRun {p : Part} {c : ColId} (h : p.mayRun c) :
    p.enterRunning c = (p.runColumn c).selection := by
  simp [Part.enterRunning, h.1, h.2, Part.runColumn]

theorem Part.enterRunning_of_not {p : Part} {c : ColId} (h : ¬ p.mayRun c) : p.enterRunning c = p := by
  unfold Part.enterRunning
  dsimp only
  split
  next hc =>
    refine absurd ?_ h
    simpa [Part.mayRun] using hc
  next => rfl

theorem foldl_induct {α β : Type} {P : α → Prop} {f : α → β → α} (l : List β) (h : ∀ a b, P a → P (f a b)) {a : α}
    (ha : P a) : P (l.foldl f a) := by
  induction l generalizing a with
  | nil => exact ha
  | cons b l ih => exact ih (h _ _ ha)

theorem Part.enterRunning_induct {P : Part → Prop} (hrun : ∀ q c, P q → q.mayRun c → P (q.runColumn c))
    (hsel : ∀ q r, P q → q.winner = some r → P (q.selectOne r)) {p : Part} (c : ColId) (h : P p) :
    P (p.enterRunning c) := by
  by_cases hc : p.mayRun c
  · rw [Part.enterRunning_of_mayRun hc]
    exact Part.selection_induct hsel (hrun _ _ h hc)
  · rwa [Part.enterRunning_of_not hc]

/-- What the columns' entries into RUNNING, the selections, the readers and the drives each keep, a settling keeps. -/
theorem Part.settle_induct {P : Part → Prop} (hrun : ∀ q c, P q → q.mayRun c → P (q.runColumn c))
    (hsel : ∀ q r, P q → q.winner = some r → P (q.selectOne r)) (hread : ∀ q c, P q → P (q.startReader c))
    (hdrive : ∀ q, P q → P q.decideDrives) {p : Part} (h : P p) : P p.settle := by
  unfold Part.settle
  split
  · exact hdrive _ h
  · exact hdrive _ (foldl_induct _ hread (foldl_induct _ (fun _ c => Part.enterRunning_induct hrun hsel c) h))

/-- Where no column is about to enter RUNNING, a settling moves the readers and the drives alone. -/
theorem Part.settle_of_quiet {p : Part} (hh : p.halted = false) (h : p.quiet) :
    p.settle = p.startReaders.decideDrives := by
  have hc : allCols.foldl Part.enterRunning p = p :=
    foldl_induct (P := (· = p)) _ (fun _ c e => by rw [e]; exact Part.enterRunning_of_not fun hm => h c hm.1 hm.2) rfl
  simp [Part.settle, hh, hc]

/-- What a column's entry into RUNNING leaves alone, its selection aside. -/
@[simp] theorem Part.runColumn_frame (p : Part) (c : ColId) :
    (p.runColumn c).uptime = p.uptime ∧ (p.runColumn c).fleet = p.fleet ∧ (p.runColumn c).sched = p.sched ∧
    (p.runColumn c).book = p.book ∧ (p.runColumn c).chute = p.chute ∧ (p.runColumn c).late = p.late ∧
    (p.runColumn c).supply = p.supply ∧ (p.runColumn c).lines.holdUntil = p.lines.holdUntil := by
  simp [Part.runColumn]

@[simp] theorem Part.selection_requests (p : Part) :
    p.selection.requests = p.requests ∧ p.selection.sched.ended = p.sched.ended :=
  Part.selection_induct (P := fun q => q.requests = p.requests ∧ q.sched.ended = p.sched.ended)
    (fun q r h _ => by simpa using h) ⟨rfl, rfl⟩

@[simp] theorem Part.settle_requests (p : Part) :
    p.settle.requests = p.requests ∧ p.settle.sched.ended = p.sched.ended := by
  refine Part.settle_induct (P := fun q => q.requests = p.requests ∧ q.sched.ended = p.sched.ended) ?_ ?_ ?_ ?_ ⟨rfl, rfl⟩
  · exact fun q c h _ => by simpa [Part.requests] using h
  · exact fun q r h _ => by simpa using h
  · exact fun q c h => by simpa [Part.requests] using h
  · exact fun q h => h

@[simp] theorem Part.settle_liveNumbers (p : Part) : p.settle.liveNumbers = p.liveNumbers :=
  Part.liveNumbers_of_requests p.settle_requests.1

@[simp] theorem Part.selection_liveNumbers (p : Part) : p.selection.liveNumbers = p.liveNumbers :=
  Part.liveNumbers_of_requests p.selection_requests.1

/-! ## Endings -/

/-- What the ending of a release leaves of the queue before its selection. -/
@[simp] theorem Part.leaveSlot_sched (p : Part) (r : Release) (o : ReleaseOutcome) : (p.leaveSlot r o).sched = p.sched := by
  unfold Part.leaveSlot
  dsimp only
  repeat' split
  all_goals rfl

@[simp] theorem Part.leaveLinks_sched (p : Part) (r : Release) (o : ReleaseOutcome) :
    (p.leaveLinks r o).sched = p.sched := by
  unfold Part.leaveLinks
  repeat' split
  all_goals simp

theorem Part.endRelease_requests (p : Part) (r : Release) (o : ReleaseOutcome) :
    (p.endRelease r o).requests = p.requests.filter fun q => q.number != r.number := by
  rw [Part.endRelease, (Part.selection_requests _).1]
  simp [Part.requests, Part.leaveQueue, List.filter_map, Function.comp_def, Release.bare]

theorem Part.endRelease_liveNumbers (p : Part) (r : Release) (o : ReleaseOutcome) :
    (p.endRelease r o).liveNumbers = p.liveNumbers.filter fun n => n != r.number := by
  rw [Part.liveNumbers_eq, Part.liveNumbers_eq, Part.endRelease_requests, List.filter_map]
  rfl

theorem mem_pushEnded (l : List (Nat × ReleaseOutcome)) (e : Nat × ReleaseOutcome) : e ∈ pushEnded l e := by
  unfold pushEnded
  rw [List.drop_append_of_le_length (by simp [Config.endedCapacity])]
  simp

/-- An ended release stands in the ended list with its outcome (R57). -/
theorem Part.endRelease_ended (p : Part) (r : Release) (o : ReleaseOutcome) :
    (r.number, o) ∈ (p.endRelease r o).sched.ended := by
  rw [Part.endRelease, (Part.selection_requests _).2]
  simpa [Part.leaveQueue] using mem_pushEnded ..

/-- One of several endings: of the request with a number, as it then stands. -/
def Part.endNumber (p : Part) (n : Nat) (o : ReleaseOutcome) : Part :=
  match p.findRelease n with
  | none => p
  | some r => p.endRelease r o

theorem Part.endAll_eq (p : Part) (l : List Release) (o : ReleaseOutcome) :
    p.endAll l o = l.foldl (fun p r => p.endNumber r.number o) p := rfl

/-- What every ending of a live request keeps, several endings keep. -/
theorem Part.endAll_induct {P : Part → Prop} {l : List Release} {o : ReleaseOutcome}
    (hend : ∀ q r, P q → r ∈ q.sched.queue → r.number ∈ l.map (·.number) → P (q.endRelease r o)) {p : Part} (h : P p) :
    P (p.endAll l o) := by
  rw [Part.endAll_eq]
  have hone : ∀ q n, P q → n ∈ l.map (·.number) → P (q.endNumber n o) := by
    intro q n hq hn
    unfold Part.endNumber
    split
    · exact hq
    next r hr =>
      have hrn : r.number = n := by simpa using List.find?_some hr
      exact hend _ _ hq (List.mem_of_find?_eq_some hr) (hrn ▸ hn)
  generalize hm : l = m at hone ⊢
  have hsub : ∀ r ∈ m, r.number ∈ m.map (·.number) := fun r hr => List.mem_map.mpr ⟨r, hr, rfl⟩
  generalize m.map (·.number) = numbers at hone hsub
  clear hm
  induction m generalizing p with
  | nil => exact h
  | cons r m ih =>
    exact ih (hone _ _ h (hsub r (List.mem_cons_self ..))) fun r' hr' => hsub r' (List.mem_cons_of_mem _ hr')

theorem Part.endNumber_requests (p : Part) (n : Nat) (o : ReleaseOutcome) :
    (p.endNumber n o).requests = p.requests.filter fun q => q.number != n := by
  unfold Part.endNumber
  split
  next hn =>
    refine (List.filter_eq_self.mpr fun q hq => ?_).symm
    obtain ⟨r, hr, rfl⟩ := List.mem_map.mp hq
    have := List.find?_eq_none.mp hn r hr
    simpa [Release.bare] using this
  next r hs =>
    have : r.number = n := by simpa using List.find?_some hs
    rw [Part.endRelease_requests, this]

/-- Endings leave of the live requests those with other numbers. -/
theorem Part.endAll_requests (p : Part) (l : List Release) (o : ReleaseOutcome) :
    (p.endAll l o).requests = p.requests.filter fun q => decide (q.number ∉ l.map (·.number)) := by
  rw [Part.endAll_eq]
  induction l generalizing p with
  | nil => simp
  | cons r l ih =>
    rw [List.foldl_cons, ih, Part.endNumber_requests, List.filter_filter]
    refine List.filter_congr fun q _ => ?_
    rw [Bool.eq_iff_iff]
    simp only [List.map_cons, List.mem_cons, Bool.and_eq_true, decide_eq_true_eq, bne_iff_ne, not_or, and_comm, ne_eq]

theorem Part.mem_endAll_liveNumbers {p : Part} {l : List Release} {o : ReleaseOutcome} {r : Release} (hr : r ∈ l) :
    r.number ∉ (p.endAll l o).liveNumbers := by
  rw [Part.liveNumbers_eq, Part.endAll_requests]
  simp only [List.mem_map, List.mem_filter, not_exists, not_and, and_imp, decide_eq_true_eq]
  intro q _ hq e
  exact hq r hr e.symm

@[simp] theorem Part.endAll_nil (p : Part) (o : ReleaseOutcome) : p.endAll [] o = p := rfl

/-! ## Slots that no live request is for stay as they are -/

theorem Part.slot_updColumn {p : Part} {c : ColId} {f : Column → Column}
    (h : (f (p.column c)).slots = (p.column c).slots) (x : SlotId) : (p.updColumn c f).slot x = p.slot x := by
  rcases eq_or_ne c x.col with rfl | hc
  · rw [Part.slot, Part.slot, Part.column_updColumn_self]
    simp only [h]
  · exact Part.slot_of_column (Part.column_updColumn_of_ne _ _ hc)

section slots

variable (p : Part) {x y : SlotId}

@[simp] theorem Part.placeRead_slot (x : SlotId) (u : Purpose) (y : SlotId) : (p.placeRead x u).slot y = p.slot y :=
  Part.slot_updColumn (Column.place_slots ..) y

@[simp] theorem Part.cancelReads_slot (x y : SlotId) : (p.cancelReads x).slot y = p.slot y :=
  Part.slot_updColumn (Column.cancel_slots ..) y

@[simp] theorem Part.requeueRead_slot (x y : SlotId) : (p.requeueRead x).slot y = p.slot y :=
  Part.slot_updColumn (Column.requeue_slots ..) y

@[simp] theorem Part.dropVerify_slot (x y : SlotId) : (p.dropVerify x).slot y = p.slot y :=
  Part.slot_updColumn (Column.dropVerify_slots ..) y

theorem Part.setCustody_slot_of_ne (k : Custody) (h : x ≠ y) : (p.setCustody x k).slot y = p.slot y :=
  Part.slot_updSlot_of_ne p _ h

theorem Part.updLatch_slot_of_ne (f : Latch → Latch) (h : x ≠ y) : (p.updLatch x f).slot y = p.slot y :=
  Part.slot_updSlot_of_ne p _ h

@[simp] theorem Part.updRelease_slot (n : Nat) (f : Release → Release) (y : SlotId) :
    (p.updRelease n f).slot y = p.slot y := rfl

theorem Part.openRelease_slot_of_ne {r : Release} (h : r.slot ≠ y) : (p.openRelease r).slot y = p.slot y :=
  Part.updLatch_slot_of_ne p _ h

theorem Part.selectOne_slot_of_ne {r : Release} (h : r.slot ≠ y) : (p.selectOne r).slot y = p.slot y := by
  cases hk : r.target.vehicleKind with
  | some kind => rw [Part.selectOne_vehicle p hk, Part.placeRead_slot, Part.setCustody_slot_of_ne _ _ h, Part.charged_slot]
  | none =>
    rw [Part.selectOne_staffSlot p hk, Part.openRelease_slot_of_ne _ (by exact h), Part.requeueRead_slot,
      Part.charged_slot]

@[simp] theorem Part.followAudit_slot (c : ColId) (y : SlotId) : (p.followAudit c).slot y = p.slot y := by
  unfold Part.followAudit
  split
  · exact Part.slot_updColumn rfl y
  · rfl
  · rfl
  · exact Part.slot_updColumn rfl y

@[simp] theorem Part.startReader_slot (c : ColId) (y : SlotId) : (p.startReader c).slot y = p.slot y := by
  unfold Part.startReader
  dsimp only
  split
  · split
    · rfl
    · exact Part.slot_updColumn rfl y
  · rfl

@[simp] theorem Part.startReaders_slot (y : SlotId) : p.startReaders.slot y = p.slot y :=
  foldl_keeps (fun q : Part => q.slot y) _ (fun q c => Part.startReader_slot q c y) allCols p

@[simp] theorem Part.decideDrives_slot (y : SlotId) : p.decideDrives.slot y = p.slot y := rfl

@[simp] theorem Part.runColumn_slot (c : ColId) (y : SlotId) : (p.runColumn c).slot y = p.slot y := by
  unfold Part.runColumn
  rw [Part.slot_congr (Part.endCondition_frame ..).2.1, Part.followAudit_slot]
  exact Part.slot_updColumn rfl y

theorem Part.leaveSlot_slot_of_ne {r : Release} (o : ReleaseOutcome) (h : r.slot ≠ y) :
    (p.leaveSlot r o).slot y = p.slot y := by
  have hq : (match r.phase with
      | .waiting => p
      | .verifying _ => p.dropVerify r.slot
      | .opened _ _ _ _ => p.stopLatch r.slot).slot y = p.slot y := by
    split
    · rfl
    · exact Part.dropVerify_slot ..
    · exact Part.updLatch_slot_of_ne p _ h
  unfold Part.leaveSlot
  dsimp only
  split
  · exact (Part.setCustody_slot_of_ne _ _ h).trans hq
  · exact hq

end slots

/-- The ending of a live request before its selection. -/
def Part.leave (p : Part) (r : Release) (o : ReleaseOutcome) : Part :=
  (((p.leaveQueue r o).leaveSlot r o).leaveLinks r o).notice (.releaseEnded (some r.number) r.target (some r.slot) o)

theorem Part.endRelease_eq (p : Part) (r : Release) (o : ReleaseOutcome) : p.endRelease r o = (p.leave r o).selection :=
  rfl

@[simp] theorem Part.leave_requests (p : Part) (r : Release) (o : ReleaseOutcome) :
    (p.leave r o).requests = p.requests.filter fun q => q.number != r.number := by
  rw [← Part.endRelease_requests p r o, Part.endRelease_eq, (Part.selection_requests _).1]

theorem Part.leave_columns (p : Part) (r : Release) (o : ReleaseOutcome) :
    (p.leave r o).columns = ((p.leaveQueue r o).leaveSlot r o).columns := by
  simp [Part.leave]

/-- A slot that no live request is for, as it was. -/
def Part.idleSlot (p : Part) (x : SlotId) (k : Slot) : Prop := p.slot x = k ∧ p.noneOn x

section idle

variable {p : Part} {x : SlotId} {k : Slot}

theorem Part.idleSlot.selectOne (h : p.idleSlot x k) {r : Release} (hw : p.winner = some r) : (p.selectOne r).idleSlot x k :=
  ⟨(Part.selectOne_slot_of_ne p (h.2.queue r (Part.winner_mem hw).1)).trans h.1, h.2.of_requests (Part.selectOne_sched ..).1⟩

theorem Part.idleSlot.selection (h : p.idleSlot x k) : p.selection.idleSlot x k :=
  Part.selection_induct (P := fun q => q.idleSlot x k) (fun _ _ hq hw => hq.selectOne hw) h

theorem Part.idleSlot.settle (h : p.idleSlot x k) : p.settle.idleSlot x k :=
  Part.settle_induct (P := fun q => q.idleSlot x k)
    (fun q c hq _ => ⟨(Part.runColumn_slot q c x).trans hq.1, hq.2.of_requests (Part.requests_congr (by simp))⟩)
    (fun _ _ hq hw => hq.selectOne hw)
    (fun q c hq => ⟨(Part.startReader_slot q c x).trans hq.1, hq.2.of_requests (Part.requests_congr (by simp))⟩)
    (fun _ hq => hq) h

theorem Part.idleSlot.endRelease (h : p.idleSlot x k) {r : Release} (hr : r ∈ p.sched.queue) (o : ReleaseOutcome) :
    (p.endRelease r o).idleSlot x k := by
  rw [Part.endRelease_eq]
  refine Part.idleSlot.selection ⟨?_, ?_⟩
  · rw [Part.slot_congr (Part.leave_columns ..), Part.leaveSlot_slot_of_ne _ _ (h.2.queue r hr)]
    exact h.1
  · intro q hq
    rw [Part.leave_requests] at hq
    exact h.2 q (List.mem_filter.mp hq).1

theorem Part.idleSlot.endAll (h : p.idleSlot x k) (l : List Release) (o : ReleaseOutcome) : (p.endAll l o).idleSlot x k :=
  Part.endAll_induct (P := fun q => q.idleSlot x k) (fun _ _ hq hr _ => hq.endRelease hr o) h

end idle

/-- A settling leaves a slot alone that no live request is for. -/
theorem Part.settle_slot {p : Part} {x : SlotId} (h : p.noneOn x) : p.settle.slot x = p.slot x :=
  (Part.idleSlot.settle ⟨rfl, h⟩).1

theorem Part.selection_slot {p : Part} {x : SlotId} (h : p.noneOn x) : p.selection.slot x = p.slot x :=
  (Part.idleSlot.selection ⟨rfl, h⟩).1

/-! ## What a settling leaves of every slot -/

/-- A slot without the release kind of its record and without the state of its latch is as before. -/
def Part.sameBases (p q : Part) : Prop := ∀ x, (q.slot x).base = (p.slot x).base

theorem Part.sameBases_of_bases {p q : Part} (h : q.bases = p.bases) : p.sameBases q := Part.base_of_bases h

theorem Part.settle_sameBases (p : Part) : p.sameBases p.settle := by
  refine Part.settle_induct (P := fun q => p.sameBases q) ?_ ?_ ?_ ?_ fun _ => rfl
  · exact fun q c h _ x => by rw [Part.runColumn_slot, h x]
  · exact fun q r h _ x => (Part.base_of_bases (Part.selectOne_bases q r) x).trans (h x)
  · exact fun q c h x => by rw [Part.startReader_slot, h x]
  · exact fun q h x => h x

section base

variable {p q : Part} {x : SlotId} (h : (q.slot x).base = (p.slot x).base)
include h

theorem Part.record_of_base : { q.record x with custody := .empty } = { p.record x with custody := .empty } := by
  have := congrArg Slot.record h
  simp only [Slot.base, SlotRecord.mk.injEq] at this
  simp [Part.record, this]

theorem Part.returned_of_base : (q.custody x).returned = (p.custody x).returned :=
  congrArg (fun y : Slot => y.record.custody) h

theorem Part.engine_of_base : { q.engine x with latch := none } = { p.engine x with latch := none } := by
  have := congrArg Slot.engine h
  simp only [Slot.base, SlotEngine.mk.injEq] at this
  simp [Part.engine, this]

theorem Part.latch_none_of_base (hn : (p.engine x).latch = none) : (q.engine x).latch = none := by
  have := congrArg (fun y : Slot => y.engine.latch) h
  have hp : (p.slot x).engine.latch = none := hn
  simpa [Slot.base, hp, Part.engine] using this

/-- A record that is neither HELD nor RELEASING stays whole. -/
theorem Part.record_of_base_whole (hh : ∀ t u m f, p.custody x ≠ .held t u m f)
    (hr : ∀ t u m k f, p.custody x ≠ .releasing t u m k f) : q.record x = p.record x := by
  have hc : (q.record x).custody = (p.record x).custody := Custody.eq_of_returned (Part.returned_of_base h) hh hr
  have := Part.record_of_base h
  simp only [SlotRecord.mk.injEq, true_and] at this
  obtain ⟨h1, h2, h3⟩ := this
  cases hq : q.record x
  cases hp : p.record x
  simp_all

end base

/-! ## What a selection leaves: no request that may start (R60) -/

/-- How many requests wait. -/
def Part.waiting (p : Part) : Nat := p.sched.queue.countP Release.isWaiting

theorem Part.waiting_le (p : Part) : p.waiting ≤ p.sched.queue.length := List.countP_le_length

/-- A request in the queue that waits and gets another phase is one less that waits. -/
theorem Part.updRelease_waiting_lt {p : Part} {r : Release} (hr : r ∈ p.sched.queue) (hw : r.isWaiting = true)
    {f : Release → Release} (hf : ∀ r, (f r).isWaiting = false) : (p.updRelease r.number f).waiting < p.waiting := by
  have hle : ∀ q : Release, (if q.number = r.number then f q else q).isWaiting = true → q.isWaiting = true := by
    intro q hq
    split at hq <;> simp_all
  have hsub : (p.updRelease r.number f).waiting =
      (p.sched.queue.filter Release.isWaiting).countP
        (fun q => (if q.number = r.number then f q else q).isWaiting) := by
    simp only [Part.waiting, Part.updRelease_queue, List.countP_map, List.countP_filter]
    refine List.countP_congr fun q _ => ?_
    simpa using hle q
  rw [hsub, Part.waiting, List.countP_eq_length_filter (p := Release.isWaiting), List.countP_lt_length_iff]
  exact ⟨r, List.mem_filter.mpr ⟨hr, hw⟩, by simp [hf]⟩

theorem Part.waiting_congr {p q : Part} (h : q.sched.queue = p.sched.queue) : q.waiting = p.waiting := by
  rw [Part.waiting, Part.waiting, h]

theorem Part.updRelease_waiting_le (p : Part) (n : Nat) {f : Release → Release} (hf : ∀ r, (f r).isWaiting = false) :
    (p.updRelease n f).waiting ≤ p.waiting := by
  simp only [Part.waiting, Part.updRelease_queue, List.countP_map]
  refine List.countP_mono_left fun r _ hr => ?_
  simp only [Function.comp_apply] at hr
  split at hr <;> simp_all

theorem Part.openRelease_waiting_le (p : Part) (r : Release) : (p.openRelease r).waiting ≤ p.waiting := by
  unfold Part.openRelease
  refine (Part.updRelease_waiting_le _ _ ?_).trans (Nat.le_of_eq (Part.waiting_congr rfl))
  exact fun _ => rfl

theorem Part.selectOne_waiting_lt {p : Part} {r : Release} (hr : r ∈ p.sched.queue) (hw : r.isWaiting = true) :
    (p.selectOne r).waiting < p.waiting := by
  have hc : (p.charged r).waiting < p.waiting := Part.updRelease_waiting_lt hr hw fun _ => rfl
  cases hk : r.target.vehicleKind with
  | some kind =>
    rw [Part.selectOne_vehicle p hk]
    exact hc
  | none =>
    rw [Part.selectOne_staffSlot p hk]
    exact (Part.openRelease_waiting_le ..).trans_lt hc

theorem selectAll_winner (n : Nat) {p : Part} (h : p.waiting ≤ n) : (selectAll n p).winner = none := by
  induction n generalizing p with
  | zero =>
    cases hw : p.winner with
    | none => exact hw
    | some r =>
      obtain ⟨hr, he⟩ := Part.winner_mem hw
      have : r.isWaiting = true := by simp_all [Part.eligible]
      have := List.countP_pos_iff.mpr ⟨r, hr, this⟩
      exact absurd h (Nat.not_le_of_gt this)
  | succ n ih =>
    unfold selectAll
    split
    next hw => exact hw
    next r hw =>
      obtain ⟨hr, he⟩ := Part.winner_mem hw
      have hwait : r.isWaiting = true := by simp_all [Part.eligible]
      exact ih (by have := Part.selectOne_waiting_lt hr hwait; omega)

/-- After a selection of a part that is ready, no request may start (R60). -/
theorem Part.selection_noneMayStart {p : Part} (h : p.isReady = true) : p.selection.noneMayStart := by
  rw [← Part.winner_eq_none_iff, Part.selection, if_pos h]
  exact selectAll_winner _ p.waiting_le

/-- Whether a request may start is a question of the queue, the engines' states, the latches, the mode, the fleet and the
service hold alone. -/
theorem Part.noneMayStart_congr {p q : Part} (hs : q.sched = p.sched) (hu : q.uptime = p.uptime)
    (hy : q.supply = p.supply) (hl : q.late = p.late) (hf : q.fleet = p.fleet)
    (hh : q.lines.holdUntil = p.lines.holdUntil) (he : ∀ c, (q.column c).engine = (p.column c).engine)
    (hx : ∀ x, q.slot x = p.slot x) (h : p.noneMayStart) : q.noneMayStart := by
  intro r hr hm
  refine h r (hs ▸ hr) ?_
  simpa only [Part.mayStart, Part.selectionRank, Part.findUnit, Part.engine, hs, hu, hy, hl, hf, hh, he, hx] using hm

@[simp] theorem Part.startReader_bases (p : Part) (c : ColId) : (p.startReader c).bases = p.bases := by
  unfold Part.startReader
  dsimp only
  split
  · split
    · rfl
    · exact Part.bases_updColumn p rfl
  · rfl

@[simp] theorem Part.startReaders_bases (p : Part) : p.startReaders.bases = p.bases :=
  foldl_keeps Part.bases _ Part.startReader_bases allCols p

theorem Part.enterRunning_noneMayStart {p : Part} (c : ColId) (hr : p.isReady = true) (h : p.noneMayStart) :
    (p.enterRunning c).isReady = true ∧ (p.enterRunning c).noneMayStart := by
  refine ⟨by simpa [Part.isReady] using hr, ?_⟩
  by_cases hc : p.mayRun c
  · rw [Part.enterRunning_of_mayRun hc]
    exact Part.selection_noneMayStart (by simpa [Part.isReady] using hr)
  · rwa [Part.enterRunning_of_not hc]

theorem Part.decideDrives_column (p : Part) (c : ColId) : p.decideDrives.column c = p.column c := rfl

theorem Part.startReaders_noneMayStart {p : Part} (h : p.noneMayStart) : p.startReaders.decideDrives.noneMayStart := by
  refine Part.noneMayStart_congr ?_ ?_ ?_ ?_ ?_ ?_ ?_ ?_ h
  case refine_7 =>
    intro c
    rw [Part.decideDrives_column]
    exact Part.engineState_of_bases p.startReaders_bases c
  case refine_8 => exact fun x => (Part.decideDrives_slot ..).trans (Part.startReaders_slot ..)
  all_goals simp

/-- A settling leaves no request that may start where there was none. -/
theorem Part.settle_noneMayStart {p : Part} (hr : p.isReady = true) (h : p.noneMayStart) : p.settle.noneMayStart := by
  have hrun := foldl_induct (P := fun q : Part => q.isReady = true ∧ q.noneMayStart) allCols
    (fun q c hq => Part.enterRunning_noneMayStart c hq.1 hq.2) ⟨hr, h⟩
  unfold Part.settle
  split
  · exact h
  · exact Part.startReaders_noneMayStart hrun.2

/-! ## What endings leave of the tables -/

/-- The vehicles with their statuses. -/
def Part.statuses (p : Part) : List (Nat × VehicleStatus) := p.fleet.map fun v => (v.unit, v.status)

theorem Part.statuses_congr {p q : Part} (h : q.fleet = p.fleet) : q.statuses = p.statuses := by
  rw [Part.statuses, Part.statuses, h]

@[simp] theorem Part.settle_statuses (p : Part) : p.settle.statuses = p.statuses := Part.statuses_congr (by simp)

theorem Part.map_status_of_statuses {p q : Part} (h : q.statuses = p.statuses) :
    q.fleet.map (·.status) = p.fleet.map (·.status) := by
  simpa [Part.statuses, Function.comp_def] using congrArg (List.map Prod.snd) h

/-- A status that every vehicle of a unit number has. -/
theorem Part.status_of_statuses {p q : Part} (h : q.statuses = p.statuses) {u : Nat} {st : VehicleStatus}
    (hp : ∀ v ∈ p.fleet, v.unit = u → v.status = st) : ∀ w ∈ q.fleet, w.unit = u → w.status = st := by
  intro w hw hu
  have : (w.unit, w.status) ∈ p.statuses := h ▸ List.mem_map.mpr ⟨w, hw, rfl⟩
  obtain ⟨v, hv, he⟩ := List.mem_map.mp this
  simp only [Prod.mk.injEq] at he
  rw [← he.2]
  exact hp v hv (he.1.trans hu)

theorem Part.updVehicle_statuses (p : Part) (u : Nat) {f : Vehicle → Vehicle}
    (h : ∀ v, (f v).unit = v.unit ∧ (f v).status = v.status) : (p.updVehicle u f).statuses = p.statuses := by
  simp only [Part.statuses, Part.updVehicle_fleet, List.map_map]
  refine List.map_congr_left fun v _ => ?_
  simp only [Function.comp_apply]
  split <;> simp [h]

@[simp] theorem Part.deleteContract_tables (p : Part) (n : Nat) :
    (p.deleteContract n).statuses = p.statuses ∧ (p.deleteContract n).book.ring = p.book.ring ∧
    (p.deleteContract n).book.closingSeq = p.book.closingSeq := by
  unfold Part.deleteContract
  split
  · exact ⟨rfl, rfl, rfl⟩
  · split
    · exact ⟨rfl, rfl, rfl⟩
    · refine ⟨(Part.updVehicle_statuses _ _ ?_).trans (Part.statuses_congr rfl), rfl, rfl⟩
      exact fun _ => ⟨rfl, rfl⟩

@[simp] theorem Part.leaveLinks_tables (p : Part) (r : Release) (o : ReleaseOutcome) :
    (p.leaveLinks r o).statuses = p.statuses ∧ (p.leaveLinks r o).book.ring = p.book.ring ∧
    (p.leaveLinks r o).book.closingSeq = p.book.closingSeq := by
  have hq : (match r.target.unit with
      | some u => p.updVehicle u fun v => { v with request := none }
      | none => p).statuses = p.statuses ∧ (match r.target.unit with
      | some u => p.updVehicle u fun v => { v with request := none }
      | none => p).book = p.book := by
    split
    · refine ⟨Part.updVehicle_statuses _ _ ?_, rfl⟩
      exact fun _ => ⟨rfl, rfl⟩
    · exact ⟨rfl, rfl⟩
  unfold Part.leaveLinks
  dsimp only
  split
  · split
    · exact ⟨hq.1, congrArg ContractTable.ring hq.2, congrArg ContractTable.closingSeq hq.2⟩
    · simp only [Part.deleteContract_tables]
      exact ⟨hq.1, congrArg ContractTable.ring hq.2, congrArg ContractTable.closingSeq hq.2⟩
  · exact ⟨hq.1, congrArg ContractTable.ring hq.2, congrArg ContractTable.closingSeq hq.2⟩

/-- An ending changes no vehicle's status and closes no contract. -/
@[simp] theorem Part.endRelease_tables (p : Part) (r : Release) (o : ReleaseOutcome) :
    (p.endRelease r o).statuses = p.statuses ∧ (p.endRelease r o).book.ring = p.book.ring ∧
    (p.endRelease r o).book.closingSeq = p.book.closingSeq := by
  have hf : (p.endRelease r o).fleet = (((p.leaveQueue r o).leaveSlot r o).leaveLinks r o).fleet ∧
      (p.endRelease r o).book = (((p.leaveQueue r o).leaveSlot r o).leaveLinks r o).book := by
    simp [Part.endRelease]
  obtain ⟨h1, h2, h3⟩ := Part.leaveLinks_tables ((p.leaveQueue r o).leaveSlot r o) r o
  obtain ⟨f1, f2, f3, f4, f5⟩ := (p.leaveQueue r o).leaveSlot_frame r o
  exact ⟨(Part.statuses_congr hf.1).trans (h1.trans (Part.statuses_congr f2)),
    by rw [hf.2, h2, f4]; rfl, by rw [hf.2, h3, f4]; rfl⟩

@[simp] theorem Part.endAll_tables (p : Part) (l : List Release) (o : ReleaseOutcome) :
    (p.endAll l o).statuses = p.statuses ∧ (p.endAll l o).book.ring = p.book.ring ∧
    (p.endAll l o).book.closingSeq = p.book.closingSeq :=
  Part.endAll_induct (P := fun q => q.statuses = p.statuses ∧ q.book.ring = p.book.ring ∧
    q.book.closingSeq = p.book.closingSeq) (fun q r h _ _ => by simpa using h) ⟨rfl, rfl, rfl⟩

end Sys2Proof.Machine
end

section
/-! PROOFS. Presence contacts and latch sense (R4, R12 to R14, R60, R71). -/

namespace Sys2Proof.Machine

theorem Part.slot_updEngine_of_ne (p : Part) {x y : SlotId} (f : SlotEngine → SlotEngine) (h : x ≠ y) :
    (p.updEngine x f).slot y = p.slot y := Part.slot_updSlot_of_ne p _ h

@[simp] theorem Part.record_updEngine (p : Part) (x y : SlotId) (f : SlotEngine → SlotEngine) :
    (p.updEngine x f).record y = p.record y := by
  rcases eq_or_ne x y with rfl | h
  · simp [Part.record, Part.updEngine, Part.slot_updSlot_self]
  · exact Part.record_of_slot (Part.slot_updEngine_of_ne p f h)

@[simp] theorem Part.custody_updEngine (p : Part) (x y : SlotId) (f : SlotEngine → SlotEngine) :
    (p.updEngine x f).custody y = p.custody y := by
  simp [Part.custody]

@[simp] theorem Part.engine_updLatch_self (p : Part) (x : SlotId) (f : Latch → Latch) :
    (p.updLatch x f).engine x = { p.engine x with latch := (p.engine x).latch.map f } :=
  Part.engine_updEngine_self ..

/-- The part after a contact is seen, before what the drop of a removal candidate ends. -/
def Part.watched (p : Part) (x : SlotId) (b : Bool) : Part :=
  (p.updEngine x fun e => { e with contact := b }).updEngine x fun e => e.seen p.uptime b

@[simp] theorem Part.watched_frame (p : Part) (x : SlotId) (b : Bool) :
    (p.watched x b).uptime = p.uptime ∧ (p.watched x b).fleet = p.fleet ∧ (p.watched x b).sched = p.sched ∧
    (p.watched x b).book = p.book ∧ (p.watched x b).chute = p.chute ∧ (p.watched x b).late = p.late ∧
    (p.watched x b).alarm = p.alarm ∧ (p.watched x b).supply = p.supply ∧ (p.watched x b).lines = p.lines ∧
    (p.watched x b).passedOn x = p.passedOn x := by
  simp [Part.watched, Part.passedOn, Part.openOn]

theorem Part.watched_engine (p : Part) (x : SlotId) (b : Bool) :
    (p.watched x b).engine x = { p.engine x with
      contact := b
      candidate := match (p.engine x).qualified with
        | none => (p.engine x).candidate
        | some q => if b = q then none else some ((p.engine x).candidate.getD p.uptime) } := by
  cases hq : (p.engine x).qualified <;> simp [Part.watched, SlotEngine.seen, hq]

theorem Part.watched_slot_of_ne (p : Part) {x y : SlotId} (b : Bool) (h : y ≠ x) : (p.watched x b).slot y = p.slot y :=
  (Part.slot_updEngine_of_ne _ _ h.symm).trans (Part.slot_updEngine_of_ne _ _ h.symm)

/-- What a contact seen at a level makes of a part that is not halted. -/
theorem Part.contactSeen_eq {p : Part} (hh : p.halted = false) (x : SlotId) (b : Bool) :
    p.contactSeen x b =
      if (p.engine x).removing && !((p.watched x b).engine x).removing then
        match p.passedOn x with
        | some r => ((p.watched x b).endRelease r .notTaken).settle
        | none => p.watched x b
      else p.watched x b := by
  have hh' : (p.updEngine x fun e => { e with contact := b }).halted = false := hh
  simp only [Part.contactSeen, hh', Bool.false_eq_true, if_false] <;> rfl

/-- The latch and the sense of a slot after a sense report, before what a latch that reaches CLOSED frees. -/
def Part.felt (p : Part) (x : SlotId) (b : Bool) : Part :=
  (p.updEngine x fun e => { e with senseOpen := b }).updLatch x (Latch.sensed p.uptime b)

@[simp] theorem Part.felt_frame (p : Part) (x : SlotId) (b : Bool) :
    (p.felt x b).uptime = p.uptime ∧ (p.felt x b).fleet = p.fleet ∧ (p.felt x b).sched = p.sched ∧
    (p.felt x b).book = p.book ∧ (p.felt x b).chute = p.chute ∧ (p.felt x b).late = p.late ∧
    (p.felt x b).alarm = p.alarm ∧ (p.felt x b).supply = p.supply ∧ (p.felt x b).lines = p.lines ∧
    (p.felt x b).record x = p.record x := by
  simp [Part.felt, Part.updLatch]

theorem Part.felt_engine (p : Part) (x : SlotId) (b : Bool) :
    (p.felt x b).engine x =
      { p.engine x with senseOpen := b, latch := (p.engine x).latch.map (Latch.sensed p.uptime b) } := by
  simp [Part.felt]

theorem Part.felt_slot_of_ne (p : Part) {x y : SlotId} (b : Bool) (h : y ≠ x) : (p.felt x b).slot y = p.slot y :=
  (Part.updLatch_slot_of_ne _ _ h.symm).trans (Part.slot_updEngine_of_ne _ _ h.symm)

/-- A sense report frees a column only where its latch was in CLOSING and closed sense is reported. -/
theorem Part.senseSeen_eq {p : Part} (hh : p.halted = false) (x : SlotId) (b : Bool) :
    p.senseSeen x b =
      if (p.engine x).latch.any Latch.isClosing && !b then (p.felt x b).selection.settle else p.felt x b := by
  have hh' : (p.updEngine x fun e => { e with senseOpen := b }).halted = false := hh
  simp only [Part.senseSeen, hh', Bool.false_eq_true, if_false, Part.engine_updEngine_self] <;> rfl

/-- Settles O37: the drop of a removal candidate is the one branch of `contactSeen` that settles, the latch that reaches
CLOSED the one of `senseSeen`; what both leave is read off the frames of the settling. -/
theorem contactsAndSense : Obligations.ContactsAndSense := by
  unfold Obligations.ContactsAndSense
  refine ⟨?_, ?_, ?_, ?_⟩
  · intro x b s hh hn
    have hs : s.part.contactSeen x b = s.part.watched x b := by
      rw [Part.contactSeen_eq hh, hn]
      split <;> rfl
    refine ⟨{ s with part := s.part.contactSeen x b }, by dsimp only [exec]; rfl, rfl, ?_⟩
    rw [hs]
    exact ⟨Part.watched_engine .., by simp [Part.watched], fun y hy => Part.watched_slot_of_ne _ _ hy,
      by simp [Part.sameTables], by simp, by simp [Part.sameSupply], by simp, by simp⟩
  · intro x r s hh hp hq hc
    have hcand : ((s.part.watched x true).engine x).candidate = none := by simp [Part.watched_engine, hq]
    have hs : s.part.contactSeen x true = ((s.part.watched x true).endRelease r .notTaken).settle := by
      rw [Part.contactSeen_eq hh, hp, if_pos]
      simp [SlotEngine.removing, hq, hcand, Option.isSome_iff_ne_none, hc]
    refine ⟨{ s with part := s.part.contactSeen x true }, by dsimp only [exec]; rfl, rfl, ?_⟩
    rw [hs]
    refine ⟨?_, ?_, ?_, ?_⟩
    · have h1 := Part.engine_of_base (Part.settle_sameBases ((s.part.watched x true).endRelease r .notTaken) x)
      have h2 := Part.engine_of_base (Part.base_of_bases (Part.endRelease_bases (s.part.watched x true) r .notTaken) x)
      exact (congrArg SlotEngine.candidate (h1.trans h2)).trans hcand
    · rw [Part.settle_liveNumbers, Part.endRelease_liveNumbers]
      simp [Part.liveNumbers]
    · rw [(Part.settle_requests _).2]
      exact Part.endRelease_ended ..
    · refine Part.map_status_of_statuses ?_
      rw [Part.settle_statuses, (Part.endRelease_tables ..).1]
      exact Part.statuses_congr (by simp)
  · intro x b l s hh hl hb
    have hs : s.part.senseSeen x b = s.part.felt x b := by
      rw [Part.senseSeen_eq hh, if_neg]
      cases l with
      | closing since => simp [hb since rfl]
      | _ => simp [hl, Latch.isClosing]
    refine ⟨{ s with part := s.part.senseSeen x b }, by dsimp only [exec]; rfl, rfl, ?_⟩
    rw [hs]
    refine ⟨?_, by simp, fun y hy => Part.felt_slot_of_ne _ _ hy,
      by simp [Part.sameTables], by simp, by simp [Part.sameSupply], by simp, by simp⟩
    rw [Part.felt_engine, hl]
    cases l with
    | closing since => simp [hb since rfl, Latch.sensed]
    | _ => rfl
  · intro x since s hh hl
    have hs : s.part.senseSeen x false = (s.part.felt x false).selection.settle := by
      rw [Part.senseSeen_eq hh, if_pos (by simp [hl, Latch.isClosing])]
    refine ⟨{ s with part := s.part.senseSeen x false }, by dsimp only [exec]; rfl, rfl, ?_⟩
    rw [hs]
    refine ⟨?_, ?_, ?_, ?_, by simp [Part.sameTables], by simp [Part.sameSupply]⟩
    · have h1 := Part.engine_of_base (Part.settle_sameBases (s.part.felt x false).selection x)
      have h2 := Part.engine_of_base (Part.base_of_bases (Part.selection_bases (s.part.felt x false)) x)
      have h3 : ((s.part.felt x false).engine x).senseOpen = false := by rw [Part.felt_engine]
      exact (congrArg SlotEngine.senseOpen (h1.trans h2)).trans h3
    · intro hn
      have h0 : s.part.noneOn x := (Part.noneOn_iff ..).mpr hn
      have h1 : (s.part.felt x false).noneOn x := h0.of_requests (Part.requests_congr (by simp))
      have h2 : (s.part.felt x false).selection.noneOn x := h1.of_requests (Part.selection_requests _).1
      rw [Part.engine_of_slot ((Part.settle_slot h2).trans (Part.selection_slot h1)), Part.felt_engine, hl]
      rfl
    · intro hr
      have hr' : (s.part.felt x false).isReady = true := by simpa [Part.isReady] using hr
      exact Part.settle_noneMayStart (by simpa [Part.isReady] using hr) (Part.selection_noneMayStart hr')
    · rw [Part.settle_liveNumbers, Part.selection_liveNumbers]
      simp [Part.liveNumbers]

end Sys2Proof.Machine
end

section
/-! PROOFS. Alarms that stand and alarms that are over, and what raises, ends of conditions and settlings leave of them
(R134 to R139). -/

namespace Sys2Proof.Machine

/-! ## Alarms that stand -/

/-- An alarm record is active. -/
def Alarm.isActive (a : Alarm) : Prop := a.state = .activeUnacked ∨ a.state = .activeAcked

theorem Part.alarmStands_congr {p q : Part} (h : q.alarm.list = p.alarm.list) (k : AlarmKind) (x : Subject) :
    q.alarmStands k x ↔ p.alarmStands k x := by
  rw [Part.alarmStands, Part.alarmStands, h]

theorem Part.notice_alarmStands (p : Part) (b : NoticeBody) (k : AlarmKind) (x : Subject) :
    (p.notice b).alarmStands k x ↔ p.alarmStands k x :=
  Part.alarmStands_congr (by simp) k x

theorem Part.announceRaise_alarmStands (p : Part) (n : Nat) (k' : AlarmKind) (x' : Subject) (k : AlarmKind) (x : Subject) :
    (p.announceRaise n k' x').alarmStands k x ↔ p.alarmStands k x :=
  Part.alarmStands_congr (by simp) k x

theorem Part.alarmsDistinct.eq_of_number {p : Part} (h : p.alarmsDistinct) {a b : Alarm} (ha : a ∈ p.alarm.list)
    (hb : b ∈ p.alarm.list) (e : a.number = b.number) : a = b :=
  List.inj_on_of_nodup_map h.1 ha hb e

theorem Part.findAlarm_some {p : Part} {k : AlarmKind} {x : Subject} {a : Alarm} (h : p.findAlarm k x = some a) :
    a ∈ p.alarm.list ∧ a.kind = k ∧ a.subject = x := by
  refine ⟨List.mem_of_find?_eq_some h, ?_⟩
  simpa using List.find?_some h

theorem Part.updAlarm_stands {p : Part} {k : AlarmKind} {x : Subject} {n : Nat} {f : Alarm → Alarm}
    (h : p.alarmStands k x) (hn : ∀ a ∈ p.alarm.list, a.isActive → a.kind = k → a.subject = x → a.number ≠ n) :
    (p.updAlarm n f).alarmStands k x := by
  obtain ⟨a, ha, hk, hx, hs⟩ := h
  refine ⟨a, ?_, hk, hx, hs⟩
  rw [Part.updAlarm_list]
  exact List.mem_map.mpr ⟨a, ha, if_neg (hn a ha hs hk hx)⟩

theorem Part.removeAlarm_stands {p : Part} {k : AlarmKind} {x : Subject} {n : Nat}
    (h : p.alarmStands k x) (hn : ∀ a ∈ p.alarm.list, a.isActive → a.kind = k → a.subject = x → a.number ≠ n) :
    (p.removeAlarm n).alarmStands k x := by
  obtain ⟨a, ha, hk, hx, hs⟩ := h
  refine ⟨a, ?_, hk, hx, hs⟩
  rw [Part.removeAlarm_list]
  exact List.mem_filter.mpr ⟨ha, by simpa using hn a ha hs hk hx⟩

theorem Part.makeAlarm_stands (p : Part) (k : AlarmKind) (x : Subject) : (p.makeAlarm k x).alarmStands k x := by
  rw [Part.alarmStands, Part.makeAlarm_list]
  exact ⟨_, List.mem_append_right _ (List.mem_singleton.mpr rfl), rfl, rfl, .inl rfl⟩

theorem Part.makeAlarm_stands_of_stands {p : Part} {k : AlarmKind} {x : Subject} (h : p.alarmStands k x) (k' : AlarmKind)
    (x' : Subject) : (p.makeAlarm k' x').alarmStands k x := by
  obtain ⟨a, ha, hs⟩ := h
  rw [Part.alarmStands, Part.makeAlarm_list]
  exact ⟨a, List.mem_append_left _ ha, hs⟩

/-- A raise with room for one more record leaves its alarm standing (R137). -/
theorem Part.raise_stands {p : Part} (k : AlarmKind) (x : Subject) (hl : p.alarm.list.length < 48) :
    (p.raise k x).alarmStands k x := by
  unfold Part.raise
  split
  next a ha =>
    obtain ⟨hm, hk, hx⟩ := Part.findAlarm_some ha
    split
    next hs => exact ⟨a, hm, hk, hx, .inl hs⟩
    next hs => exact ⟨a, hm, hk, hx, .inr hs⟩
    next =>
      rw [Part.announceRaise_alarmStands]
      refine ⟨{ a with state := .activeUnacked, raised := p.minute }, ?_, hk, hx, .inl rfl⟩
      rw [Part.updAlarm_list]
      exact List.mem_map.mpr ⟨a, hm, if_pos rfl⟩
  next =>
    rw [if_pos (show p.alarm.list.length < Config.alarmCapacity from hl)]
    exact Part.makeAlarm_stands ..

theorem Part.firstCleared_some {p : Part} {a : Alarm} (h : p.firstCleared = some a) :
    a ∈ p.alarm.list ∧ ¬ a.isActive := by
  refine ⟨List.mem_of_find?_eq_some h, ?_⟩
  have := List.find?_some h
  rintro (hs | hs) <;> simp [hs] at this

/-- A raise takes no alarm away that stands. -/
theorem Part.alarmStands.raise {p : Part} {k : AlarmKind} {x : Subject} (h : p.alarmStands k x) (hd : p.alarmsDistinct)
    (k' : AlarmKind) (x' : Subject) : (p.raise k' x').alarmStands k x := by
  unfold Part.raise
  split
  next a ha =>
    have hm := (Part.findAlarm_some ha).1
    split
    · exact h
    · exact h
    next m hs =>
      rw [Part.announceRaise_alarmStands]
      refine Part.updAlarm_stands h fun b hb hact _ _ e => ?_
      rw [hd.eq_of_number hb hm e] at hact
      rcases hact with hact | hact <;> simp [hs] at hact
  next =>
    split
    · exact Part.makeAlarm_stands_of_stands h ..
    · split
      next old ho =>
        obtain ⟨hm, hc⟩ := Part.firstCleared_some ho
        refine Part.makeAlarm_stands_of_stands (Part.removeAlarm_stands h fun b hb hact _ _ e => ?_) ..
        exact hc (hd.eq_of_number hb hm e ▸ hact)
      · exact h

/-- The end of another condition takes no alarm away that stands. -/
theorem Part.alarmStands.endCondition {p : Part} {k : AlarmKind} {x : Subject} (h : p.alarmStands k x)
    (hd : p.alarmsDistinct) {k' : AlarmKind} {x' : Subject} (hne : k' ≠ k ∨ x' ≠ x) :
    (p.endCondition k' x').alarmStands k x := by
  unfold Part.endCondition
  split
  next => exact h
  next a ha =>
    obtain ⟨hm, hk', hx'⟩ := Part.findAlarm_some ha
    have hn : ∀ b ∈ p.alarm.list, b.isActive → b.kind = k → b.subject = x → b.number ≠ a.number := by
      intro b hb _ hk hx e
      have hba := hd.eq_of_number hb hm e
      rw [hba] at hk hx
      rcases hne with hne | hne
      · exact hne (hk'.symm.trans hk)
      · exact hne (hx'.symm.trans hx)
    split
    · rw [Part.notice_alarmStands]
      exact Part.updAlarm_stands h hn
    · rw [Part.notice_alarmStands]
      exact Part.removeAlarm_stands h hn
    · exact h

/-- An alarm that stands over distinct records. -/
def Part.sounds (p : Part) (k : AlarmKind) (x : Subject) : Prop := p.alarmsDistinct ∧ p.alarmStands k x

section sounds

variable {p q : Part} {k : AlarmKind} {x : Subject}

theorem Part.sounds.of_alarm (h : p.sounds k x) (e : q.alarm.list = p.alarm.list) : q.sounds k x :=
  ⟨h.1.of_list e, (Part.alarmStands_congr e k x).mpr h.2⟩

theorem Part.sounds_raise (hd : p.alarmsDistinct) (hl : p.alarm.list.length < 48) : (p.raise k x).sounds k x :=
  ⟨hd.raise, Part.raise_stands k x hl⟩

theorem Part.sounds.raise (h : p.sounds k x) (k' : AlarmKind) (x' : Subject) : (p.raise k' x').sounds k x :=
  ⟨h.1.raise, h.2.raise h.1 k' x'⟩

theorem Part.sounds.endCondition (h : p.sounds k x) {k' : AlarmKind} {x' : Subject} (hne : k' ≠ k ∨ x' ≠ x) :
    (p.endCondition k' x').sounds k x :=
  ⟨h.1.endCondition, h.2.endCondition h.1 hne⟩

theorem Part.sounds.endForeignConditions (h : p.sounds k x) {y : SlotId} (hu : k ≠ .fobUnknown) (hd : k ≠ .fobDuplicate) :
    (p.endForeignConditions y).sounds k x :=
  (h.endCondition (.inl hu.symm)).endCondition (.inl hd.symm)

theorem Part.sounds.endAll (h : p.sounds k x) (l : List Release) (o : ReleaseOutcome) : (p.endAll l o).sounds k x :=
  h.of_alarm (by simp)

/-- A settling takes no alarm away that stands, but for COLUMN_LOST of a column that enters RUNNING (R19). -/
theorem Part.sounds.settle (h : p.sounds k x)
    (hc : ∀ c, k = .columnLost → x = .column c → (p.column c).engine ≠ .reconciling) : p.settle.sounds k x := by
  let P (q : Part) : Prop :=
    q.sounds k x ∧ ∀ c, k = .columnLost → x = .column c → (q.column c).engine ≠ .reconciling
  suffices hP : P p.settle from hP.1
  refine Part.settle_induct (P := P) ?_ ?_ ?_ ?_ ⟨h, hc⟩
  · rintro q c ⟨hq, hqc⟩ hm
    refine ⟨?_, ?_⟩
    · have hr : ((q.updColumn c fun col => { col with engine := .running }).followAudit c).sounds k x :=
        hq.of_alarm (by simp)
      refine hr.endCondition ?_
      by_contra hne
      push Not at hne
      exact hqc c hne.1.symm hne.2.symm hm.1
    · intro d hk hx
      have hd : c ≠ d := fun e => hqc d hk hx (e ▸ hm.1)
      have hcol : (q.runColumn c).column d = q.column d := by
        unfold Part.runColumn
        rw [Part.column_congr (Part.endCondition_frame ..).2.1]
        unfold Part.followAudit
        repeat' split
        all_goals simp [Part.column_updColumn_of_ne _ _ hd]
      rw [hcol]
      exact hqc d hk hx
  · rintro q r ⟨hq, hqc⟩ _
    refine ⟨hq.of_alarm (by simp), fun c hk hx => ?_⟩
    rw [Part.engineState_of_bases (Part.selectOne_bases q r)]
    exact hqc c hk hx
  · rintro q c ⟨hq, hqc⟩
    refine ⟨hq.of_alarm (by simp), fun d hk hx => ?_⟩
    rw [Part.engineState_of_bases (Part.startReader_bases q c)]
    exact hqc d hk hx
  · exact fun q hq => hq

end sounds

/-! ## Alarms that are over -/

theorem Part.alarmOver_congr {p q : Part} (h : q.alarm.list = p.alarm.list) (k : AlarmKind) (x : Subject) :
    q.alarmOver k x ↔ p.alarmOver k x := by
  rw [Part.alarmOver, Part.alarmOver, h]

theorem Part.notice_alarmOver (p : Part) (b : NoticeBody) (k : AlarmKind) (x : Subject) :
    (p.notice b).alarmOver k x ↔ p.alarmOver k x :=
  Part.alarmOver_congr (by simp) k x

theorem Part.announceRaise_alarmOver (p : Part) (n : Nat) (k' : AlarmKind) (x' : Subject) (k : AlarmKind) (x : Subject) :
    (p.announceRaise n k' x').alarmOver k x ↔ p.alarmOver k x :=
  Part.alarmOver_congr (by simp) k x

/-- After the end of its condition an alarm is over (R139). -/
theorem Part.endCondition_over {p : Part} (hd : p.alarmsDistinct) (k : AlarmKind) (x : Subject) :
    (p.endCondition k x).alarmOver k x := by
  have huniq : ∀ a ∈ p.alarm.list, ∀ b ∈ p.alarm.list, a.kind = k → a.subject = x → b.kind = k → b.subject = x → a = b :=
    fun a ha b hb h1 h2 h3 h4 => List.inj_on_of_nodup_map hd.2.1 ha hb (by simp [h1, h2, h3, h4])
  unfold Part.endCondition
  split
  next hn => exact fun a ha hk hx => absurd ⟨hk, hx⟩ ((Part.findAlarm_eq_none_iff ..).mp hn a ha)
  next a ha =>
    obtain ⟨hm, hk, hx⟩ := Part.findAlarm_some ha
    split
    · rw [Part.notice_alarmOver]
      intro b hb hbk hbx
      rw [Part.updAlarm_list] at hb
      obtain ⟨c, hc, rfl⟩ := List.mem_map.mp hb
      by_cases hcn : c.number = a.number
      · simp [hcn]
      · rw [if_neg hcn] at hbk hbx
        exact absurd (huniq c hc a hm hbk hbx hk hx ▸ rfl) hcn
    · rw [Part.notice_alarmOver]
      intro b hb hbk hbx
      rw [Part.removeAlarm_list] at hb
      obtain ⟨hb, hbn⟩ := List.mem_filter.mp hb
      rw [huniq b hb a hm hbk hbx hk hx] at hbn
      simp at hbn
    next m hs =>
      intro b hb hbk hbx
      rw [huniq b hb a hm hbk hbx hk hx, hs]
      simp

theorem Part.alarmOver.of_update {p q : Part} {k : AlarmKind} {x : Subject} (h : p.alarmOver k x)
    (hq : ∀ b ∈ q.alarm.list, b.kind = k → b.subject = x → b.isActive → b ∈ p.alarm.list) : q.alarmOver k x := by
  intro b hb hk hx
  by_contra hs
  have hact : b.isActive := by
    rw [Alarm.isActive]
    tauto
  have := h b (hq b hb hk hx hact) hk hx
  rcases hact with hact | hact <;> simp_all

/-- The end of a condition makes no alarm active. -/
theorem Part.alarmOver.endCondition {p : Part} {k : AlarmKind} {x : Subject} (h : p.alarmOver k x) (k' : AlarmKind)
    (x' : Subject) : (p.endCondition k' x').alarmOver k x := by
  unfold Part.endCondition
  split
  next => exact h
  next a ha =>
    split
    · rw [Part.notice_alarmOver]
      refine h.of_update fun b hb _ _ hact => ?_
      rw [Part.updAlarm_list] at hb
      obtain ⟨c, hc, rfl⟩ := List.mem_map.mp hb
      by_cases hn : c.number = a.number
      · simp [hn, Alarm.isActive] at hact
      · rwa [if_neg hn]
    · rw [Part.notice_alarmOver]
      exact h.of_update fun b hb _ _ _ => (List.mem_filter.mp hb).1
    · exact h

theorem Part.alarmOver.makeAlarm {p : Part} {k : AlarmKind} {x : Subject} (h : p.alarmOver k x) {k' : AlarmKind}
    {x' : Subject} (hne : k' ≠ k ∨ x' ≠ x) : (p.makeAlarm k' x').alarmOver k x := by
  refine h.of_update fun b hb hk hx _ => ?_
  rw [Part.makeAlarm_list] at hb
  rcases List.mem_append.mp hb with hb | hb
  · exact hb
  · rw [List.mem_singleton.mp hb] at hk hx
    exact absurd hk (by rcases hne with hne | hne <;> simp_all)

/-- A raise of another alarm makes none of this subject active. -/
theorem Part.alarmOver.raise {p : Part} {k : AlarmKind} {x : Subject} (h : p.alarmOver k x) (hd : p.alarmsDistinct)
    {k' : AlarmKind} {x' : Subject} (hne : k' ≠ k ∨ x' ≠ x) : (p.raise k' x').alarmOver k x := by
  unfold Part.raise
  split
  next a ha =>
    obtain ⟨hm, hk', hx'⟩ := Part.findAlarm_some ha
    split
    · exact h
    · exact h
    next =>
      rw [Part.announceRaise_alarmOver]
      refine h.of_update fun b hb hk hx _ => ?_
      rw [Part.updAlarm_list] at hb
      obtain ⟨c, hc, rfl⟩ := List.mem_map.mp hb
      by_cases hn : c.number = a.number
      · rw [if_pos hn] at hk hx
        rw [hd.eq_of_number hc hm hn] at hk hx
        exact absurd hk (by rcases hne with hne | hne <;> simp_all)
      · rwa [if_neg hn]
  next =>
    split
    · exact h.makeAlarm hne
    · split
      next old _ =>
        have hr : (p.removeAlarm old.number).alarmOver k x :=
          h.of_update fun b hb _ _ _ => (List.mem_filter.mp hb).1
        exact hr.makeAlarm hne
      · exact h

end Sys2Proof.Machine
end

section
/-! PROOFS. The four latch faults (R12 to R15). -/

namespace Sys2Proof.Machine

/-- An event that does not concern the part as it stands changes nothing. -/
theorem State.liveHandle_none {f : Part → Option Part} {s : State} (h : f s.part = none) : s.liveHandle f = .next s := by
  unfold State.liveHandle State.handle
  refine State.event_none ?_
  by_cases hh : s.part.halted = true <;> simp [hh, h]

/-- What a latch fault makes of a slot (R15). -/
def Slot.faulted (x : Slot) : Slot :=
  { record := { x.record with latchFault := true, outOfService := true }
    engine := { x.engine.unqualified with latch := none } }

theorem Slot.latch_none_of_base {a b : Slot} (h : a.base = b.base) (hb : b.engine.latch = none) :
    a.engine.latch = none := by
  have := congrArg (fun y : Slot => y.engine.latch) h
  simpa [Slot.base, hb] using this

/-- What a latch fault of a slot leaves, and what the selections and the settling after it keep of that. -/
structure Part.faulted (p q : Part) (x : SlotId) : Prop where
  uptime : q.uptime = p.uptime
  slot : (q.slot x).base = (p.slot x).faulted.base
  idle : p.noneOn x → q.idleSlot x (p.slot x).faulted
  alarm : q.sounds .latchFault (.slot x)
  gone : ∀ r ∈ p.sched.queue, r.slot = x → r.number ∉ q.liveNumbers
  statuses : q.statuses = p.statuses
  ring : q.book.ring = p.book.ring
  chute : q.chute = p.chute
  supply : q.supply = p.supply

theorem Part.alarmRoom.of_alarm {p q : Part} (h : p.alarmRoom) (e : q.alarm = p.alarm) : q.alarmRoom :=
  ⟨h.1.of_list (by rw [e]), by rw [e]; exact h.2⟩

theorem Part.latchFault_faulted {p : Part} (h : p.alarmRoom) (x : SlotId) : p.faulted (p.latchFault x) x := by
  let q := ((p.updSlot x Slot.faulted).cancelReads x).raise .latchFault (.slot x)
  have hq : p.latchFault x = q.endAll (q.liveOn x) .latchFault := rfl
  have hslot : q.slot x = (p.slot x).faulted := by
    rw [Part.slot_congr (Part.raise_frame ..).2.1, Part.cancelReads_slot, Part.slot_updSlot_self]
  have hsched : q.sched = p.sched := by simp [q]
  rw [hq]
  have hidle : p.noneOn x → q.idleSlot x (p.slot x).faulted :=
    fun hn => ⟨hslot, hn.of_requests (Part.requests_congr (by rw [hsched]))⟩
  constructor
  case uptime => simp [q]
  case slot => rw [Part.base_of_bases (Part.endAll_bases ..) x, hslot]
  case idle => exact fun hn => (hidle hn).endAll ..
  case alarm =>
    have hr : ((p.updSlot x Slot.faulted).cancelReads x).alarmRoom := h.of_alarm (by simp)
    exact (Part.sounds_raise hr.1 hr.2).endAll ..
  case gone =>
    intro r hr hx
    refine Part.mem_endAll_liveNumbers ?_
    rw [Part.liveOn, hsched]
    simpa [hx] using hr
  case statuses => rw [(Part.endAll_tables ..).1]; exact Part.statuses_congr (by simp [q])
  case ring => simp [q]
  case chute => simp [q]
  case supply => simp [q]

theorem Part.faulted.selection {p q : Part} {x : SlotId} (h : p.faulted q x) : p.faulted q.selection x where
  uptime := (Part.selection_frame q).1.trans h.uptime
  slot := (Part.base_of_bases (Part.selection_bases q) x).trans h.slot
  idle := fun hn => (h.idle hn).selection
  alarm := h.alarm.of_alarm (by simp)
  gone := by rw [Part.selection_liveNumbers]; exact h.gone
  statuses := (Part.statuses_congr (by simp)).trans h.statuses
  ring := by simpa using h.ring
  chute := by simpa using h.chute
  supply := by simpa using h.supply

theorem Part.faulted.settle {p q : Part} {x : SlotId} (h : p.faulted q x) : p.faulted q.settle x where
  uptime := (Part.settle_frame q).1.trans h.uptime
  slot := (Part.settle_sameBases q x).trans h.slot
  idle := fun hn => (h.idle hn).settle
  alarm := h.alarm.settle fun _ hk => by simp at hk
  gone := by rw [Part.settle_liveNumbers]; exact h.gone
  statuses := (Part.settle_statuses q).trans h.statuses
  ring := by simpa using h.ring
  chute := by simpa using h.chute
  supply := by simpa using h.supply

/-- What a latch fault leaves, in the words of its obligation, where it is timed: the time still missing passes first. -/
theorem Part.faulted.reading {p q : Part} {x : SlotId} {moment : Ms} (hh : p.halted = false)
    (h : (p.advanceTo moment).faulted q x) :
    q.uptime = p.timeAt moment ∧ (q.record x).latchFault = true ∧ (q.record x).outOfService = true ∧
    (q.engine x).latch = none ∧ (q.engine x).qualified = none ∧ (q.engine x).candidate = none ∧
    q.alarmStands .latchFault (.slot x) ∧ (∀ r ∈ p.sched.queue, r.slot = x → r.number ∉ q.liveNumbers) ∧
    (p.liveOn x = [] → q.custody x = p.custody x) ∧
    q.fleet.map (·.status) = p.fleet.map (·.status) ∧ q.book.ring = p.book.ring ∧
    q.chute = p.chute ∧ q.supply = p.supply := by
  have hslot : (p.advanceTo moment).slot x = p.slot x := Part.slot_congr (by simp) x
  refine ⟨h.uptime.trans (Part.advanceTo_uptime hh moment), ?_, ?_, Slot.latch_none_of_base h.slot rfl, ?_, ?_, h.alarm.2,
    ?_, ?_, ?_, by simpa using h.ring, by simpa using h.chute, by simpa using h.supply⟩
  · exact congrArg (fun y : Slot => y.record.latchFault) h.slot
  · exact congrArg (fun y : Slot => y.record.outOfService) h.slot
  · exact congrArg (fun y : Slot => y.engine.qualified) h.slot
  · exact congrArg (fun y : Slot => y.engine.candidate) h.slot
  · simpa using h.gone
  · intro hn
    have hi := h.idle (((Part.noneOn_iff ..).mpr hn).of_requests (Part.requests_congr (by simp)))
    have := congrArg (fun y : Slot => y.record.custody) hi.1
    rw [hslot] at this
    exact this
  · exact Part.map_status_of_statuses (h.statuses.trans (Part.statuses_congr (by simp)))

/-- Settles O41: every fault is `latchFault` after the time still missing, with a selection for CLOSING, and a settling;
`Part.faulted` is what all of them keep. -/
theorem latchFaults : Obligations.LatchFaults := by
  unfold Obligations.LatchFaults
  intro x since s hh hroom faulty
  have key : ∀ c moment, (∃ q, exec c s = .next { s with part := q.settle } ∧ (s.part.advanceTo moment).faulted q x) →
      faulty c moment := by
    rintro c moment ⟨q, he, hq⟩
    exact ⟨_, he, rfl, Part.faulted.reading hh hq.settle⟩
  have fault : ∀ moment, (s.part.advanceTo moment).faulted ((s.part.advanceTo moment).latchFault x) x :=
    fun moment => Part.latchFault_faulted (hroom.of_alarm (by simp)) x
  refine ⟨?_, ?_, ?_, ?_, ?_⟩
  · intro hl ho
    refine key _ _ ⟨_, ?_, fault _⟩
    dsimp only [exec, execStrikeConfirmTimeout]
    exact State.liveHandle_some hh (by simp only [hl, ho])
  · intro hl
    refine key _ _ ⟨_, ?_, fault _⟩
    dsimp only [exec, execHeldOpenClosedTimeout]
    exact State.liveHandle_some hh (by simp only [hl])
  · intro hl ho
    refine key _ _ ⟨_, ?_, (fault _).selection⟩
    dsimp only [exec, execClosingConfirmTimeout]
    exact State.liveHandle_some hh (by simp only [hl, ho])
  · intro hl
    refine key _ _ ⟨_, ?_, fault _⟩
    dsimp only [exec, execUncommandedOpen]
    exact State.liveHandle_some hh (by simp only [hl])
  · rintro hl c (rfl | rfl | rfl | rfl)
    · dsimp only [exec, execStrikeConfirmTimeout]
      exact State.liveHandle_none (by simp only [hl])
    · dsimp only [exec, execHeldOpenClosedTimeout]
      exact State.liveHandle_none (by simp only [hl])
    · dsimp only [exec, execClosingConfirmTimeout]
      exact State.liveHandle_none (by simp only [hl])
    · dsimp only [exec, execUncommandedOpen]
      exact State.liveHandle_none (by simp only [hl])

end Sys2Proof.Machine
end

section
/-! PROOFS. The columns under selections, endings and settlings: what holds of a column whatever is placed, put back or
dropped there holds after them; and the reads that are asked for, up to the reader that starts them (R25 to R28). -/

namespace Sys2Proof.Machine

/-! ## What the scheduler keeps of a column -/

theorem Part.updColumn_keeps {K : Column → Prop} {p : Part} {c : ColId} {f : Column → Column}
    (hf : K (p.column c) → K (f (p.column c))) {d : ColId} (h : K (p.column d)) : K ((p.updColumn c f).column d) := by
  rcases eq_or_ne c d with rfl | hd
  · rw [Part.column_updColumn_self]
    exact hf h
  · rwa [Part.column_updColumn_of_ne _ _ hd]

/-- A property of a column that no change of its slots and no move of its reads by the scheduler ends. -/
structure Column.Stable (K : Column → Prop) : Prop where
  slot : ∀ col i f, K col → K (col.updSlot i f)
  place : ∀ col i, K col → K (col.place i .verify)
  requeue : ∀ col i, K col → K (col.requeue i)

section keeps

variable {K : Column → Prop} (hK : Column.Stable K) {p : Part} {c : ColId}
include hK

theorem Part.updSlot_keeps {x : SlotId} {f : Slot → Slot} (h : K (p.column c)) : K ((p.updSlot x f).column c) :=
  Part.updColumn_keeps (hK.slot _ _ _) h

theorem Part.selectOne_keeps (r : Release) (h : K (p.column c)) : K ((p.selectOne r).column c) := by
  cases hk : r.target.vehicleKind with
  | some kind =>
    rw [Part.selectOne_vehicle p hk]
    exact Part.updColumn_keeps (hK.place _ _) (Part.updSlot_keeps hK h)
  | none =>
    rw [Part.selectOne_staffSlot p hk]
    have hq : K (((p.charged r).requeueRead r.slot).column c) := Part.updColumn_keeps (hK.requeue _ _) h
    exact Part.updSlot_keeps hK hq

theorem Part.selection_keeps (h : K (p.column c)) : K (p.selection.column c) :=
  Part.selection_induct (P := fun q => K (q.column c)) (fun _ r hq _ => Part.selectOne_keeps hK r hq) h

theorem Part.leaveSlot_keeps (hdrop : ∀ col i, K col → K (col.dropVerify i)) (r : Release) (o : ReleaseOutcome)
    (h : K (p.column c)) : K ((p.leaveSlot r o).column c) := by
  have hq : K ((match r.phase with
      | .waiting => p
      | .verifying _ => p.dropVerify r.slot
      | .opened _ _ _ _ => p.stopLatch r.slot).column c) := by
    split
    · exact h
    · exact Part.updColumn_keeps (hdrop _ _) h
    · exact Part.updSlot_keeps hK h
  unfold Part.leaveSlot
  dsimp only
  split
  · exact Part.updSlot_keeps hK hq
  · exact hq

theorem Part.endRelease_keeps (hdrop : ∀ col i, K col → K (col.dropVerify i)) (r : Release) (o : ReleaseOutcome)
    (h : K (p.column c)) : K ((p.endRelease r o).column c) := by
  rw [Part.endRelease_eq]
  refine Part.selection_keeps hK ?_
  rw [Part.column_congr (Part.leave_columns ..)]
  exact Part.leaveSlot_keeps hK hdrop r o h

theorem Part.endAll_keeps (hdrop : ∀ col i, K col → K (col.dropVerify i)) (l : List Release) (o : ReleaseOutcome)
    (h : K (p.column c)) : K ((p.endAll l o).column c) :=
  Part.endAll_induct (P := fun q => K (q.column c)) (fun _ r hq _ _ => Part.endRelease_keeps hK hdrop r o hq) h

end keeps

/-- A property of a column that its entry into RUNNING and a change of its audit do not end. -/
structure Column.StableRun (K : Column → Prop) : Prop where
  run : ∀ col, K col → col.engine = .reconciling → K { col with engine := .running }
  start : ∀ col n, K col → K { col with auditNext := n }
  stop : ∀ col i, K col →
    K { col with auditNext := none, readList := col.readList.filter fun r => r.purpose != .audit, auditPointer := i }

theorem Part.followAudit_keeps {K : Column → Prop} (hR : Column.StableRun K) {p : Part} {c d : ColId}
    (h : K (p.column d)) : K ((p.followAudit c).column d) := by
  unfold Part.followAudit
  split
  · exact Part.updColumn_keeps (hR.start _ _) h
  · exact h
  · exact h
  · exact Part.updColumn_keeps (hR.stop _ _) h

theorem Part.runColumn_keeps {K : Column → Prop} (hR : Column.StableRun K) {p : Part} {c d : ColId} (hm : p.mayRun c)
    (h : K (p.column d)) : K ((p.runColumn c).column d) := by
  unfold Part.runColumn
  rw [Part.column_congr (Part.endCondition_frame ..).2.1]
  exact Part.followAudit_keeps hR (Part.updColumn_keeps (fun hc => hR.run _ hc hm.1) h)

/-- What the columns' entries into RUNNING keep, before the readers start. -/
theorem Part.enterAll_keeps {K : Column → Prop} (hK : Column.Stable K) (hR : Column.StableRun K) {p : Part} {c : ColId}
    (h : K (p.column c)) : K ((allCols.foldl Part.enterRunning p).column c) :=
  foldl_induct (P := fun q : Part => K (q.column c)) _
    (fun _ d hq => Part.enterRunning_induct (P := fun q : Part => K (q.column c))
      (fun _ _ hq hm => Part.runColumn_keeps hR hm hq) (fun _ r hq _ => Part.selectOne_keeps hK r hq) d hq) h

/-! ## Reads that are asked for -/

/-- The reader of a column reads no fob at a position. -/
def Column.readsElsewhere (col : Column) (i : PosId) : Prop := ∀ rd, col.reader = some rd → rd.pos ≠ i

/-- No read of a position is asked for but to verify it, and none is in progress. -/
def Column.unasked (col : Column) (i : PosId) : Prop :=
  col.readsElsewhere i ∧ ∀ r ∈ col.readList, r.pos = i → r.purpose = .verify

/-- A read of a position is asked for with the highest precedence, and none is in progress. -/
def Column.asked (col : Column) (i : PosId) : Prop :=
  col.readsElsewhere i ∧ (∃ r ∈ col.readList, r.pos = i) ∧
  ∀ r ∈ col.readList, r.pos = i → r.purpose.precedence = 2

theorem Column.readsElsewhere.place {col : Column} {i : PosId} (h : col.readsElsewhere i) (j : PosId) (x : Purpose) :
    (col.place j x).readsElsewhere i := by
  unfold Column.place
  split
  · split
    next rd hrd =>
      split
      · intro rd' e
        simp only [Option.some.injEq] at e
        subst e
        exact h rd hrd
      · exact h
    next => exact h
  · exact h

theorem Column.readsElsewhere.requeue {col : Column} {i : PosId} (h : col.readsElsewhere i) (j : PosId) :
    (col.requeue j).readsElsewhere i := by
  unfold Column.requeue
  split
  · exact h
  · split
    · exact fun rd e => by simp at e
    · exact h

theorem Column.readsElsewhere.dropVerify {col : Column} {i : PosId} (h : col.readsElsewhere i) (j : PosId) :
    (col.dropVerify j).readsElsewhere i :=
  fun rd e => h rd (by simpa using (Option.filter_eq_some_iff.mp e).1)

theorem Column.readsElsewhere.cancel (col : Column) (i : PosId) : (col.cancel i).readsElsewhere i :=
  fun rd e => by simpa using (Option.filter_eq_some_iff.mp e).2

/-- The requests of a list after a request has been entered: those there were, or the one entered. -/
theorem mem_enterRequest {l : List ReadRequest} {j : PosId} {x : Purpose} {r : ReadRequest}
    (h : r ∈ enterRequest l j x) : r ∈ l ∨ r = ⟨j, x⟩ := by
  unfold enterRequest at h
  split at h
  · simpa using h
  · split at h
    · rcases List.mem_append.mp h with h | h
      · exact .inl (List.mem_filter.mp h).1
      · exact .inr (by simpa using h)
    · exact .inl h

/-- The requests after a placement: those there were, or the one placed. -/
theorem Column.mem_place {col : Column} {j : PosId} {x : Purpose} {r : ReadRequest} (h : r ∈ (col.place j x).readList) :
    r ∈ col.readList ∨ r = ⟨j, x⟩ := by
  unfold Column.place at h
  split at h
  · split at h
    · split at h
      · exact .inl h
      · exact mem_enterRequest h
    · exact mem_enterRequest h
  · exact .inl h

/-- The requests after a read has been put back: those there were, or the read. -/
theorem Column.mem_requeue {col : Column} {j : PosId} {r : ReadRequest} (h : r ∈ (col.requeue j).readList) :
    r ∈ col.readList ∨ ∃ rd, col.reader = some rd ∧ r.pos = rd.pos := by
  unfold Column.requeue at h
  split at h
  · exact .inl h
  next rd hrd =>
    split at h
    next hp =>
      rcases List.mem_append.mp h with h | h
      · exact .inl h
      · exact .inr ⟨rd, hrd, by rw [List.mem_singleton.mp h]; exact hp.symm⟩
    · exact .inl h

theorem Column.unasked_stable (i : PosId) : Column.Stable fun col => col.unasked i where
  slot := fun _ _ _ h => h
  place := fun col j ⟨hr, hl⟩ => ⟨hr.place j _, fun r hm hp => by
    rcases Column.mem_place hm with hm | rfl
    · exact hl r hm hp
    · rfl⟩
  requeue := fun col j ⟨hr, hl⟩ => ⟨hr.requeue j, fun r hm hp => by
    rcases Column.mem_requeue hm with hm | ⟨rd, hrd, e⟩
    · exact hl r hm hp
    · exact absurd (e.symm.trans hp) (hr rd hrd)⟩

theorem Column.unasked.dropVerify {col : Column} {i : PosId} (h : col.unasked i) (j : PosId) :
    (col.dropVerify j).unasked i :=
  ⟨h.1.dropVerify j, fun r hm hp => h.2 r (List.mem_filter.mp hm).1 hp⟩

theorem Column.cancel_unasked (col : Column) (i : PosId) : (col.cancel i).unasked i :=
  ⟨Column.readsElsewhere.cancel col i, fun r hm hp => by
    have := (List.mem_filter.mp hm).2
    simp [hp] at this⟩

/-- A request entered at another position leaves those of a position alone; one entered at a position where a request of
the highest precedence stands is served by it. -/
theorem enterRequest_asked {l : List ReadRequest} {i j : PosId} {x : Purpose}
    (hex : ∃ r ∈ l, r.pos = i) (hall : ∀ r ∈ l, r.pos = i → r.purpose.precedence = 2)
    (hx : j = i → x.precedence ≤ 2) :
    (∃ r ∈ enterRequest l j x, r.pos = i) ∧ ∀ r ∈ enterRequest l j x, r.pos = i → r.purpose.precedence = 2 := by
  obtain ⟨a, ha, hai⟩ := hex
  by_cases hj : j = i
  · have hl : enterRequest l j x = l := by
      unfold enterRequest
      split
      next hn => exact absurd (List.find?_eq_none.mp hn a ha) (by simp [hai, hj])
      next r hr =>
        have hrp : r.pos = j := by simpa using List.find?_some hr
        have := hall r (List.mem_of_find?_eq_some hr) (hrp.trans hj)
        rw [if_neg (by have := hx hj; omega)]
    rw [hl]
    exact ⟨⟨a, ha, hai⟩, hall⟩
  · refine ⟨⟨a, ?_, hai⟩, fun r hr hp => ?_⟩
    · unfold enterRequest
      split
      · exact List.mem_append_left _ ha
      · split
        · refine List.mem_append_left _ (List.mem_filter.mpr ⟨ha, ?_⟩)
          simp only [bne_iff_ne, ne_eq]
          exact fun e => hj (e.symm.trans hai)
        · exact ha
    · rcases mem_enterRequest hr with hm | rfl
      · exact hall r hm hp
      · exact absurd hp hj

theorem Purpose.precedence_le (x : Purpose) : x.precedence ≤ 2 := by cases x <;> decide

theorem Column.asked.place {col : Column} {i : PosId} (h : col.asked i) (j : PosId) (x : Purpose) :
    (col.place j x).asked i := by
  obtain ⟨hr, hex, hall⟩ := h
  have hent := enterRequest_asked (j := j) (x := x) hex hall fun _ => x.precedence_le
  have hpl := hr.place j x
  refine ⟨hpl, ?_⟩
  unfold Column.place
  split
  · split
    · split
      · exact ⟨hex, hall⟩
      · exact hent
    · exact hent
  · exact ⟨hex, hall⟩

theorem Column.asked_stable (i : PosId) : Column.Stable fun col => col.asked i where
  slot := fun _ _ _ h => h
  place := fun _ j h => h.place j .verify
  requeue := fun col j ⟨hr, ⟨a, ha, hai⟩, hall⟩ => by
    refine ⟨hr.requeue j, ⟨a, ?_, hai⟩, fun r hm hp => ?_⟩
    · unfold Column.requeue
      split
      · exact ha
      · split
        · exact List.mem_append_left _ ha
        · exact ha
    · rcases Column.mem_requeue hm with hm | ⟨rd, hrd, e⟩
      · exact hall r hm hp
      · exact absurd (e.symm.trans hp) (hr rd hrd)

theorem Column.asked_stableRun (i : PosId) : Column.StableRun fun col => col.asked i where
  run := fun _ h _ => h
  start := fun _ _ h => h
  stop := fun col j ⟨hr, ⟨a, ha, hai⟩, hall⟩ => by
    refine ⟨hr, ⟨a, List.mem_filter.mpr ⟨ha, ?_⟩, hai⟩, fun r hm => hall r (List.mem_filter.mp hm).1⟩
    have := hall a ha hai
    cases hp : a.purpose <;> simp_all [Purpose.precedence]

/-- A read placed with the highest precedence at a position where none but VERIFY is asked for is asked for. -/
theorem Column.place_asked {col : Column} {i : PosId} {x : Purpose} (hw : col.engine.watches = true) (h : col.unasked i)
    (hx : x.precedence = 2) : (col.place i x).asked i := by
  obtain ⟨hr, hl⟩ := h
  have hent : (∃ r ∈ enterRequest col.readList i x, r.pos = i) ∧
      ∀ r ∈ enterRequest col.readList i x, r.pos = i → r.purpose.precedence = 2 := by
    unfold enterRequest
    split
    next hn =>
      refine ⟨⟨⟨i, x⟩, by simp, rfl⟩, fun r hm hp => ?_⟩
      rcases List.mem_append.mp hm with hm | hm
      · exact absurd (List.find?_eq_none.mp hn r hm) (by simp [hp])
      · rw [List.mem_singleton.mp hm]; exact hx
    next r hf =>
      have hv := hl r (List.mem_of_find?_eq_some hf) (by simpa using List.find?_some hf)
      rw [if_pos (by rw [hv, hx]; decide)]
      refine ⟨⟨⟨i, x⟩, by simp, rfl⟩, fun q hm hp => ?_⟩
      rcases List.mem_append.mp hm with hm | hm
      · simpa [hp] using (List.mem_filter.mp hm).2
      · rw [List.mem_singleton.mp hm]; exact hx
  refine ⟨hr.place i x, ?_⟩
  unfold Column.place
  rw [if_pos hw]
  split
  next rd hrd =>
    rw [if_neg (hr rd hrd)]
    exact hent
  next => exact hent

/-- A read that stands goes on standing where the readers start what they can (R27). -/
theorem Part.startReader_readStands {p : Part} {d : ColId} {i : PosId} (h : (p.column d).readStands i) (c : ColId) :
    ((p.startReader c).column d).readStands i := by
  unfold Part.startReader
  dsimp only
  split
  next hc =>
    split
    · exact h
    next r _ =>
      refine Part.updColumn_keeps (K := fun col => col.readStands i) (fun hs => ?_) h
      have hn : (p.column c).reader = none := by simp_all
      by_cases hp : r.pos = i
      · exact .inr ⟨_, rfl, hp⟩
      · rcases hs with ⟨a, ha, hai⟩ | ⟨rd, hrd, _⟩
        · refine .inl ⟨a, List.mem_filter.mpr ⟨ha, ?_⟩, hai⟩
          simp only [bne_iff_ne, ne_eq]
          exact fun e => hp (e.symm.trans hai)
        · rw [hn] at hrd
          exact absurd hrd (by simp)
  · exact h

theorem Part.startReaders_readStands {p : Part} {d : ColId} {i : PosId} (h : (p.column d).readStands i) :
    (p.startReaders.column d).readStands i :=
  foldl_induct (P := fun q : Part => (q.column d).readStands i) _ (fun _ c hq => Part.startReader_readStands hq c) h

/-- A read asked for stands after the settling (R25, R27). -/
theorem Part.settle_readStands {p : Part} {c : ColId} {i : PosId} (h : (p.column c).asked i) :
    (p.settle.column c).readStands i := by
  unfold Part.settle
  split
  · exact .inl h.2.1
  · rw [Part.decideDrives_column]
    refine Part.startReaders_readStands (.inl ?_)
    exact (Part.enterAll_keeps (Column.asked_stable i) (Column.asked_stableRun i) h).2.1

end Sys2Proof.Machine
end

section
/-! PROOFS. Candidates that qualify (R5, R7 to R9): the forced removal, and the arrival at an EMPTY slot and at one whose
record is not EMPTY. -/

namespace Sys2Proof.Machine

/-! ## The qualification -/

/-- The part as a candidate first seen at `since` qualifies at the level opposite to `q`, before the custody manager acts. -/
def Part.qualifying (p : Part) (x : SlotId) (since : Ms) (q : Bool) : Part :=
  (p.advanceTo (since + p.supply.mode.qualifyTime)).updEngine x fun e =>
    { e with qualified := some (!q), candidate := none }

theorem Mode.qualifyTime_eq (m : Mode) : m.qualifyTime = if m = .mains then 150 else 1000 := by cases m <;> rfl

section qualifying

variable {p : Part} {x : SlotId} {since : Ms} {q : Bool}

@[simp] theorem Part.qualifying_frame :
    (p.qualifying x since q).fleet = p.fleet ∧ (p.qualifying x since q).book = p.book ∧
    (p.qualifying x since q).chute = p.chute ∧ (p.qualifying x since q).alarm = p.alarm ∧
    (p.qualifying x since q).supply = p.supply ∧ (p.qualifying x since q).lines = p.lines ∧
    (p.qualifying x since q).sched.queue = p.sched.queue := by
  simp [Part.qualifying]

theorem Part.qualifying_uptime (hh : p.halted = false) :
    (p.qualifying x since q).uptime = p.timeAt (since + if p.supply.mode = .mains then 150 else 1000) := by
  rw [← Mode.qualifyTime_eq]
  exact Part.advanceTo_uptime hh _

theorem Part.advanceTo_slot (p : Part) (t : Ms) (x : SlotId) : (p.advanceTo t).slot x = p.slot x :=
  Part.slot_congr (by simp) x

theorem Part.qualifying_slot :
    (p.qualifying x since q).slot x =
      { p.slot x with engine := { (p.slot x).engine with qualified := some (!q), candidate := none } } := by
  rw [Part.qualifying, Part.updEngine, Part.slot_updSlot_self, Part.advanceTo_slot]

theorem Part.qualifying_slot_of_ne {y : SlotId} (h : y ≠ x) : (p.qualifying x since q).slot y = p.slot y :=
  (Part.slot_updSlot_of_ne _ _ h.symm).trans (Part.advanceTo_slot ..)

theorem Part.qualifying_record : (p.qualifying x since q).record x = p.record x := by
  rw [Part.record, Part.qualifying_slot, Part.record]

theorem Part.qualifying_custody : (p.qualifying x since q).custody x = p.custody x := by
  rw [Part.custody, Part.qualifying_record, Part.custody]

@[simp] theorem Part.updSlot_engineState (x : SlotId) (f : Slot → Slot) (c : ColId) :
    ((p.updSlot x f).column c).engine = (p.column c).engine :=
  Part.updColumn_keeps (K := fun col => col.engine = (p.column c).engine) (fun e => e) rfl

theorem Part.qualifying_engineState (c : ColId) :
    ((p.qualifying x since q).column c).engine = (p.column c).engine := by
  rw [Part.qualifying, Part.updEngine, Part.updSlot_engineState, Part.column_congr (Part.advanceTo_frame ..).1]

theorem Part.qualifying_openOn : (p.qualifying x since q).openOn x = p.openOn x := by
  rw [Part.openOn, Part.qualifying_frame.2.2.2.2.2.2, Part.openOn]

/-- The command of a candidate that qualifies. -/
theorem exec_candidateQualified {s : State} (hh : s.part.halted = false)
    (hq : (s.part.engine x).qualified = some q) (hc : (s.part.engine x).candidate = some since) :
    exec (.candidateQualified x) s = .next { s with part := (if q then (s.part.qualifying x since q).removal x
      else (s.part.qualifying x since q).arrival x).settle } := by
  dsimp only [exec, execCandidateQualified]
  refine State.liveHandle_some hh ?_
  simp only [Part.qualify, hq, hc] <;> rfl

end qualifying

/-! ## The forced removal -/

theorem Slot.presence_of_base {a b : Slot} (h : a.base = b.base) :
    a.engine.qualified = b.engine.qualified ∧ a.engine.candidate = b.engine.candidate := by
  have he := congrArg (fun y : Slot => (y.engine.qualified, y.engine.candidate)) h
  exact Prod.mk.inj he

/-- The record of a slot EMPTY, and no read of it asked for or in progress. -/
def Part.cleared (p : Part) (x : SlotId) : Part := (p.setCustody x .empty).cancelReads x

@[simp] theorem Part.cleared_frame (p : Part) (x : SlotId) :
    (p.cleared x).uptime = p.uptime ∧ (p.cleared x).fleet = p.fleet ∧ (p.cleared x).sched = p.sched ∧
    (p.cleared x).book = p.book ∧ (p.cleared x).chute = p.chute ∧ (p.cleared x).late = p.late ∧
    (p.cleared x).alarm = p.alarm ∧ (p.cleared x).supply = p.supply ∧ (p.cleared x).lines = p.lines := by
  simp [Part.cleared]

theorem Part.cleared_slot (p : Part) (x : SlotId) :
    (p.cleared x).slot x = { p.slot x with record := { (p.slot x).record with custody := .empty } } := by
  rw [Part.cleared, Part.cancelReads_slot]
  exact Part.slot_updSlot_self ..

theorem Part.cleared_record (p : Part) (x : SlotId) :
    (p.cleared x).record x = { p.record x with custody := .empty } := by
  rw [Part.record, Part.cleared_slot, Part.record]

theorem Part.cleared_custody (p : Part) (x : SlotId) : (p.cleared x).custody x = .empty := by
  rw [Part.custody, Part.cleared_record]

theorem Part.cleared_unasked (p : Part) (x : SlotId) : ((p.cleared x).column x.col).unasked x.pos := by
  rw [Part.cleared, Part.cancelReads, Part.column_updColumn_self]
  exact Column.cancel_unasked ..

theorem Part.cleared_engineState (p : Part) (x : SlotId) (c : ColId) :
    ((p.cleared x).column c).engine = (p.column c).engine :=
  Part.updColumn_keeps (K := fun col => col.engine = (p.column c).engine) (fun e => e) (Part.updSlot_engineState ..)

/-- A record that binds a vehicle to its slot: HELD or RELEASING. -/
def Custody.binds (k : Custody) (u : Nat) : Prop :=
  ∃ tag m f, k = .held tag u m f ∨ ∃ j, k = .releasing tag u m j f

/-- A record of a fob that is bound to no vehicle: UNREAD or FOREIGN. -/
def Custody.unbound (k : Custody) : Prop := (∃ m, k = .unread m) ∨ ∃ tag reason m, k = .foreign tag reason m

theorem Custody.cases_of_ne_empty {k : Custody} (h : k ≠ .empty) : (∃ u, k.binds u) ∨ k.unbound := by
  cases k with
  | empty => exact absurd rfl h
  | unread m => exact .inr (.inl ⟨m, rfl⟩)
  | held t u m f => exact .inl ⟨u, t, m, f, .inl rfl⟩
  | foreign t r m => exact .inr (.inr ⟨t, r, m, rfl⟩)
  | releasing t u m j f => exact .inl ⟨u, t, m, f, .inr ⟨j, rfl⟩⟩

theorem Custody.binds.unique {k : Custody} {u w : Nat} (h : k.binds u) (h' : k.binds w) : u = w := by
  obtain ⟨t, m, f, rfl | ⟨j, rfl⟩⟩ := h <;> obtain ⟨t', m', f', e | ⟨j', e⟩⟩ := h' <;> simp_all

theorem Custody.binds.not_unbound {k : Custody} {u : Nat} (h : k.binds u) : ¬ k.unbound := by
  obtain ⟨t, m, f, rfl | ⟨j, rfl⟩⟩ := h <;> simp [Custody.unbound]

theorem Custody.binds.ne_empty {k : Custody} {u : Nat} (h : k.binds u) : k ≠ .empty := by
  obtain ⟨t, m, f, rfl | ⟨j, rfl⟩⟩ := h <;> simp

theorem Custody.unbound.ne_empty {k : Custody} (h : k.unbound) : k ≠ .empty := by
  obtain ⟨m, rfl⟩ | ⟨t, r, m, rfl⟩ := h <;> simp

/-- What a forced removal leaves of the tables, the alarms and the queue (R9); settlings and changes of the columns keep
it. -/
structure Part.forced (p q : Part) (x : SlotId) : Prop where
  uptime : q.uptime = p.uptime
  late : q.late = p.late
  ring : q.book.ring = p.book.ring
  chute : q.chute = p.chute
  supply : q.supply = p.supply
  bound : ∀ u, (p.custody x).binds u → (∀ w ∈ q.fleet, w.unit = u → w.status = .stray) ∧
    q.sounds .forcedRemoval (.vehicle u) ∧
    ∀ r ∈ p.sched.queue, r.target.unit = some u → r.number ∉ q.liveNumbers
  unbound : (p.custody x).unbound → q.sounds .forcedRemoval (.slot x) ∧ q.statuses = p.statuses ∧
    ∀ r ∈ p.sched.queue, r.target = .staffSlot → r.slot = x → r.number ∉ q.liveNumbers

theorem Part.forced.of_columns {p q q' : Part} {x : SlotId} (h : p.forced q x) (hu : q'.uptime = q.uptime)
    (hl : q'.late = q.late) (hf : q'.fleet = q.fleet) (hb : q'.book = q.book) (hc : q'.chute = q.chute)
    (hy : q'.supply = q.supply) (ha : q'.alarm = q.alarm) (hs : q'.sched = q.sched) : p.forced q' x where
  uptime := hu.trans h.uptime
  late := hl.trans h.late
  ring := by rw [hb, h.ring]
  chute := hc.trans h.chute
  supply := hy.trans h.supply
  bound := fun u hk => by
    obtain ⟨h1, h2, h3⟩ := h.bound u hk
    exact ⟨hf ▸ h1, h2.of_alarm (by rw [ha]), by rwa [Part.liveNumbers, hs]⟩
  unbound := fun hk => by
    obtain ⟨h1, h2, h3⟩ := h.unbound hk
    exact ⟨h1.of_alarm (by rw [ha]), (Part.statuses_congr hf).trans h2, by rwa [Part.liveNumbers, hs]⟩

theorem Part.forced.settle {p q : Part} {x : SlotId} (h : p.forced q x) : p.forced q.settle x where
  uptime := (Part.settle_frame q).1.trans h.uptime
  late := by simpa using h.late
  ring := by simpa using h.ring
  chute := by simpa using h.chute
  supply := by simpa using h.supply
  bound := fun u hk => by
    obtain ⟨h1, h2, h3⟩ := h.bound u hk
    refine ⟨by simpa using h1, h2.settle fun _ hk => by simp at hk, by simpa using h3⟩
  unbound := fun hk => by
    obtain ⟨h1, h2, h3⟩ := h.unbound hk
    exact ⟨h1.settle fun _ hk => by simp at hk, (Part.settle_statuses q).trans h2, by simpa using h3⟩

theorem Part.setStatus_status (p : Part) (u : Nat) (st : VehicleStatus) :
    ∀ w ∈ (p.setStatus u st).fleet, w.unit = u → w.status = st := by
  intro w hw hu
  simp only [Part.setStatus, Part.updVehicle_fleet, List.mem_map] at hw
  obtain ⟨v, _, rfl⟩ := hw
  split at hu <;> simp_all

@[simp] theorem Part.setStatus_frame (p : Part) (u : Nat) (st : VehicleStatus) :
    (p.setStatus u st).uptime = p.uptime ∧ (p.setStatus u st).columns = p.columns ∧
    (p.setStatus u st).sched = p.sched ∧ (p.setStatus u st).book = p.book ∧ (p.setStatus u st).chute = p.chute ∧
    (p.setStatus u st).late = p.late ∧ (p.setStatus u st).alarm = p.alarm ∧ (p.setStatus u st).supply = p.supply ∧
    (p.setStatus u st).lines = p.lines := by
  simp [Part.setStatus]

theorem Part.liveNumbers_congr {p q : Part} (h : q.sched = p.sched) : q.liveNumbers = p.liveNumbers := by
  rw [Part.liveNumbers, Part.liveNumbers, h]

/-- A bound vehicle that leaves its slot without a release (R9). -/
theorem Part.strayVehicle_effect {p : Part} (h : p.alarmRoom) (u : Nat) :
    (∀ w ∈ (p.strayVehicle u).fleet, w.unit = u → w.status = .stray) ∧
    (p.strayVehicle u).sounds .forcedRemoval (.vehicle u) ∧
    ∀ r ∈ p.sched.queue, r.target.unit = some u → r.number ∉ (p.strayVehicle u).liveNumbers := by
  let q := (p.setStatus u .stray).raise .forcedRemoval (.vehicle u)
  have hq : p.strayVehicle u = q.endAll (q.liveOf u) .vehicleGone := rfl
  rw [hq]
  refine ⟨Part.status_of_statuses (Part.endAll_tables ..).1 ?_, ?_, fun r hr hu => Part.mem_endAll_liveNumbers ?_⟩
  · rw [(Part.raise_frame ..).2.2.1]
    exact Part.setStatus_status p u .stray
  · have hr := h.of_alarm (q := p.setStatus u .stray) (by simp)
    exact (Part.sounds_raise hr.1 hr.2).endAll ..
  · have : q.sched = p.sched := by simp [q]
    rw [Part.liveOf, this]
    simpa [hu] using hr

/-- The end of the STAFF_SLOT requests of a slot. -/
theorem Part.endStaff_effect (p : Part) (x : SlotId) (o : ReleaseOutcome) :
    ∀ r ∈ p.sched.queue, r.target = .staffSlot → r.slot = x → r.number ∉ (p.endAll (p.staffLiveOn x) o).liveNumbers :=
  fun r hr ht hx => Part.mem_endAll_liveNumbers (by simpa [Part.staffLiveOn, ht, hx] using hr)

theorem Part.forcedRemoval_of_binds {p : Part} {x : SlotId} {u : Nat} (h : (p.custody x).binds u) :
    p.forcedRemoval x = ((p.cleared x).strayVehicle u).endCondition .fobUnread (.slot x) := by
  obtain ⟨t, m, f, e | ⟨j, e⟩⟩ := h <;> simp only [Part.forcedRemoval, e] <;> rfl

/-- What ends with the fob of a record bound to no vehicle: the conditions of a FOREIGN record, the UNREAD one. -/
def Part.unknownGone (p : Part) (x : SlotId) : Part :=
  (match p.custody x with
    | .foreign _ _ _ => ((p.cleared x).raise .forcedRemoval (.slot x)).endForeignConditions x
    | _ => (p.cleared x).raise .forcedRemoval (.slot x)).endCondition .fobUnread (.slot x)

theorem Part.forcedRemoval_of_unbound {p : Part} {x : SlotId} (h : (p.custody x).unbound) :
    p.forcedRemoval x = (p.unknownGone x).endAll ((p.unknownGone x).staffLiveOn x) .vehicleGone := by
  obtain ⟨m, e⟩ | ⟨t, r, m, e⟩ := h <;> simp only [Part.forcedRemoval, Part.unknownGone, e] <;> rfl

theorem Part.unknownGone_frame (p : Part) (x : SlotId) :
    (p.unknownGone x).columns = (p.cleared x).columns ∧ (p.unknownGone x).fleet = p.fleet ∧
    (p.unknownGone x).sched = p.sched ∧ (p.unknownGone x).book = p.book := by
  unfold Part.unknownGone
  split <;> simp

theorem Part.unknownGone_sounds {p : Part} (h : p.alarmRoom) (x : SlotId) :
    (p.unknownGone x).sounds .forcedRemoval (.slot x) := by
  have hr := h.of_alarm (q := p.cleared x) (by simp)
  have hs : ((p.cleared x).raise .forcedRemoval (.slot x)).sounds .forcedRemoval (.slot x) :=
    Part.sounds_raise hr.1 hr.2
  unfold Part.unknownGone
  split
  · exact (hs.endForeignConditions (by simp) (by simp)).endCondition (.inl (by simp))
  · exact hs.endCondition (.inl (by simp))

/-- A forced removal has the effects of R9. -/
theorem Part.forcedRemoval_forced {p : Part} (h : p.alarmRoom) {x : SlotId} (hk : p.custody x ≠ .empty) :
    p.forced (p.forcedRemoval x) x := by
  have hring : (p.forcedRemoval x).book.ring = p.book.ring := by
    rcases Custody.cases_of_ne_empty hk with ⟨u, hu⟩ | hn
    · simp [Part.forcedRemoval_of_binds hu, Part.strayVehicle]
    · simp [Part.forcedRemoval_of_unbound hn, (p.unknownGone_frame x).2.2.2]
  constructor
  case ring => exact hring
  case bound =>
    intro u hu
    have hc := h.of_alarm (q := p.cleared x) (by simp)
    obtain ⟨h1, h2, h3⟩ := Part.strayVehicle_effect hc u
    rw [Part.forcedRemoval_of_binds hu]
    refine ⟨by simpa using h1, h2.endCondition (.inl (by simp)), ?_⟩
    rw [Part.liveNumbers_congr (Part.endCondition_frame ..).2.2.2.1]
    simpa using h3
  case unbound =>
    intro hn
    obtain ⟨_, hf, hs, _⟩ := p.unknownGone_frame x
    rw [Part.forcedRemoval_of_unbound hn]
    refine ⟨(Part.unknownGone_sounds h x).endAll .., (Part.endAll_tables ..).1.trans (Part.statuses_congr hf), ?_⟩
    have := (p.unknownGone x).endStaff_effect x .vehicleGone
    rwa [hs] at this
  all_goals simp

/-- What a forced removal does to the columns: the record of the slot is EMPTY and its reads are gone. -/
theorem Part.forcedRemoval_bases {p : Part} {x : SlotId} (hk : p.custody x ≠ .empty) :
    (p.forcedRemoval x).bases = (p.cleared x).bases := by
  rcases Custody.cases_of_ne_empty hk with ⟨u, hu⟩ | hn
  · rw [Part.forcedRemoval_of_binds hu, Part.endCondition_bases]
    exact (Part.endAll_bases ..).trans (Part.bases_congr (by simp))
  · rw [Part.forcedRemoval_of_unbound hn, Part.endAll_bases]
    exact Part.bases_congr (p.unknownGone_frame x).1

theorem Part.forcedRemoval_unasked {p : Part} {x : SlotId} (hk : p.custody x ≠ .empty) :
    ((p.forcedRemoval x).column x.col).unasked x.pos := by
  have hdrop : ∀ (col : Column) (j : PosId), col.unasked x.pos → (col.dropVerify j).unasked x.pos :=
    fun col j h => h.dropVerify j
  have hc := p.cleared_unasked x
  rcases Custody.cases_of_ne_empty hk with ⟨u, hu⟩ | hn
  · rw [Part.forcedRemoval_of_binds hu, Part.column_congr (Part.endCondition_frame ..).2.1]
    refine Part.endAll_keeps (Column.unasked_stable x.pos) hdrop _ _ ?_
    rwa [Part.column_congr (Part.raise_frame ..).2.1]
  · rw [Part.forcedRemoval_of_unbound hn]
    refine Part.endAll_keeps (Column.unasked_stable x.pos) hdrop _ _ ?_
    rwa [Part.column_congr (p.unknownGone_frame x).1]

theorem Part.removal_forced {p : Part} {x : SlotId} (ho : p.openOn x = none) (hk : p.custody x ≠ .empty) :
    p.removal x = p.forcedRemoval x := by
  unfold Part.removal
  rw [ho]
  cases h : p.custody x <;> simp_all

/-- What a forced removal and a settling after it leave of the slot. -/
theorem Part.forcedRemoval_settled_slot {p : Part} {x : SlotId} (hk : p.custody x ≠ .empty) :
    (p.forcedRemoval x).settle.record x = { p.record x with custody := .empty } ∧
    ((p.forcedRemoval x).settle.engine x).qualified = (p.engine x).qualified ∧
    ((p.forcedRemoval x).settle.engine x).candidate = (p.engine x).candidate := by
  have hb : ((p.forcedRemoval x).settle.slot x).base = ((p.cleared x).slot x).base :=
    (Part.settle_sameBases _ x).trans (Part.base_of_bases (Part.forcedRemoval_bases hk) x)
  have hs := hb.trans (congrArg Slot.base (p.cleared_slot x))
  refine ⟨?_, (Slot.presence_of_base hs).1, (Slot.presence_of_base hs).2⟩
  rw [Part.record_of_base_whole hb (by simp [Part.cleared_custody]) (by simp [Part.cleared_custody]),
    Part.cleared_record]

/-- Settles O39: without an OPEN release the removal is `forcedRemoval`, whose effects `Part.forced` collects and the
settling keeps. -/
theorem forcedRemoval : Obligations.ForcedRemoval := by
  unfold Obligations.ForcedRemoval
  intro x since s hh hroom hq hc ho
  have hexec : s.part.custody x ≠ .empty →
      exec (.candidateQualified x) s = .next { s with part := ((s.part.qualifying x since true).forcedRemoval x).settle } := by
    intro hk
    rw [exec_candidateQualified hh hq hc, if_pos rfl,
      Part.removal_forced (by rw [Part.qualifying_openOn]; exact ho) (by rwa [Part.qualifying_custody])]
  have hfacts : s.part.custody x ≠ .empty →
      (s.part.qualifying x since true).forced ((s.part.qualifying x since true).forcedRemoval x).settle x ∧
      ((s.part.qualifying x since true).forcedRemoval x).settle.record x = { s.part.record x with custody := .empty } ∧
      (((s.part.qualifying x since true).forcedRemoval x).settle.engine x).qualified = some false ∧
      (((s.part.qualifying x since true).forcedRemoval x).settle.engine x).candidate = none := by
    intro hk
    have hk' : (s.part.qualifying x since true).custody x ≠ .empty := by rwa [Part.qualifying_custody]
    have hf := (Part.forcedRemoval_forced (hroom.of_alarm (q := s.part.qualifying x since true) (by simp)) hk').settle
    obtain ⟨h1, h2, h3⟩ := Part.forcedRemoval_settled_slot hk'
    rw [Part.qualifying_record] at h1
    have he : (s.part.qualifying x since true).engine x =
        { s.part.engine x with qualified := some false, candidate := none } := congrArg Slot.engine Part.qualifying_slot
    rw [he] at h2 h3
    exact ⟨hf, h1, h2, h3⟩
  refine ⟨fun tag unit m f hk => ?_, fun hn => ?_⟩
  · have hb : (s.part.custody x).binds unit := ⟨tag, m, f, hk⟩
    obtain ⟨hf, h1, h2, h3⟩ := hfacts hb.ne_empty
    obtain ⟨b1, b2, b3⟩ := hf.bound unit (by rwa [Part.qualifying_custody])
    exact ⟨_, hexec hb.ne_empty, rfl, h1, h2, h3, b1, b2.2, by simpa using b3, by simpa using hf.ring,
      by simp, by simp⟩
  · have hn' : (s.part.custody x).unbound := hn
    obtain ⟨hf, h1, h2, h3⟩ := hfacts hn'.ne_empty
    obtain ⟨b1, b2, b3⟩ := hf.unbound (by rwa [Part.qualifying_custody])
    exact ⟨_, hexec hn'.ne_empty, rfl, h1, h2, h3, b1.2, by simpa using b3,
      Part.map_status_of_statuses (b2.trans (Part.statuses_congr (by simp))), by simpa using hf.ring,
      by simp, by simp⟩

end Sys2Proof.Machine
end

section
/-! PROOFS. The arrival that qualifies (R5, R7, R25). -/

namespace Sys2Proof.Machine

/-- A read placed at a column that has a read list stands. -/
theorem Column.place_readStands {col : Column} (hw : col.engine.watches = true) (i : PosId) (x : Purpose) :
    (col.place i x).readStands i := by
  have hent : ∃ r ∈ enterRequest col.readList i x, r.pos = i := by
    unfold enterRequest
    split
    next => exact ⟨⟨i, x⟩, by simp, rfl⟩
    next r hr =>
      split
      · exact ⟨⟨i, x⟩, by simp, rfl⟩
      · exact ⟨r, List.mem_of_find?_eq_some hr, by simpa using List.find?_some hr⟩
  unfold Column.place
  rw [if_pos hw]
  split
  · split
    next h => exact .inr ⟨_, rfl, h⟩
    next => exact .inl hent
  · exact .inl hent

/-- An UNREAD record at a slot, with a read of it placed. -/
def Part.arrived (p : Part) (x : SlotId) : Part := (p.setCustody x (.unread p.minute)).placeRead x .arrival

@[simp] theorem Part.arrived_frame (p : Part) (x : SlotId) :
    (p.arrived x).uptime = p.uptime ∧ (p.arrived x).fleet = p.fleet ∧ (p.arrived x).sched = p.sched ∧
    (p.arrived x).book = p.book ∧ (p.arrived x).chute = p.chute ∧ (p.arrived x).late = p.late ∧
    (p.arrived x).alarm = p.alarm ∧ (p.arrived x).supply = p.supply ∧ (p.arrived x).lines = p.lines := by
  simp [Part.arrived]

theorem Part.arrival_of_empty {p : Part} {x : SlotId} (h : p.custody x = .empty) : p.arrival x = p.arrived x := by
  rw [Part.arrival, if_pos h]
  rfl

theorem Part.arrival_of_ne_empty {p : Part} {x : SlotId} (h : p.custody x ≠ .empty) :
    p.arrival x = (p.forcedRemoval x).arrived x := by
  rw [Part.arrival, if_neg h]
  rfl

theorem Part.arrived_slot (p : Part) (x : SlotId) :
    (p.arrived x).slot x = { p.slot x with record := { (p.slot x).record with custody := .unread p.minute } } := by
  rw [Part.arrived, Part.placeRead_slot]
  exact Part.slot_updSlot_self ..

theorem Part.arrived_slot_of_ne (p : Part) {x y : SlotId} (h : y ≠ x) : (p.arrived x).slot y = p.slot y := by
  rw [Part.arrived, Part.placeRead_slot]
  exact Part.setCustody_slot_of_ne _ _ h.symm

theorem Part.arrived_record (p : Part) (x : SlotId) :
    (p.arrived x).record x = { p.record x with custody := .unread p.minute } := by
  rw [Part.record, Part.arrived_slot, Part.record]

/-- A change of columns that moves no engine and completes no reconciliation. -/
theorem Part.quiet.of_columns {p q : Part} (h : p.quiet) (hc : ∀ c, (q.column c).engine = (p.column c).engine ∧
    (q.column c).unreconciled = (p.column c).unreconciled) : q.quiet := by
  intro c he
  rw [(hc c).2]
  exact h c ((hc c).1.symm.trans he)

theorem Column.place_frame (col : Column) (i : PosId) (x : Purpose) :
    (col.place i x).engine = col.engine ∧ (col.place i x).unreconciled = col.unreconciled := by
  unfold Column.place
  repeat' split
  all_goals exact ⟨rfl, rfl⟩

theorem Part.qualifying_quiet {p : Part} (h : p.quiet) (x : SlotId) (since : Ms) (q : Bool) :
    (p.qualifying x since q).quiet := by
  refine h.of_columns fun c => Part.updColumn_keeps
    (K := fun col => col.engine = (p.column c).engine ∧ col.unreconciled = (p.column c).unreconciled) (fun e => e) ?_
  rw [Part.column_congr (Part.advanceTo_frame ..).1]
  exact ⟨rfl, rfl⟩

theorem Part.arrived_quiet {p : Part} (h : p.quiet) (x : SlotId) : (p.arrived x).quiet := by
  refine h.of_columns fun c => Part.updColumn_keeps
    (K := fun col => col.engine = (p.column c).engine ∧ col.unreconciled = (p.column c).unreconciled) (fun e => ?_) ?_
  · obtain ⟨h1, h2⟩ := Column.place_frame ((p.setCustody x (.unread p.minute)).column x.col) x.pos .arrival
    exact ⟨h1.trans e.1, h2.trans e.2⟩
  · exact Part.updColumn_keeps
      (K := fun col => col.engine = (p.column c).engine ∧ col.unreconciled = (p.column c).unreconciled) (fun e => e)
      ⟨rfl, rfl⟩

/-- Settles O38: at an EMPTY slot the arrival is `arrived` and the settling of a quiet part starts readers alone; else
`forcedRemoval` comes first and leaves no read of the slot, so that the one placed then is asked for and stands. -/
theorem qualifiedArrival : Obligations.QualifiedArrival := by
  unfold Obligations.QualifiedArrival
  refine ⟨?_, ?_⟩
  · intro x since s hh hquiet hq hc hk hw
    let q := s.part.qualifying x since false
    have hqk : q.custody x = .empty := by rw [Part.qualifying_custody, hk]
    have hexec := exec_candidateQualified hh hq hc
    rw [if_neg (by simp), Part.arrival_of_empty hqk, Part.settle_of_quiet (by simpa [Part.halted] using hh)
      (Part.arrived_quiet (Part.qualifying_quiet hquiet x since false) x)] at hexec
    have hslot : ∀ y, (q.arrived x).startReaders.decideDrives.slot y = (q.arrived x).slot y := fun y => by
      rw [Part.decideDrives_slot, Part.startReaders_slot]
    have hread : ((q.arrived x).startReaders.decideDrives.column x.col).readStands x.pos := by
      rw [Part.decideDrives_column]
      refine Part.startReaders_readStands ?_
      rw [Part.arrived, Part.placeRead, Part.column_updColumn_self]
      refine Column.place_readStands ?_ ..
      rw [Part.setCustody, Part.updRecord, Part.updSlot_engineState, Part.qualifying_engineState]
      exact hw
    have hup : (q.arrived x).startReaders.decideDrives.uptime = q.uptime := by simp
    have hlate : (q.arrived x).startReaders.decideDrives.late = q.late := by simp
    have hframe : (q.arrived x).startReaders.decideDrives.fleet = s.part.fleet ∧
        (q.arrived x).startReaders.decideDrives.book = s.part.book ∧
        (q.arrived x).startReaders.decideDrives.chute = s.part.chute ∧
        (q.arrived x).startReaders.decideDrives.sched.queue = s.part.sched.queue ∧
        (q.arrived x).startReaders.decideDrives.supply = s.part.supply ∧
        (q.arrived x).startReaders.decideDrives.alarm.list = s.part.alarm.list ∧
        (q.arrived x).startReaders.decideDrives.lines.notices = s.part.lines.notices := by simp [q]
    generalize (q.arrived x).startReaders.decideDrives = t at hexec hslot hread hup hlate hframe
    have hs : t.slot x = { s.part.slot x with
        record := { (s.part.slot x).record with custody := .unread t.minute }
        engine := { (s.part.slot x).engine with qualified := some true, candidate := none } } := by
      rw [hslot, Part.arrived_slot, Part.qualifying_slot, Part.minute, Part.minute, hlate]
      rfl
    refine ⟨_, hexec, rfl, hup.trans (Part.qualifying_uptime hh), ?_, ?_, ?_, hread, fun y hy => ?_, hframe⟩
    · exact congrArg (fun y : Slot => y.engine.qualified) hs
    · exact congrArg (fun y : Slot => y.engine.candidate) hs
    · exact congrArg Slot.record hs
    · exact (hslot y).trans ((q.arrived_slot_of_ne hy).trans (Part.qualifying_slot_of_ne hy))
  · intro x since s hh hroom hq hc hk hw
    let q := s.part.qualifying x since false
    have hqk : q.custody x ≠ .empty := by rwa [Part.qualifying_custody]
    have hexec := exec_candidateQualified hh hq hc
    rw [if_neg (by simp), Part.arrival_of_ne_empty hqk] at hexec
    have hf : q.forced ((q.forcedRemoval x).arrived x).settle x :=
      ((Part.forcedRemoval_forced (hroom.of_alarm (q := q) (by simp [q])) hqk).of_columns (by simp) (by simp) (by simp)
        (by simp) (by simp) (by simp) (by simp) (by simp)).settle
    have hbases := Part.forcedRemoval_bases hqk
    have hrec : (q.forcedRemoval x).record x = { s.part.record x with custody := .empty } := by
      rw [Part.record_of_base_whole (Part.base_of_bases hbases x) (by simp [Part.cleared_custody])
        (by simp [Part.cleared_custody]), Part.cleared_record, Part.qualifying_record]
    have hmin : ((q.forcedRemoval x).arrived x).settle.minute = (q.forcedRemoval x).minute := by simp [Part.minute]
    refine ⟨_, hexec, rfl, ?_, ?_, ?_, ?_, ?_, hf.ring.trans (by simp [q]), by simp [q], by simp [q]⟩
    · exact hf.uptime.trans (Part.qualifying_uptime hh)
    · have hb := Part.settle_sameBases ((q.forcedRemoval x).arrived x) x
      have hcust : ((q.forcedRemoval x).arrived x).custody x = .unread (q.forcedRemoval x).minute := by
        rw [Part.custody, Part.arrived_record]
      show ((q.forcedRemoval x).arrived x).settle.record x = _
      rw [hmin, Part.record_of_base_whole hb (by simp [hcust]) (by simp [hcust]), Part.arrived_record, hrec]
    · refine Part.settle_readStands ?_
      rw [Part.arrived, Part.placeRead, Part.column_updColumn_self]
      refine Column.place_asked ?_ (Part.updSlot_keeps (Column.unasked_stable _) (Part.forcedRemoval_unasked hqk)) rfl
      rw [Part.setCustody, Part.updRecord, Part.updSlot_engineState, Part.engineState_of_bases hbases,
        Part.cleared_engineState, Part.qualifying_engineState]
      exact hw
    · intro tag unit m f hkk
      have hb : (s.part.custody x).binds unit := ⟨tag, m, f, hkk⟩
      obtain ⟨b1, b2, _⟩ := hf.bound unit (by rwa [Part.qualifying_custody])
      exact ⟨b1, b2.2⟩
    · intro hn
      obtain ⟨b1, b2, _⟩ := hf.unbound (by rw [Part.qualifying_custody]; exact hn)
      exact ⟨b1.2, Part.map_status_of_statuses (b2.trans (Part.statuses_congr (by simp [q])))⟩

end Sys2Proof.Machine
end

section
/-! PROOFS. The take: a removal that qualifies at the slot of an OPEN release (R8, R70, R75, R85). -/

namespace Sys2Proof.Machine

/-! ## The vehicle and the contract of a take -/

/-- The vehicles with their statuses and the minutes of their last changes. -/
def Part.datedStatuses (p : Part) : List (Nat × VehicleStatus × Minute) :=
  p.fleet.map fun v => (v.unit, v.status, v.lastChange)

theorem Part.datedStatuses_congr {p q : Part} (h : q.fleet = p.fleet) : q.datedStatuses = p.datedStatuses := by
  rw [Part.datedStatuses, Part.datedStatuses, h]

theorem Part.updVehicle_datedStatuses (p : Part) (u : Nat) {f : Vehicle → Vehicle}
    (h : ∀ v, (f v).unit = v.unit ∧ (f v).status = v.status ∧ (f v).lastChange = v.lastChange) :
    (p.updVehicle u f).datedStatuses = p.datedStatuses := by
  simp only [Part.datedStatuses, Part.updVehicle_fleet, List.map_map]
  refine List.map_congr_left fun v _ => ?_
  simp only [Function.comp_apply]
  split <;> simp [h]

theorem Part.status_of_datedStatuses {p q : Part} (h : q.datedStatuses = p.datedStatuses) {u : Nat} {st : VehicleStatus}
    {m : Minute} (hp : ∀ v ∈ p.fleet, v.unit = u → v.status = st ∧ v.lastChange = m) :
    ∀ w ∈ q.fleet, w.unit = u → w.status = st ∧ w.lastChange = m := by
  intro w hw hu
  have : (w.unit, w.status, w.lastChange) ∈ p.datedStatuses := h ▸ List.mem_map.mpr ⟨w, hw, rfl⟩
  obtain ⟨v, hv, he⟩ := List.mem_map.mp this
  simp only [Prod.mk.injEq] at he
  obtain ⟨h1, h2, h3⟩ := he
  rw [← h2, ← h3]
  exact hp v hv (h1.trans hu)

theorem Part.escalate_datedStatuses (p : Part) (u : Nat) : (p.escalate u).datedStatuses = p.datedStatuses := by
  unfold Part.escalate
  refine Part.updVehicle_datedStatuses _ _ ?_
  exact fun _ => ⟨rfl, rfl, rfl⟩

theorem Part.levelChange_datedStatuses (p : Part) (c : Contract) (old : Option Level) (new : Level) (charge : Nat) :
    (p.levelChange c old new charge).datedStatuses = p.datedStatuses := by
  unfold Part.levelChange
  dsimp only
  split
  · exact (Part.escalate_datedStatuses ..).trans (Part.datedStatuses_congr (by simp))
  · exact Part.datedStatuses_congr (by simp)

theorem Part.activateContract_datedStatuses (p : Part) (n : Nat) (m : Minute) :
    (p.activateContract n m).datedStatuses = p.datedStatuses := by
  unfold Part.activateContract
  split
  · rfl
  · split
    · rfl
    · dsimp only
      split
      · rfl
      · exact Part.levelChange_datedStatuses ..

theorem Part.setStatus_dated (p : Part) (u : Nat) (st : VehicleStatus) :
    ∀ w ∈ (p.setStatus u st).fleet, w.unit = u → w.status = st ∧ w.lastChange = p.minute := by
  intro w hw hu
  simp only [Part.setStatus, Part.updVehicle_fleet, List.mem_map] at hw
  obtain ⟨v, _, rfl⟩ := hw
  split at hu <;> simp_all

theorem Part.findContract_updContract (p : Part) (n : Nat) {f : Contract → Contract}
    (hf : ∀ c, (f c).number = c.number) : (p.updContract n f).findContract n = (p.findContract n).map f := by
  simp only [Part.findContract, Part.updContract_contracts, List.find?_map]
  have hfun : (fun c : Contract => c.number == n) ∘ (fun c => if c.number = n then f c else c) =
      fun c : Contract => c.number == n := by
    funext c
    simp only [Function.comp_apply]
    split <;> simp [hf]
  rw [hfun]
  cases h : p.book.contracts.find? fun c => c.number == n with
  | none => rfl
  | some c =>
    have : c.number = n := by simpa using List.find?_some h
    simp [this]

theorem Part.findContract_congr {p q : Part} (h : q.book = p.book) (n : Nat) : q.findContract n = p.findContract n := by
  rw [Part.findContract, Part.findContract, h]

/-- A PENDING contract that is activated is ACTIVE from the minute, evaluated there and marked (R85). -/
theorem Part.activateContract_contract {p : Part} {n : Nat} {c : Contract} (hc : p.findContract n = some c)
    {request : Option Nat} (hp : c.state = .pending request) (m : Minute) :
    let e := evaluate p.late.settings c m
    (p.activateContract n m).findContract n = some { c with
      state := .active m e.level, hours := e.hours, charge := e.charge, capped := e.capped
      mark := some p.late.sweepNumber } := by
  intro e
  have hup : (p.updContract n fun c => { c.withEvaluation m e with mark := some p.late.sweepNumber }).findContract n =
      some { c with
        state := .active m e.level, hours := e.hours, charge := e.charge, capped := e.capped
        mark := some p.late.sweepNumber } := by
    rw [Part.findContract_updContract, hc]
    · rfl
    · exact fun _ => rfl
  have hact : p.activateContract n m =
      if e.level = .current then
        p.updContract n fun c => { c.withEvaluation m e with mark := some p.late.sweepNumber }
      else (p.updContract n fun c => { c.withEvaluation m e with mark := some p.late.sweepNumber }).levelChange c none
        e.level e.charge := by
    simp only [Part.activateContract, hc, hp] <;> rfl
  rw [hact]
  split
  · exact hup
  · rw [Part.findContract_congr (Part.levelChange_frame ..).2.2.2.1]
    exact hup

@[simp] theorem Part.activateContract_ring (p : Part) (n : Nat) (m : Minute) :
    (p.activateContract n m).book.ring = p.book.ring := by
  unfold Part.activateContract
  split
  · rfl
  · split
    · rfl
    · dsimp only
      split
      · rfl
      · simp

theorem Part.takeVehicle_ring (p : Part) (t : Target) (m : Minute) : (p.takeVehicle t m).book.ring = p.book.ring := by
  cases t <;> simp [Part.takeVehicle]

/-- The out reason of a take, by the kind of the request (R40, Note 2). -/
def Target.outReason : Target → OutReason
  | .contract _ _ => .contract
  | .movement _ => .movement
  | .staffVehicle _ => .staff
  | .staffSlot => .staff

/-- The vehicle of a take is OUT for the reason of the kind, from the current minute (R70). -/
theorem Part.takeVehicle_dated (p : Part) {t : Target} {u : Nat} (h : t.unit = some u) (m : Minute) :
    ∀ w ∈ (p.takeVehicle t m).fleet, w.unit = u → w.status = .out t.outReason ∧ w.lastChange = p.minute := by
  cases t with
  | contract v n =>
    obtain rfl : v = u := by simpa [Target.unit] using h
    exact Part.status_of_datedStatuses (Part.activateContract_datedStatuses ..) (Part.setStatus_dated p v _)
  | movement v =>
    obtain rfl : v = u := by simpa [Target.unit] using h
    exact Part.setStatus_dated p v _
  | staffVehicle v =>
    obtain rfl : v = u := by simpa [Target.unit] using h
    exact Part.setStatus_dated p v _
  | staffSlot => simp [Target.unit] at h

/-! ## The ending TAKEN -/

/-- The fleet and the contracts after an ending are what its links leave of them. -/
theorem Part.endRelease_taken (p : Part) (r : Release) :
    (p.endRelease r .taken).fleet = p.fleet.map (fun v => if r.target.unit = some v.unit then { v with request := none } else v) ∧
    (p.endRelease r .taken).book = p.book := by
  have hl : ∀ q : Part, (q.leaveLinks r .taken).book = q.book ∧ (q.leaveLinks r .taken).fleet =
      q.fleet.map (fun v => if r.target.unit = some v.unit then { v with request := none } else v) := by
    intro q
    cases ht : r.target <;> simp [Part.leaveLinks, Target.unit, Target.contractNumber, ht, eq_comm]
  obtain ⟨-, hf, -, hb, -⟩ := (p.leaveQueue r .taken).leaveSlot_frame r .taken
  constructor
  · simp only [Part.endRelease, Part.selection_frame, Part.notice_frame, (hl _).2, hf] <;> rfl
  · simp only [Part.endRelease, Part.selection_frame, Part.notice_frame, (hl _).1, hb] <;> rfl

/-- The latch of an OPEN release that ends TAKEN: its drive stops (R12, R75). -/
theorem Part.leave_latch {p : Part} {r : Release} (ho : r.isOpen = true) (o : ReleaseOutcome) :
    ((p.leave r o).engine r.slot).latch = (p.engine r.slot).latch.map (Latch.stopped p.uptime) := by
  have hs : ∀ q : Part, q.columns = p.columns → q.uptime = p.uptime →
      ((q.stopLatch r.slot).engine r.slot).latch = (p.engine r.slot).latch.map (Latch.stopped p.uptime) := by
    intro q hc hu
    rw [Part.stopLatch, Part.updLatch, Part.engine_updEngine_self, hu, Part.engine_of_slot (Part.slot_congr hc _)]
  rw [Part.engine_of_slot (Part.slot_congr (Part.leave_columns ..) _)]
  unfold Part.leaveSlot
  cases hp : r.phase with
  | opened a b c d =>
    dsimp only
    split
    · rw [Part.engine, Part.setCustody, Part.updRecord, Part.slot_updSlot_self]
      exact hs (p.leaveQueue r o) rfl rfl
    · exact hs (p.leaveQueue r o) rfl rfl
  | _ => simp [Release.isOpen, hp] at ho

/-- A latch on its way to CLOSED is touched by no strike. -/
theorem Part.selectOne_closing {p : Part} {x : SlotId} {since : Ms} (h : (p.engine x).latch = some (.closing since))
    (r : Release) : ((p.selectOne r).engine x).latch = some (.closing since) := by
  rcases eq_or_ne r.slot x with rfl | hx
  · cases hk : r.target.vehicleKind with
    | some kind =>
      rw [Part.selectOne_vehicle p hk, Part.engine, Part.placeRead_slot, Part.setCustody, Part.updRecord,
        Part.slot_updSlot_self]
      exact h
    | none =>
      have hq : ((p.charged r).requeueRead r.slot).engine r.slot = p.engine r.slot :=
        Part.engine_of_slot (Part.requeueRead_slot ..)
      rw [Part.selectOne_staffSlot p hk]
      show ((((p.charged r).requeueRead r.slot).strike r.slot).engine r.slot).latch = _
      rw [Part.strike, Part.updLatch, Part.engine_updEngine_self, hq, h]
      rfl
  · rw [Part.engine_of_slot (Part.selectOne_slot_of_ne p hx), h]

theorem Part.selection_closing {p : Part} {x : SlotId} {since : Ms} (h : (p.engine x).latch = some (.closing since)) :
    (p.selection.engine x).latch = some (.closing since) :=
  Part.selection_induct (P := fun q => (q.engine x).latch = some (.closing since))
    (fun _ r hq _ => Part.selectOne_closing hq r) h

theorem Part.settle_closing {p : Part} {x : SlotId} {since : Ms} (h : (p.engine x).latch = some (.closing since)) :
    (p.settle.engine x).latch = some (.closing since) := by
  refine Part.settle_induct (P := fun q => (q.engine x).latch = some (.closing since)) ?_ ?_ ?_ ?_ h
  · exact fun q c hq _ => by rwa [Part.engine_of_slot (Part.runColumn_slot q c x)]
  · exact fun q r hq _ => Part.selectOne_closing hq r
  · exact fun q c hq => by rwa [Part.engine_of_slot (Part.startReader_slot q c x)]
  · exact fun q hq => hq

theorem Latch.stopped_of_driven {l : Latch} (h : l.driven = true) (now : Ms) : l.stopped now = .closing now := by
  cases l <;> simp_all [Latch.driven, Latch.stopped]

/-! ## The take -/

/-- The part of a take before the release ends: the record EMPTY, the vehicle OUT, the conditions of the fob over. -/
def Part.taken (p : Part) (x : SlotId) (r : Release) : Part :=
  (match r.target with
    | .staffSlot => ((p.cleared x).takeVehicle r.target p.minute).endForeignConditions x
    | _ => (p.cleared x).takeVehicle r.target p.minute).endCondition .fobUnread (.slot x)

theorem Part.take_eq (p : Part) (x : SlotId) (r : Release) : p.take x r = (p.taken x r).endRelease r .taken := by
  have hm : (p.cleared x).minute = p.minute := by simp [Part.minute]
  cases ht : r.target <;> simp only [Part.take, Part.taken, ht, ← hm] <;> rfl

theorem Part.taken_frame (p : Part) (x : SlotId) (r : Release) :
    (p.taken x r).columns = (p.cleared x).columns ∧ (p.taken x r).sched = p.sched ∧ (p.taken x r).uptime = p.uptime ∧
    (p.taken x r).fleet = ((p.cleared x).takeVehicle r.target p.minute).fleet ∧
    (p.taken x r).book = ((p.cleared x).takeVehicle r.target p.minute).book := by
  unfold Part.taken
  split <;> simp

theorem Part.removal_take {p : Part} {x : SlotId} {r : Release} (ho : p.openOn x = some r) (hk : p.custody x ≠ .empty)
    (hh : ∀ tag unit m f, p.custody x ≠ .held tag unit m f) : p.removal x = p.take x r := by
  unfold Part.removal
  rw [ho]
  cases h : p.custody x with
  | empty => exact absurd h hk
  | held t u m f => exact absurd h (hh t u m f)
  | _ => rfl

theorem Part.openOn_some {p : Part} {x : SlotId} {r : Release} (h : p.openOn x = some r) :
    r.isOpen = true ∧ r.slot = x := by
  simpa using List.find?_some h

@[simp] theorem Part.elapse_late (p : Part) (dt : Ms) :
    (p.elapse dt).late.settings = p.late.settings ∧ (p.elapse dt).late.sweepNumber = p.late.sweepNumber := by
  unfold Part.elapse
  dsimp only
  split <;> simp

@[simp] theorem Part.qualifying_late (p : Part) (x : SlotId) (since : Ms) (q : Bool) :
    (p.qualifying x since q).late.settings = p.late.settings ∧
    (p.qualifying x since q).late.sweepNumber = p.late.sweepNumber := by
  unfold Part.qualifying Part.advanceTo
  split <;> simp

/-- What a take and the settling after it leave of the fleet, by the vehicle of the request (R70, R75). -/
theorem Part.take_fleet {p : Part} (x : SlotId) {r : Release} {u : Nat} (h : r.target.unit = some u) :
    ∀ w ∈ (p.take x r).settle.fleet, w.unit = u →
      w.status = .out r.target.outReason ∧ w.request = none ∧ w.lastChange = p.minute := by
  intro w hw hu
  rw [(Part.settle_frame _).2.1, Part.take_eq, (Part.endRelease_taken ..).1, (p.taken_frame x r).2.2.2.1] at hw
  obtain ⟨v, hv, rfl⟩ := List.mem_map.mp hw
  have hvu : v.unit = u := by
    split at hu <;> exact hu
  obtain ⟨h1, h2⟩ := Part.takeVehicle_dated (p.cleared x) h p.minute v hv hvu
  rw [if_pos (by rw [h, hvu])]
  exact ⟨h1, rfl, h2.trans (by simp [Part.minute])⟩

theorem Part.take_book (p : Part) (x : SlotId) (r : Release) :
    (p.take x r).settle.book = ((p.cleared x).takeVehicle r.target p.minute).book := by
  rw [(Part.settle_frame _).2.2.1, Part.take_eq, (Part.endRelease_taken ..).2, (p.taken_frame x r).2.2.2.2]

/-- What a take and the settling after it leave of the slot and of its latch (R8, R75). -/
theorem Part.take_slot {p : Part} {x : SlotId} {r : Release} (ho : p.openOn x = some r) :
    (p.take x r).settle.record x = { p.record x with custody := .empty } ∧
    ∀ l, (p.engine x).latch = some l → l.driven = true →
      ((p.take x r).settle.engine x).latch = some (.closing p.uptime) := by
  obtain ⟨hopen, rfl⟩ := Part.openOn_some ho
  have hcol : (p.taken r.slot r).slot r.slot = (p.cleared r.slot).slot r.slot := Part.slot_congr (p.taken_frame r.slot r).1 _
  rw [Part.take_eq]
  refine ⟨?_, fun l hl hd => ?_⟩
  · have hb : (((p.taken r.slot r).endRelease r .taken).settle.slot r.slot).base = ((p.cleared r.slot).slot r.slot).base :=
      (Part.settle_sameBases _ _).trans ((Part.base_of_bases (Part.endRelease_bases ..) _).trans (by rw [hcol]))
    rw [Part.record_of_base_whole hb (by simp [Part.cleared_custody]) (by simp [Part.cleared_custody]),
      Part.cleared_record]
  · refine Part.settle_closing ?_
    rw [Part.endRelease_eq]
    refine Part.selection_closing ?_
    have he : (p.taken r.slot r).engine r.slot = p.engine r.slot := by
      rw [Part.engine, hcol, Part.cleared_slot, Part.engine]
    rw [Part.leave_latch hopen, he, hl, (p.taken_frame r.slot r).2.2.1]
    exact congrArg some (Latch.stopped_of_driven hd _)

/-- Settles O40: the removal is `take`, the ending TAKEN of a part whose record is EMPTY and whose vehicle is OUT; what the
selection and the settling after it keep of the slot, the latch and the tables is said by the lemmas above. -/
theorem take : Obligations.Take := by
  unfold Obligations.Take
  intro x since r s hh hq hc ho hk hheld
  let p := s.part.qualifying x since true
  have hpo : p.openOn x = some r := by rw [Part.qualifying_openOn, ho]
  have hexec := exec_candidateQualified hh hq hc
  rw [if_pos rfl, Part.removal_take hpo (by rwa [Part.qualifying_custody]) (by rwa [Part.qualifying_custody])] at hexec
  have hmin : (p.take x r).settle.minute = p.minute := by simp [Part.minute]
  have hup : (p.take x r).settle.uptime = p.uptime := by simp
  obtain ⟨hrec, hlatch⟩ := Part.take_slot hpo
  have hlive : p.liveNumbers = s.part.liveNumbers := by rw [Part.liveNumbers, Part.qualifying_frame.2.2.2.2.2.2, Part.liveNumbers]
  have hfleet : ∀ u, r.target.unit = some u → ∀ w ∈ (p.take x r).settle.fleet, w.unit = u →
      w.status = .out r.target.outReason ∧ w.request = none ∧ w.lastChange = (p.take x r).settle.minute := by
    rw [hmin]
    exact fun u hu => Part.take_fleet x hu
  refine ⟨_, hexec, rfl, hup.trans (Part.qualifying_uptime hh), ?_, ?_, ?_, ?_, ?_, ?_, ?_, ?_, ?_, by simp [p], by simp [p]⟩
  · rw [Part.qualifying_record] at hrec
    exact hrec
  · show (p.take x r).settle.liveNumbers = _
    rw [Part.settle_liveNumbers, Part.take_eq, Part.endRelease_liveNumbers, Part.liveNumbers_congr (p.taken_frame x r).2.1,
      hlive]
  · show _ ∈ (p.take x r).settle.sched.ended
    rw [(Part.settle_requests _).2, Part.take_eq]
    exact Part.endRelease_ended ..
  · intro l hl hd
    show ((p.take x r).settle.engine x).latch = some (.closing (p.take x r).settle.uptime)
    rw [hup]
    refine hlatch l ?_ hd
    rw [Part.engine, Part.qualifying_slot]
    exact hl
  · intro u hu
    have := hfleet u (by rw [hu]; rfl)
    rwa [hu] at this
  · intro u hu
    have := hfleet u (by rw [hu]; rfl)
    rwa [hu] at this
  · intro u n hu
    have := hfleet u (by rw [hu]; rfl)
    rw [hu] at this
    refine ⟨this, fun c request hcn hst => ?_⟩
    show let e := evaluate s.part.late.settings c (p.take x r).settle.minute
      (p.take x r).settle.findContract n = _
    rw [hmin, Part.findContract_congr (p.take_book x r), hu]
    have hp : ((p.cleared x).setStatus u (.out .contract)).findContract n = some c := by
      rw [← hcn]
      exact Part.findContract_congr (by simp [p]) n
    simpa [Part.takeVehicle, p] using Part.activateContract_contract hp hst p.minute
  · intro hu
    refine ⟨?_, ?_⟩
    · show (p.take x r).settle.fleet = s.part.fleet
      rw [(Part.settle_frame _).2.1, Part.take_eq, (Part.endRelease_taken ..).1, (p.taken_frame x r).2.2.2.1, hu]
      simp [Part.takeVehicle, Target.unit, p]
    · show (p.take x r).settle.book = s.part.book
      rw [p.take_book x r, hu]
      simp [Part.takeVehicle, p]
  · show (p.take x r).settle.book.ring = s.part.book.ring
    rw [p.take_book x r, Part.takeVehicle_ring]
    simp [p]

end Sys2Proof.Machine
end

section
/-! PROOFS. The probe of a LOST column whose board answers: a state of two RELEASING slots in which the first settlement
drops the contract link of the second vehicle (R84, R159, R160). -/

namespace Sys2Proof.Machine

/-- A slot whose record is RELEASING for a contract and whose fob is found present. -/
def crossedSlot (tag unit : Nat) : Slot :=
  { record := ⟨.releasing tag unit 0 .contract false, false, false, true⟩
    engine := { SlotEngine.unwatched with contact := true } }

/-- A PENDING contract of a vehicle. -/
def crossedContract (number unit : Nat) : Contract :=
  ⟨number, unit, .standard, 20000, none, 0, 0, 0, .pending none, 0, false, 0, none⟩

/-- Column 1 is LOST with vehicles 1 and 2 RELEASING in its slots 1 and 2, linked to the PENDING contracts 5 and 6. Both
contracts are of vehicle 2: the deletion of contract 5, at the settlement of slot 1, drops the contract link of vehicle 2. -/
def crossedPart : Part :=
  { ((Part.atReset.updColumn 0 fun col => { col with engine := .lost, fitted := true }).updSlot ⟨0, 0⟩
      fun _ => crossedSlot 301 1).updSlot ⟨0, 1⟩ fun _ => crossedSlot 302 2 with
    supply := { Part.atReset.supply with phase := .ready }
    fleet := [⟨1, 301, .inSlot ⟨0, 0⟩, none, none, some 5, none, 0⟩, ⟨2, 302, .inSlot ⟨0, 1⟩, none, none, some 6, none, 0⟩]
    book := ⟨[crossedContract 5 2, crossedContract 6 2], 0, []⟩ }

theorem crossedPart_distinct : crossedPart.tablesDistinct := by
  simp [Part.tablesDistinct, crossedPart, crossedContract]

/-- No slot of column 1 but slot 2 holds vehicle 2. -/
theorem crossedPart_others (y : SlotId) (hc : y.col = 0) (hy : y ≠ ⟨0, 1⟩) :
    crossedPart.custody y = .empty ∨ crossedPart.custody y = .releasing 301 1 0 .contract false := by
  obtain ⟨c, i⟩ := y
  dsimp only at hc
  subst hc
  have : ∀ i : PosId, i ≠ 1 → crossedPart.custody ⟨0, i⟩ = .empty ∨
      crossedPart.custody ⟨0, i⟩ = .releasing 301 1 0 .contract false := by decide
  exact this i fun e => hy (e ▸ rfl)

/-- The contracts after the column has entered RECONCILING: contract 6 is still there. -/
theorem crossedPart_contracts :
    (crossedPart.enterReconciling 0).book.contracts.map (·.number) = [6] := by decide +kernel

/-- Refutes O42: slot 2 of `crossedPart` meets the hypotheses of the settlement of a RELEASING slot with the fob present,
and contract 6, which its vehicle's link names, is not deleted: the link is gone when the slot is settled. -/
theorem not_boardLostAndProbed : ¬ Obligations.BoardLostAndProbed := by
  unfold Obligations.BoardLostAndProbed
  rintro ⟨-, -, h⟩
  obtain ⟨t, ht, -, -, -, -, -, -, -, hsettled, -⟩ := h 0 ⟨crossedPart, []⟩ (by decide) (by decide)
  have hexec : exec (.columnProbe 0 true) ⟨crossedPart, []⟩ =
      .next ⟨(crossedPart.enterReconciling 0).settle, []⟩ := by
    dsimp only [exec, execColumnProbe]
    refine State.liveHandle_some (by decide) ?_
    simp only [Part.probe]
    rw [if_pos (by decide)]
    rfl
  have hpart : t.part = (crossedPart.enterReconciling 0).settle := by
    rw [hexec] at ht
    simp only [Host.Outcome.next.injEq] at ht
    rw [← ht]
  have hother : ∀ y : SlotId, y.col = 0 → y ≠ ⟨0, 1⟩ → ∀ g n q, crossedPart.custody y ≠ .held g 2 n q ∧
      ∀ j, crossedPart.custody y ≠ .releasing g 2 n j q := by
    intro y hc hy g n q
    rcases crossedPart_others y hc hy with e | e <;> simp [e]
  obtain ⟨hpresent, -⟩ := hsettled ⟨0, 1⟩ 302 2 0 .contract false rfl (by decide) (by decide) crossedPart_distinct hother
  obtain ⟨-, -, -, hdeleted⟩ := hpresent (by decide)
  obtain ⟨hgone, -⟩ := hdeleted ⟨2, 302, .inSlot ⟨0, 1⟩, none, none, some 6, none, 0⟩ 6 (crossedContract 6 2)
    ⟨rfl, by decide, by decide, rfl, by decide, rfl, by simp [crossedPart]⟩
  have h6 : 6 ∈ t.part.book.contracts.map (·.number) := by
    rw [hpart, (Part.settle_frame _).2.2.1, crossedPart_contracts]
    exact List.mem_singleton.mpr rfl
  obtain ⟨e, he, hn⟩ := List.mem_map.mp h6
  exact hgone e he hn

end Sys2Proof.Machine
end

section
/-! PROOFS. Start-up (R154): what the comparisons of the slots, the entries into RECONCILING and the settling are made of,
and what of the part each of them leaves alone or keeps true. -/

namespace Sys2Proof.Machine

/-! ## Columns changed one after another -/

/-- Steps that each change one column alone leave in every column what its own step left there. -/
theorem foldl_columns {f : Part → ColId → Part} (hother : ∀ q c d, c ≠ d → (f q c).column d = q.column d)
    {l : List ColId} (hl : l.Nodup) (p : Part) (d : ColId) :
    (d ∉ l → (l.foldl f p).column d = p.column d) ∧
    (d ∈ l → ∃ q, q.column d = p.column d ∧ (l.foldl f p).column d = (f q d).column d) := by
  induction l generalizing p with
  | nil => simp
  | cons c l ih =>
    obtain ⟨hc, hl⟩ := List.nodup_cons.mp hl
    obtain ⟨ih1, ih2⟩ := ih hl (f p c)
    refine ⟨fun hd => ?_, fun hd => ?_⟩
    · rw [List.mem_cons, not_or] at hd
      exact (ih1 hd.2).trans (hother _ _ _ (Ne.symm hd.1))
    · rcases eq_or_ne d c with rfl | hne
      · exact ⟨p, rfl, ih1 hc⟩
      · obtain ⟨q, hq, he⟩ := ih2 ((List.mem_cons.mp hd).resolve_left hne)
        exact ⟨q, hq.trans (hother _ _ _ hne.symm), he⟩

theorem allCols_nodup : allCols.Nodup := List.nodup_finRange _

theorem mem_allCols (c : ColId) : c ∈ allCols := List.mem_finRange _

/-! ## Activations -/

/-- What the operations of a level change keep: notices, raises and ends of the contract's alarms, and the escalation
hold (R127). -/
structure Part.LevelStable (P : Part → Prop) : Prop where
  notice : ∀ q b, P q → P (q.notice b)
  raise : ∀ q k n, k = .overdue ∨ k = .unreturned → P q → P (q.raise k (.contract n))
  ends : ∀ q k n, k = .overdue ∨ k = .unreturned → P q → P (q.endCondition k (.contract n))
  escalate : ∀ q u, P q → P (q.escalate u)

theorem Part.LevelStable.followThreshold {P : Part → Prop} (h : Part.LevelStable P) {p : Part} {k : AlarmKind}
    (hk : k = .overdue ∨ k = .unreturned) (t : Level) (n : Nat) (old : Option Level) (new : Level) (hp : P p) :
    P (p.followThreshold t k n old new) := by
  unfold Part.followThreshold
  split
  · exact h.raise _ _ _ hk hp
  · exact h.ends _ _ _ hk hp
  · exact hp
  · exact hp

theorem Part.LevelStable.levelChange {P : Part → Prop} (h : Part.LevelStable P) {p : Part} (c : Contract)
    (old : Option Level) (new : Level) (charge : Nat) (hp : P p) : P (p.levelChange c old new charge) := by
  have hq := h.followThreshold (.inr rfl) .unreturned c.number old new
    (h.followThreshold (.inl rfl) .overdue c.number old new (h.notice _ (.levelChanged c.number old new charge) hp))
  unfold Part.levelChange
  dsimp only
  split
  · exact h.escalate _ _ hq
  · exact hq

/-- An activation is a change of PENDING contracts of its number into ACTIVE ones, and a level change. -/
theorem Part.LevelStable.activateContract {P : Part → Prop} (h : Part.LevelStable P) {p : Part} (n : Nat) (m : Minute)
    (hset : ∀ c e, p.findContract n = some c → c.isActive = false →
      P (p.updContract n fun c => { c.withEvaluation m e with mark := some p.late.sweepNumber })) (hp : P p) :
    P (p.activateContract n m) := by
  unfold Part.activateContract
  split
  · exact hp
  next c hc =>
    split
    · exact hp
    next request hs =>
      have hq := hset c (evaluate p.late.settings c m) hc (by simp [Contract.isActive, hs])
      dsimp only
      split
      · exact hq
      · exact h.levelChange _ _ _ _ hq

/-! ## Comparisons -/

/-- What the operations of the comparison of a slot with its record keep (R159, R160). -/
structure Part.CompareStable (P : Part → Prop) (x : SlotId) : Prop where
  custody : ∀ q k, P q → P (q.setCustody x k)
  recheck : ∀ q, P q → P (q.placeRecheck x)
  status : ∀ q u st, P q → P (q.setStatus u st)
  stray : ∀ q u, P q → P (q.raise .forcedRemoval (.vehicle u))
  ends : ∀ q k, k = .fobUnread ∨ k = .fobUnknown ∨ k = .fobDuplicate → P q → P (q.endCondition k (.slot x))
  delete : ∀ q n, P q → P (q.deleteContract n)
  unlink : ∀ q u, P q → P (q.dropContractLink u)
  notice : ∀ q b, P q → P (q.notice b)
  count : ∀ q b, P q → P (q.countSettled b)
  activate : ∀ q n m, P q → P (q.activateContract n m)

section compare

variable {P : Part → Prop} {x : SlotId} (h : Part.CompareStable P x)
include h

theorem Part.CompareStable.takeVehicle {p : Part} (hp : P p) (t : Target) (m : Minute) : P (p.takeVehicle t m) := by
  cases t with
  | contract u n => exact h.activate _ _ _ (h.status _ _ _ hp)
  | movement u => exact h.status _ _ _ hp
  | staffVehicle u => exact h.status _ _ _ hp
  | staffSlot => exact hp

theorem Part.CompareStable.settlePower {p : Part} (hp : P p) (u : Nat) (k : VehicleKind) : P (p.settlePower x u k) := by
  have hq := h.custody _ (p.custody x).returned hp
  unfold Part.settlePower
  dsimp only
  split
  · exact h.recheck _ (h.count _ _ (h.notice _ _ (h.unlink _ _ (h.delete _ _ hq))))
  · exact h.recheck _ (h.count _ _ (h.notice _ _ hq))

theorem Part.CompareStable.settleTaken {p : Part} (hp : P p) (u : Nat) (k : VehicleKind) (m : Minute) :
    P (p.settleTaken x u k m) :=
  h.count _ _ (h.notice _ _ (h.takeVehicle (h.ends _ _ (.inl rfl) (h.custody _ _ hp)) _ _))

theorem Part.CompareStable.foundEmpty {p : Part} (hp : P p) : P (p.foundEmpty x) :=
  h.ends _ _ (.inl rfl) (h.ends _ _ (.inr (.inr rfl)) (h.ends _ _ (.inr (.inl rfl)) (h.custody _ _ hp)))

theorem Part.CompareStable.foundGone {p : Part} (hp : P p) (u : Nat) : P (p.foundGone x u) :=
  h.ends _ _ (.inl rfl) (h.stray _ _ (h.status _ _ _ (h.custody _ _ hp)))

theorem Part.CompareStable.compareSlot {p : Part} (hp : P p) (m : Minute) : P (p.compareSlot x m) := by
  unfold Part.compareSlot
  split
  · exact hp
  · exact h.recheck _ (h.custody _ _ hp)
  · exact h.recheck _ hp
  · exact h.recheck _ hp
  · exact h.recheck _ hp
  · exact h.foundGone hp _
  · exact h.foundEmpty hp
  · exact h.foundEmpty hp
  · exact h.settlePower hp _ _
  · exact h.settleTaken hp _ _ _

end compare

/-- A column as it enters RECONCILING, before its slots are compared (R158). -/
def Column.reconciled (col : Column) (now : Ms) (minute : Minute) : Column :=
  { col.mapSlots (Slot.reconciling now) with
    engine := .reconciling, reconMinute := minute, readList := [], reader := none, unreconciled := [] }

theorem Part.enterReconciling_eq (p : Part) (c : ColId) :
    p.enterReconciling c = allPos.foldl
      (fun q i => if (q.record ⟨c, i⟩).outOfService then q else q.compareSlot ⟨c, i⟩ p.minute)
      (p.updColumn c fun col => col.reconciled p.uptime p.minute) := rfl

/-- What the preparation of a column and the comparisons of its slots keep, its entry into RECONCILING keeps. -/
theorem Part.enterReconciling_keeps {P : Part → Prop} {c : ColId} (h : ∀ i, Part.CompareStable P ⟨c, i⟩) {p : Part}
    (hp : P (p.updColumn c fun col => col.reconciled p.uptime p.minute)) : P (p.enterReconciling c) := by
  rw [Part.enterReconciling_eq]
  refine foldl_induct _ (fun q i hq => ?_) hp
  split
  · exact hq
  · exact (h i).compareSlot hq _

/-! ## Settling while start-up is in progress -/

theorem Part.selection_of_starting {p : Part} (h : p.isReady = false) : p.selection = p := by
  simp [Part.selection, h]

/-- Of a part that is not ready, a settling lets columns enter RUNNING, starts readers and decides the drives; it makes no
selection (R60). -/
theorem Part.settle_of_starting {P : Part → Prop} (hready : ∀ q, P q → q.isReady = false)
    (hrun : ∀ q c, P q → q.mayRun c → P (q.runColumn c)) (hread : ∀ q c, P q → P (q.startReader c))
    (hdrive : ∀ q, P q → P q.decideDrives) {p : Part} (h : P p) : P p.settle := by
  unfold Part.settle
  split
  · exact hdrive _ h
  · refine hdrive _ (foldl_induct _ hread (foldl_induct _ (fun q c hq => ?_) h))
    by_cases hc : q.mayRun c
    · have hr := hrun q c hq hc
      rwa [Part.enterRunning_of_mayRun hc, Part.selection_of_starting (hready _ hr)]
    · rwa [Part.enterRunning_of_not hc]

/-! ## The frame of start-up -/

/-- What start-up decides in its first step and leaves alone afterwards. -/
structure StartFrame where
  uptime : Ms
  sched : Scheduler
  ring : List ClosingRecord
  closingSeq : Nat
  chute : Chute
  phase : Phase
  batteryIsLow : Bool
  mode : Mode
  branch : LineState
  service : LineState
  holdUntil : Option Ms
  unitAddress : Nat
  baudOpen : Bool
  reconciled : Bool
  supplyChanged : Bool
  lineOverrun : Bool
  units : List Nat

def Part.startFrame (p : Part) : StartFrame where
  uptime := p.uptime
  sched := p.sched
  ring := p.book.ring
  closingSeq := p.book.closingSeq
  chute := p.chute
  phase := p.supply.phase
  batteryIsLow := p.supply.batteryIsLow
  mode := p.supply.mode
  branch := p.lines.branch
  service := p.lines.service
  holdUntil := p.lines.holdUntil
  unitAddress := p.lines.unitAddress
  baudOpen := p.lines.baudOpen
  reconciled := p.lines.flags.reconciled
  supplyChanged := p.lines.flags.supplyChanged
  lineOverrun := p.lines.flags.lineOverrun
  units := p.fleet.map (·.unit)

section startFrame

variable (p : Part)

theorem Part.notice_flags (b : NoticeBody) :
    (p.notice b).lines.flags.reconciled = p.lines.flags.reconciled ∧
    (p.notice b).lines.flags.supplyChanged = p.lines.flags.supplyChanged ∧
    (p.notice b).lines.flags.lineOverrun = p.lines.flags.lineOverrun := by
  unfold Part.notice
  dsimp only
  split <;> simp

@[simp] theorem Part.notice_startFrame (b : NoticeBody) : (p.notice b).startFrame = p.startFrame := by
  simp [Part.startFrame, p.notice_flags b]

@[simp] theorem Part.announceRaise_startFrame (n : Nat) (k : AlarmKind) (x : Subject) :
    (p.announceRaise n k x).startFrame = p.startFrame :=
  p.notice_startFrame _

@[simp] theorem Part.makeAlarm_startFrame (k : AlarmKind) (x : Subject) : (p.makeAlarm k x).startFrame = p.startFrame := by
  unfold Part.makeAlarm
  exact Part.announceRaise_startFrame ..

@[simp] theorem Part.raise_startFrame (k : AlarmKind) (x : Subject) : (p.raise k x).startFrame = p.startFrame := by
  unfold Part.raise
  split
  · split
    · rfl
    · rfl
    · exact Part.announceRaise_startFrame ..
  · split
    · exact Part.makeAlarm_startFrame ..
    · split
      · exact Part.makeAlarm_startFrame ..
      · rfl

@[simp] theorem Part.endCondition_startFrame (k : AlarmKind) (x : Subject) :
    (p.endCondition k x).startFrame = p.startFrame := by
  unfold Part.endCondition
  split
  · rfl
  · split
    · exact Part.notice_startFrame ..
    · exact Part.notice_startFrame ..
    · rfl

@[simp] theorem Part.updColumn_startFrame (c : ColId) (f : Column → Column) :
    (p.updColumn c f).startFrame = p.startFrame := rfl

theorem Part.updVehicle_startFrame (u : Nat) {f : Vehicle → Vehicle} (hf : ∀ v, (f v).unit = v.unit) :
    (p.updVehicle u f).startFrame = p.startFrame := by
  have : (p.updVehicle u f).fleet.map (·.unit) = p.fleet.map (·.unit) := by
    rw [Part.updVehicle_fleet, List.map_map]
    refine List.map_congr_left fun v _ => ?_
    simp only [Function.comp_apply]
    split <;> simp [hf]
  simp only [Part.startFrame, this] <;> rfl

@[simp] theorem Part.setStatus_startFrame (u : Nat) (st : VehicleStatus) : (p.setStatus u st).startFrame = p.startFrame := by
  refine Part.updVehicle_startFrame _ _ ?_
  exact fun _ => rfl

@[simp] theorem Part.dropContractLink_startFrame (u : Nat) : (p.dropContractLink u).startFrame = p.startFrame := by
  refine Part.updVehicle_startFrame _ _ ?_
  exact fun _ => rfl

@[simp] theorem Part.escalate_startFrame (u : Nat) : (p.escalate u).startFrame = p.startFrame := by
  refine Part.updVehicle_startFrame _ _ ?_
  exact fun _ => rfl

@[simp] theorem Part.deleteContract_startFrame (n : Nat) : (p.deleteContract n).startFrame = p.startFrame := by
  unfold Part.deleteContract
  split
  · rfl
  · split
    · rfl
    · exact Part.dropContractLink_startFrame ..

@[simp] theorem Part.countSettled_startFrame (b : Bool) : (p.countSettled b).startFrame = p.startFrame := by
  unfold Part.countSettled
  split
  · split <;> rfl
  · rfl

theorem Part.startFrame_levelStable (F : StartFrame) : Part.LevelStable fun q => q.startFrame = F where
  notice := fun q b hq => (q.notice_startFrame b).trans hq
  raise := fun q k _ _ hq => (q.raise_startFrame k _).trans hq
  ends := fun q k _ _ hq => (q.endCondition_startFrame k _).trans hq
  escalate := fun q u hq => (q.escalate_startFrame u).trans hq

@[simp] theorem Part.activateContract_startFrame (n : Nat) (m : Minute) :
    (p.activateContract n m).startFrame = p.startFrame :=
  (Part.startFrame_levelStable p.startFrame).activateContract n m (fun _ _ _ _ => rfl) rfl

theorem Part.startFrame_compareStable (F : StartFrame) (x : SlotId) :
    Part.CompareStable (fun q => q.startFrame = F) x where
  custody := fun _ _ hq => hq
  recheck := fun _ hq => hq
  status := fun q u st hq => (q.setStatus_startFrame u st).trans hq
  stray := fun q _ hq => (q.raise_startFrame ..).trans hq
  ends := fun q _ _ hq => (q.endCondition_startFrame ..).trans hq
  delete := fun q n hq => (q.deleteContract_startFrame n).trans hq
  unlink := fun q u hq => (q.dropContractLink_startFrame u).trans hq
  notice := fun q b hq => (q.notice_startFrame b).trans hq
  count := fun q b hq => (q.countSettled_startFrame b).trans hq
  activate := fun q n m hq => (q.activateContract_startFrame n m).trans hq

@[simp] theorem Part.enterReconciling_startFrame (c : ColId) : (p.enterReconciling c).startFrame = p.startFrame :=
  Part.enterReconciling_keeps (P := fun q => q.startFrame = p.startFrame)
    (fun i => Part.startFrame_compareStable _ ⟨c, i⟩) rfl

theorem Part.enterReconciling_late (c : ColId) : (p.enterReconciling c).late = p.late := by
  rw [Part.enterReconciling_eq]
  refine foldl_induct (P := fun q : Part => q.late = p.late) _ (fun q i hq => ?_) rfl
  split
  · exact hq
  · simpa using hq

@[simp] theorem Part.followAudit_startFrame (c : ColId) : (p.followAudit c).startFrame = p.startFrame := by
  unfold Part.followAudit
  split <;> rfl

@[simp] theorem Part.runColumn_startFrame (c : ColId) : (p.runColumn c).startFrame = p.startFrame := by
  unfold Part.runColumn
  rw [Part.endCondition_startFrame, Part.followAudit_startFrame, Part.updColumn_startFrame]

@[simp] theorem Part.startReader_startFrame (c : ColId) : (p.startReader c).startFrame = p.startFrame := by
  unfold Part.startReader
  dsimp only
  repeat' split
  all_goals rfl

end startFrame

theorem Part.isReady_of_startFrame {p : Part} {F : StartFrame} (h : p.startFrame = F) (hF : F.phase ≠ .ready) :
    p.isReady = false := by
  have : p.supply.phase = F.phase := congrArg StartFrame.phase h
  simp [Part.isReady, this, hF]

/-- The settling of start-up keeps the frame, and what else the entries into RUNNING, the readers and the drives keep. -/
theorem Part.settle_of_startFrame {P : Part → Prop} {F : StartFrame} (hF : F.phase ≠ .ready)
    (hrun : ∀ q c, P q → q.mayRun c → P (q.runColumn c)) (hread : ∀ q c, P q → P (q.startReader c))
    (hdrive : ∀ q, P q → P q.decideDrives) {p : Part} (hp : p.startFrame = F) (h : P p) :
    p.settle.startFrame = F ∧ P p.settle :=
  Part.settle_of_starting (P := fun q => q.startFrame = F ∧ P q)
    (fun _ hq => Part.isReady_of_startFrame hq.1 hF)
    (fun q c hq hm => ⟨(q.runColumn_startFrame c).trans hq.1, hrun q c hq.2 hm⟩)
    (fun q c hq => ⟨(q.startReader_startFrame c).trans hq.1, hread q c hq.2⟩)
    (fun q hq => ⟨hq.1, hdrive q hq.2⟩) ⟨hp, h⟩

/-! ## The stages of start-up -/

theorem Column.mapSlots_eq (col : Column) (f : Slot → Slot) :
    col.mapSlots f = { col with slots := (col.mapSlots f).slots } :=
  foldl_induct (P := fun c : Column => c = { col with slots := c.slots }) _
    (fun c i hc => by rw [Column.updSlot, hc]) rfl

theorem Part.mapColumns_eq (p : Part) (f : ColId → Column → Column) :
    p.mapColumns f = { p with columns := (p.mapColumns f).columns } :=
  foldl_induct (P := fun q : Part => q = { p with columns := q.columns }) _
    (fun q c hq => by rw [Part.updColumn, hq]) rfl

/-- The frame of the first step of start-up (R149, R153, R154). -/
def Part.startingFrame (p : Part) (cause : Cause) (i : StartInputs) : StartFrame where
  uptime := 0
  sched := ⟨[], 0, [], []⟩
  ring := p.book.ring
  closingSeq := p.book.closingSeq
  chute := { p.chute with flapLocked := true, drop := none, drive := none }
  phase := .starting cause
  batteryIsLow := decide (p.supply.batteryPin < Config.batteryLow)
  mode := if p.supply.mainsPin then .mains
    else if decide (p.supply.batteryPin < Config.batteryLow) then .lowReserve else .reserve
  branch := p.lines.branch.cut
  service := p.lines.service.cut
  holdUntil := none
  unitAddress := i.straps.toNat + 1
  baudOpen := i.baudOpen
  reconciled := false
  supplyChanged := false
  lineOverrun := false
  units := p.fleet.map (·.unit)

/-- The lateness engine after the first step of start-up: no sweep, and a full walk wanted (R128, R131). -/
def Lateness.atStart (l : Lateness) : Lateness :=
  { l with sweepNumber := 0, sweep := none, latestSweep := none, pendingBoundary := false, fullWalk := true }

theorem Part.volatileStart_facts (p : Part) (cause : Cause) (i : StartInputs) :
    (p.volatileStart cause i).startFrame = p.startingFrame cause i ∧ (p.volatileStart cause i).fleet = p.fleet ∧
    (p.volatileStart cause i).book = p.book ∧ (p.volatileStart cause i).alarm = p.alarm ∧
    (p.volatileStart cause i).late = p.late.atStart ∧
    ∀ c, (p.volatileStart cause i).column c = (p.column c).volatileCleared := by
  have hcol := p.column_mapColumns fun _ col => col.volatileCleared
  have heq := p.mapColumns_eq fun _ col => col.volatileCleared
  unfold Part.volatileStart
  dsimp only
  generalize (p.mapColumns fun _ col => col.volatileCleared) = q at hcol heq ⊢
  have hq : q.fleet = p.fleet ∧ q.book = p.book ∧ q.alarm = p.alarm ∧ q.late = p.late ∧ q.chute = p.chute ∧
      q.lines = p.lines ∧ q.supply = p.supply := by rw [heq]; simp
  obtain ⟨hf, hb, ha, hl, hc, hn, hy⟩ := hq
  refine ⟨?_, hf, hb, ha, by rw [hl]; rfl, hcol⟩
  simp only [Part.startFrame, Part.startingFrame, hf, hb, hc, hn, hy, Flags.clear]

theorem Part.clockStopped_facts (p : Part) (failed : Bool) :
    (p.clockStopped failed).startFrame = p.startFrame ∧ (p.clockStopped failed).fleet = p.fleet ∧
    (p.clockStopped failed).book = p.book ∧ (p.clockStopped failed).alarm = p.alarm ∧
    (p.clockStopped failed).columns = p.columns ∧
    (p.clockStopped failed).late = (if failed then { p.late with count := Config.stoppedCount p.late.count } else p.late) := by
  unfold Part.clockStopped
  cases failed
  · exact ⟨rfl, rfl, rfl, rfl, rfl, rfl⟩
  · exact ⟨rfl, rfl, rfl, rfl, rfl, rfl⟩

@[simp] theorem Part.probePort_frame (i : StartInputs) (p : Part) (c : ColId) :
    (p.probePort i c).startFrame = p.startFrame ∧ (p.probePort i c).fleet = p.fleet ∧
    (p.probePort i c).book = p.book ∧ (p.probePort i c).late = p.late := by
  unfold Part.probePort
  split
  · exact ⟨rfl, rfl, rfl, rfl⟩
  · split
    · exact ⟨Part.raise_startFrame .., by simp, by simp, by simp⟩
    · exact ⟨rfl, rfl, rfl, rfl⟩

/-- A column whose port did not answer, as start-up leaves it: LOST where it is fitted, STOPPED otherwise (R18). -/
structure Column.asleep (before after : Column) : Prop where
  fitted : after.fitted = before.fitted
  engine : after.engine = if before.fitted then .lost else .stopped
  pointer : after.auditPointer = 23
  list : after.readList = []
  reader : after.reader = none
  audit : after.auditNext = none
  slots : ∀ i : PosId, after.slots[i].engine.latch = none ∧ after.slots[i].engine.qualified = none ∧
    after.slots[i].engine.candidate = none ∧ after.slots[i].engine.locateUntil = none ∧
    after.slots[i].record.unreachable = true ∧ after.slots[i].record.custody = before.slots[i].record.custody

/-- A column whose port answered, before it enters RECONCILING (R18). -/
structure Column.answering (before after : Column) : Prop where
  fitted : after.fitted = true
  pointer : after.auditPointer = 23
  audit : after.auditNext = none
  slots : ∀ i : PosId, after.slots[i].engine.locateUntil = none ∧ after.slots[i].record.unreachable = false ∧
    after.slots[i].record.custody = before.slots[i].record.custody

theorem Column.setUnreachable_get (col : Column) (b : Bool) (i : PosId) :
    (col.setUnreachable b).slots[i] = { col.slots[i] with record := { col.slots[i].record with unreachable := b } } :=
  Column.mapSlots_get ..

theorem Column.volatileCleared_get (col : Column) (i : PosId) :
    col.volatileCleared.slots[i] = col.slots[i].volatileCleared :=
  Column.mapSlots_get ..

theorem Column.setUnreachable_eq (col : Column) (b : Bool) :
    col.setUnreachable b = { col with slots := (col.setUnreachable b).slots } :=
  Column.mapSlots_eq ..

theorem Column.setUnreachable_frame (col : Column) (b : Bool) :
    (col.setUnreachable b).engine = col.engine ∧ (col.setUnreachable b).nextProbe = col.nextProbe := by
  rw [Column.setUnreachable_eq]
  exact ⟨rfl, rfl⟩

theorem Column.volatileCleared_fitted (col : Column) : col.volatileCleared.fitted = col.fitted := by
  rw [Column.volatileCleared, Column.mapSlots_eq]

theorem Column.volatileCleared_frame (col : Column) :
    col.volatileCleared.engine = .stopped ∧ col.volatileCleared.auditPointer = 23 ∧
    col.volatileCleared.readList = [] ∧ col.volatileCleared.reader = none ∧ col.volatileCleared.auditNext = none :=
  ⟨rfl, rfl, rfl, rfl, rfl⟩

/-- What the probe of a port does to its column. -/
theorem Part.probePort_column {p : Part} {i : StartInputs} {c : ColId} {before : Column}
    (h : p.column c = before.volatileCleared) :
    (i.answers.getLsbD c.val = true → before.answering ((p.probePort i c).column c)) ∧
    (i.answers.getLsbD c.val = false → before.asleep ((p.probePort i c).column c)) := by
  have hf : (p.column c).fitted = before.fitted := by rw [h, Column.volatileCleared_fitted]
  constructor
  · intro ha
    have hc : (p.probePort i c).column c = { (p.column c).setUnreachable false with fitted := true } := by
      rw [Part.probePort, if_pos ha, Part.column_updColumn_self]
    rw [hc, h, Column.setUnreachable_eq]
    refine ⟨rfl, rfl, rfl, fun j => ?_⟩
    dsimp only
    rw [Column.setUnreachable_get, Column.volatileCleared_get]
    exact ⟨rfl, rfl, rfl⟩
  · intro ha
    have hc : ∃ n, (p.probePort i c).column c = { (p.column c).setUnreachable true with
        engine := if before.fitted then .lost else (p.column c).engine, nextProbe := n } := by
      rw [Part.probePort, if_neg (by rw [ha]; exact Bool.false_ne_true), hf]
      cases before.fitted with
      | true =>
        refine ⟨p.uptime + Config.probePeriod, ?_⟩
        rw [if_pos rfl, Part.column_congr (Part.raise_frame ..).2.1, Part.column_updColumn_self]
        rfl
      | false =>
        refine ⟨(p.column c).nextProbe, ?_⟩
        obtain ⟨h1, h2⟩ := Column.setUnreachable_frame (p.column c) true
        rw [if_neg Bool.false_ne_true, Part.column_updColumn_self]
        generalize (p.column c).setUnreachable true = w at h1 h2
        rw [if_neg Bool.false_ne_true, ← h1, ← h2]
    obtain ⟨n, hc⟩ := hc
    rw [hc, h, Column.setUnreachable_eq]
    have hfit := Column.volatileCleared_fitted before
    obtain ⟨h1, h2, h3, h4, h5⟩ := Column.volatileCleared_frame before
    constructor <;> dsimp only
    case fitted => exact hfit
    case engine => rw [h1]
    case pointer => exact h2
    case list => exact h3
    case reader => exact h4
    case audit => exact h5
    intro j
    rw [Column.setUnreachable_get, Column.volatileCleared_get]
    exact ⟨rfl, rfl, rfl, rfl, rfl, rfl⟩

theorem Part.probePort_column_of_ne (i : StartInputs) (p : Part) {c d : ColId} (h : c ≠ d) :
    (p.probePort i c).column d = p.column d := by
  unfold Part.probePort
  split
  · exact Part.column_updColumn_of_ne _ _ h
  · split
    · rw [Part.column_congr (Part.raise_frame ..).2.1]
      exact Part.column_updColumn_of_ne _ _ h
    · exact Part.column_updColumn_of_ne _ _ h

/-- Start-up up to the end of step 2: the ports are probed. -/
def Part.probed (p : Part) (cause : Cause) (i : StartInputs) (failed : Bool) : Part :=
  allCols.foldl (Part.probePort i) ((p.volatileStart cause i).clockStopped failed)

/-- Start-up up to the end of step 5: the clock checked, the supply alarms in line and the tables prepared. -/
def Part.prepared (p : Part) (cause : Cause) (i : StartInputs) (failed : Bool) : Part :=
  (((p.probed cause i failed).clockCheck failed).supplyAlarmsAtStart).prepareTables

theorem Part.startUp_eq (p : Part) (cause : Cause) (i : StartInputs) (failed : Bool) :
    p.startUp cause i failed =
      ((allCols.filter fun c => i.answers.getLsbD c.val).foldl Part.enterReconciling (p.prepared cause i failed)).settle :=
  rfl

theorem Part.probed_column (p : Part) (cause : Cause) (i : StartInputs) (failed : Bool) (c : ColId) :
    (i.answers.getLsbD c.val = true → (p.column c).answering ((p.probed cause i failed).column c)) ∧
    (i.answers.getLsbD c.val = false → (p.column c).asleep ((p.probed cause i failed).column c)) := by
  obtain ⟨q, hq, he⟩ := (foldl_columns (f := Part.probePort i) (fun q _ _ h => q.probePort_column_of_ne i h) allCols_nodup
    ((p.volatileStart cause i).clockStopped failed) c).2 (mem_allCols c)
  rw [Part.probed, he]
  refine Part.probePort_column (hq.trans ?_)
  rw [Part.column_congr (Part.clockStopped_facts ..).2.2.2.2.1]
  exact (Part.volatileStart_facts ..).2.2.2.2.2 c

/-- The lateness engine where its clock is checked: the count that stopped is written over. -/
def Lateness.stopped (l : Lateness) (failed : Bool) : Lateness :=
  if failed then { l.atStart with count := Config.stoppedCount l.atStart.count } else l.atStart

theorem Part.probed_frame (p : Part) (cause : Cause) (i : StartInputs) (failed : Bool) :
    (p.probed cause i failed).startFrame = p.startingFrame cause i ∧ (p.probed cause i failed).fleet = p.fleet ∧
    (p.probed cause i failed).book = p.book ∧ (p.probed cause i failed).late = p.late.stopped failed := by
  obtain ⟨h1, h2, h3, -, h5, -⟩ := p.volatileStart_facts cause i
  obtain ⟨c1, c2, c3, -, -, c5⟩ := (p.volatileStart cause i).clockStopped_facts failed
  rw [h1] at c1
  rw [h2] at c2
  rw [h3] at c3
  rw [h5] at c5
  exact foldl_induct (P := fun q : Part => q.startFrame = p.startingFrame cause i ∧ q.fleet = p.fleet ∧ q.book = p.book ∧
    q.late = p.late.stopped failed) _ (fun q c hq => by simpa using hq) ⟨c1, c2, c3, c5⟩

/-- What the clock check leaves of the lateness engine (R118). -/
def Lateness.checked (l : Lateness) (failed : Bool) : Lateness :=
  if failed then
    { l.atStart with
      count := BitVec.ofNat 32 (l.retainedMinute * 60), subMs := 0
      clock := if l.clock = .unset then .unset else .suspect }
  else l.atStart

theorem Part.clockCheck_frame (p : Part) (failed : Bool) :
    (p.clockCheck failed).startFrame = p.startFrame ∧ (p.clockCheck failed).fleet = p.fleet ∧
    (p.clockCheck failed).book = p.book ∧ (p.clockCheck failed).columns = p.columns := by
  unfold Part.clockCheck
  dsimp only
  split
  · split
    · exact ⟨rfl, rfl, rfl, rfl⟩
    · exact ⟨Part.raise_startFrame .., by simp, by simp, by simp⟩
  · exact ⟨rfl, rfl, rfl, rfl⟩

theorem Part.clockCheck_late {p : Part} {l : Lateness} {failed : Bool} (h : p.late = l.stopped failed) :
    (p.clockCheck failed).late = l.checked failed := by
  cases failed with
  | false => exact h
  | true =>
    unfold Part.clockCheck
    rw [if_pos rfl]
    dsimp only
    rw [h]
    by_cases hc : l.clock = .unset
    · rw [if_pos (show (l.stopped true).clock = .unset from hc)]
      simp [Lateness.checked, Lateness.stopped, Lateness.atStart, hc]
    · rw [if_neg (show ¬ (l.stopped true).clock = .unset from hc), (Part.raise_frame ..).2.2.2.2.2.2.1]
      simp [Lateness.checked, Lateness.stopped, Lateness.atStart, hc]

@[simp] theorem Part.supplyAlarmsAtStart_frame (p : Part) :
    p.supplyAlarmsAtStart.startFrame = p.startFrame ∧ p.supplyAlarmsAtStart.fleet = p.fleet ∧
    p.supplyAlarmsAtStart.book = p.book ∧ p.supplyAlarmsAtStart.columns = p.columns ∧
    p.supplyAlarmsAtStart.late = p.late := by
  unfold Part.supplyAlarmsAtStart
  dsimp only
  repeat' split
  all_goals simp

/-- The tables as the fold over the PENDING contracts finds them: links, marks and requests dropped (R43, R80). -/
def Part.cleanTables (p : Part) : Part :=
  { p with
    fleet := p.fleet.map Vehicle.unlinked
    book := { p.book with contracts := p.book.contracts.map Contract.started }
    late := { p.late with fullWalk := true } }

theorem Part.prepareTables_eq (p : Part) :
    p.prepareTables = p.cleanTables.book.contracts.foldl Part.examinePending p.cleanTables := rfl

theorem Part.cleanTables_startFrame (p : Part) : p.cleanTables.startFrame = p.startFrame := by
  simp [Part.startFrame, Part.cleanTables, Function.comp_def, Vehicle.unlinked]

theorem Part.cleanTables_late {p : Part} {l : Lateness} {failed : Bool} (h : p.late = l.checked failed) :
    p.cleanTables.late = l.checked failed := by
  rw [Part.cleanTables, h]
  cases failed <;> rfl

@[simp] theorem Part.examinePending_frame (p : Part) (c : Contract) :
    (p.examinePending c).startFrame = p.startFrame ∧ (p.examinePending c).columns = p.columns ∧
    (p.examinePending c).late = p.late ∧ (p.examinePending c).alarm = p.alarm := by
  unfold Part.examinePending
  dsimp only
  split
  · exact ⟨rfl, rfl, rfl, rfl⟩
  · split
    · exact ⟨rfl, rfl, rfl, rfl⟩
    · simp

theorem Part.prepareTables_frame (p : Part) :
    p.prepareTables.startFrame = p.startFrame ∧ p.prepareTables.columns = p.columns ∧
    p.prepareTables.late = p.cleanTables.late ∧ p.prepareTables.alarm = p.alarm := by
  rw [Part.prepareTables_eq]
  exact foldl_induct (P := fun q : Part => q.startFrame = p.startFrame ∧ q.columns = p.columns ∧
    q.late = p.cleanTables.late ∧ q.alarm = p.alarm) _ (fun q c hq => by simpa using hq)
    ⟨p.cleanTables_startFrame, rfl, rfl, rfl⟩

/-- What the preparation leaves: the frame of start-up, the clock checked and the columns as they were probed. -/
theorem Part.prepared_frame (p : Part) (cause : Cause) (i : StartInputs) (failed : Bool) :
    (p.prepared cause i failed).startFrame = p.startingFrame cause i ∧
    (p.prepared cause i failed).late = p.late.checked failed ∧
    (p.prepared cause i failed).columns = (p.probed cause i failed).columns := by
  obtain ⟨h1, -, -, h4⟩ := p.probed_frame cause i failed
  obtain ⟨c1, -, -, c4⟩ := (p.probed cause i failed).clockCheck_frame failed
  obtain ⟨s1, -, -, s4, s5⟩ := ((p.probed cause i failed).clockCheck failed).supplyAlarmsAtStart_frame
  obtain ⟨t1, t2, t3, -⟩ := ((p.probed cause i failed).clockCheck failed).supplyAlarmsAtStart.prepareTables_frame
  refine ⟨t1.trans (s1.trans (c1.trans h1)), t3.trans ?_, t2.trans (s4.trans c4)⟩
  exact Part.cleanTables_late (s5.trans (Part.clockCheck_late h4))

/-- What the end of the preparation, the entries into RECONCILING of the columns that answered, the entries into RUNNING,
the readers and the drives each keep, start-up leaves. -/
theorem Part.startUp_keeps {P : Part → Prop} {p : Part} {cause : Cause} {i : StartInputs} {failed : Bool}
    (hp : P (p.prepared cause i failed))
    (hrec : ∀ q c, i.answers.getLsbD c.val = true → P q → P (q.enterReconciling c))
    (hrun : ∀ q c, P q → q.mayRun c → P (q.runColumn c)) (hread : ∀ q c, P q → P (q.startReader c))
    (hdrive : ∀ q, P q → P q.decideDrives) : P (p.startUp cause i failed) := by
  have hrecs : ∀ (l : List ColId) (q : Part), (∀ c ∈ l, i.answers.getLsbD c.val = true) →
      (q.startFrame = p.startingFrame cause i ∧ P q) →
      (l.foldl Part.enterReconciling q).startFrame = p.startingFrame cause i ∧ P (l.foldl Part.enterReconciling q) := by
    intro l
    induction l with
    | nil => exact fun q _ hq => hq
    | cons c l ih =>
      intro q hl hq
      rw [List.foldl_cons]
      refine ih (q.enterReconciling c) (fun d hd => hl d (List.mem_cons_of_mem _ hd)) ⟨(q.enterReconciling_startFrame c).trans hq.1, ?_⟩
      exact hrec q c (hl c (List.mem_cons_self ..)) hq.2
  obtain ⟨hf, hP⟩ := hrecs (allCols.filter fun c => i.answers.getLsbD c.val) _
    (fun c hc => (List.mem_filter.mp hc).2) ⟨(p.prepared_frame cause i failed).1, hp⟩
  rw [Part.startUp_eq]
  exact (Part.settle_of_startFrame (by simp [Part.startingFrame]) hrun hread hdrive hf hP).2

theorem Part.startUp_startFrame (p : Part) (cause : Cause) (i : StartInputs) (failed : Bool) :
    (p.startUp cause i failed).startFrame = p.startingFrame cause i ∧
    (p.startUp cause i failed).late = p.late.checked failed := by
  refine Part.startUp_keeps (P := fun q => q.startFrame = p.startingFrame cause i ∧ q.late = p.late.checked failed)
    ⟨(p.prepared_frame cause i failed).1, (p.prepared_frame cause i failed).2.1⟩ ?_ ?_ ?_ ?_
  · exact fun q c _ hq => ⟨(q.enterReconciling_startFrame c).trans hq.1, (q.enterReconciling_late c).trans hq.2⟩
  · exact fun q c hq _ => ⟨(q.runColumn_startFrame c).trans hq.1, (q.runColumn_frame c).2.2.2.2.2.1.trans hq.2⟩
  · exact fun q c hq => ⟨(q.startReader_startFrame c).trans hq.1, (q.startReader_frame c).2.2.2.2.2.1.trans hq.2⟩
  · exact fun q hq => hq

/-! ## The columns in start-up -/

/-- A property of the columns is kept by a comparison that its changes of the slot and of the reads keep. -/
theorem Part.compareStable_of_columns {P : Part → Prop} {x : SlotId}
    (hcongr : ∀ p q : Part, q.columns = p.columns → P p → P q) (hcustody : ∀ q k, P q → P (q.setCustody x k))
    (hrecheck : ∀ q, P q → P (q.placeRecheck x)) : Part.CompareStable P x where
  custody := hcustody
  recheck := hrecheck
  status := fun q _ _ hq => hcongr q _ (by simp) hq
  stray := fun q _ hq => hcongr q _ (by simp) hq
  ends := fun q _ _ hq => hcongr q _ (by simp) hq
  delete := fun q _ hq => hcongr q _ (by simp) hq
  unlink := fun q _ hq => hcongr q _ (by simp) hq
  notice := fun q _ hq => hcongr q _ (by simp) hq
  count := fun q _ hq => hcongr q _ (by simp) hq
  activate := fun q _ _ hq => hcongr q _ (by simp) hq

/-- The entry of a column into RECONCILING leaves the others alone. -/
theorem Part.enterReconciling_column_of_ne (p : Part) {c d : ColId} (h : c ≠ d) :
    (p.enterReconciling c).column d = p.column d := by
  refine Part.enterReconciling_keeps (P := fun q => q.column d = p.column d) (fun i => ?_)
    (Part.column_updColumn_of_ne _ _ h)
  refine Part.compareStable_of_columns (fun q q' hc hq => (Part.column_congr hc d).trans hq) (fun q k hq => ?_) fun q hq => ?_
  · exact (Part.column_updSlot_of_ne q _ h).trans hq
  · exact (Part.column_updColumn_of_ne q _ h).trans hq

theorem Part.followAudit_column_of_ne (p : Part) {c d : ColId} (h : c ≠ d) : (p.followAudit c).column d = p.column d := by
  unfold Part.followAudit
  split
  · exact Part.column_updColumn_of_ne _ _ h
  · rfl
  · rfl
  · exact Part.column_updColumn_of_ne _ _ h

theorem Part.runColumn_column_of_ne (p : Part) {c d : ColId} (h : c ≠ d) : (p.runColumn c).column d = p.column d := by
  unfold Part.runColumn
  rw [Part.column_congr (Part.endCondition_frame ..).2.1, Part.followAudit_column_of_ne _ h,
    Part.column_updColumn_of_ne _ _ h]

/-- The audit of a column whose timer does not run starts or stays stopped, and the pointer stays (R37). -/
theorem Part.followAudit_of_none {p : Part} {c : ColId} (h : (p.column c).auditNext = none) :
    ∃ n, (p.followAudit c).column c = { p.column c with auditNext := n } := by
  unfold Part.followAudit
  rw [h]
  split
  · exact ⟨_, Part.column_updColumn_self ..⟩
  next e => simp at e
  · exact ⟨none, by rw [← h]⟩
  next e => simp at e

/-- A column that enters RUNNING with its audit stopped: its audit may start. -/
theorem Part.runColumn_column_of_none {p : Part} {c : ColId} (h : (p.column c).auditNext = none) :
    ∃ n, (p.runColumn c).column c = { p.column c with engine := .running, auditNext := n } := by
  have hc : (p.updColumn c fun col => { col with engine := .running }).column c = { p.column c with engine := .running } :=
    Part.column_updColumn_self ..
  obtain ⟨n, hn⟩ := Part.followAudit_of_none (p := p.updColumn c fun col => { col with engine := .running }) (by rw [hc]; exact h)
  refine ⟨n, ?_⟩
  rw [Part.runColumn, Part.column_congr (Part.endCondition_frame ..).2.1, hn, hc]

theorem Part.startReader_column_of_ne (p : Part) {c d : ColId} (h : c ≠ d) : (p.startReader c).column d = p.column d := by
  unfold Part.startReader
  dsimp only
  split
  · split
    · rfl
    · exact Part.column_updColumn_of_ne _ _ h
  · rfl

theorem Part.startReader_of_asleep {p : Part} {c : ColId} (h : (p.column c).engine.watches = false) :
    p.startReader c = p := by
  simp [Part.startReader, h]

/-- What the end of the preparation, the entries into RECONCILING and into RUNNING of the columns that answered, the readers
and the drives each keep, start-up leaves; and the columns that did not answer stay as the probes left them. -/
theorem Part.startUp_answered {P : Part → Prop} {p : Part} {cause : Cause} {i : StartInputs} {failed : Bool}
    (hp : P (p.prepared cause i failed))
    (hrec : ∀ q c, i.answers.getLsbD c.val = true → P q → P (q.enterReconciling c))
    (hrun : ∀ q c, i.answers.getLsbD c.val = true → P q → q.mayRun c → P (q.runColumn c))
    (hread : ∀ q c, P q → P (q.startReader c)) (hdrive : ∀ q, P q → P q.decideDrives) :
    P (p.startUp cause i failed) ∧ ∀ c, i.answers.getLsbD c.val = false →
      (p.startUp cause i failed).column c = (p.probed cause i failed).column c := by
  have hstill : ∀ c, i.answers.getLsbD c.val = false → ((p.probed cause i failed).column c).engine.watches = false := by
    intro c hc
    rw [((p.probed_column cause i failed c).2 hc).engine]
    split <;> rfl
  refine Part.startUp_keeps (P := fun q => P q ∧ ∀ c, i.answers.getLsbD c.val = false →
    q.column c = (p.probed cause i failed).column c)
    ⟨hp, fun c _ => Part.column_congr (p.prepared_frame cause i failed).2.2 c⟩ ?_ ?_ ?_ ?_
  · rintro q d hd ⟨hq, hcols⟩
    refine ⟨hrec q d hd hq, fun c hc => (q.enterReconciling_column_of_ne ?_).trans (hcols c hc)⟩
    rintro rfl
    rw [hc] at hd
    exact Bool.false_ne_true hd
  · rintro q d ⟨hq, hcols⟩ hm
    have hd : i.answers.getLsbD d.val = true := by
      by_contra hn
      have hn := Bool.eq_false_of_not_eq_true hn
      have hw := hstill d hn
      rw [← hcols d hn, hm.1] at hw
      simp [EngineState.watches] at hw
    refine ⟨hrun q d hd hq hm, fun c hc => (q.runColumn_column_of_ne ?_).trans (hcols c hc)⟩
    rintro rfl
    rw [hc] at hd
    exact Bool.false_ne_true hd
  · rintro q d ⟨hq, hcols⟩
    refine ⟨hread q d hq, fun c hc => ?_⟩
    rcases eq_or_ne d c with rfl | hne
    · rw [Part.startReader_of_asleep (by rw [hcols d hc]; exact hstill d hc)]
      exact hcols d hc
    · exact (q.startReader_column_of_ne hne).trans (hcols c hc)
  · rintro q ⟨hq, hcols⟩
    exact ⟨hdrive q hq, hcols⟩

/-- A column whose port did not answer is LOST or STOPPED after start-up, with its slots unwatched (R18). -/
theorem Part.startUp_asleep {p : Part} {cause : Cause} {i : StartInputs} {failed : Bool} {c : ColId}
    (h : i.answers.getLsbD c.val = false) : (p.column c).asleep ((p.startUp cause i failed).column c) := by
  rw [(Part.startUp_answered (P := fun _ => True) trivial (fun _ _ _ _ => trivial) (fun _ _ _ _ _ => trivial)
    (fun _ _ _ => trivial) fun _ _ => trivial).2 c h]
  exact (p.probed_column cause i failed c).2 h

/-- A column whose port answered, from its entry into RECONCILING on. -/
structure Column.awake (col : Column) : Prop where
  fitted : col.fitted = true
  pointer : col.auditPointer = 23
  engine : (col.engine = .reconciling ∧ col.auditNext = none) ∨ col.engine = .running
  slots : ∀ i : PosId, col.slots[i].engine.locateUntil = none ∧ col.slots[i].record.unreachable = false

theorem Column.awake.of_slots {col col' : Column} (h : col.awake) (hf : col'.fitted = col.fitted)
    (hp : col'.auditPointer = col.auditPointer) (he : col'.engine = col.engine) (ha : col'.auditNext = col.auditNext)
    (hs : ∀ i : PosId, col'.slots[i].engine.locateUntil = none ∧ col'.slots[i].record.unreachable = false) : col'.awake :=
  ⟨hf.trans h.fitted, hp.trans h.pointer, by rw [he, ha]; exact h.engine, hs⟩

theorem Column.awake.setCustody {col : Column} (h : col.awake) (j : PosId) (k : Custody) :
    (col.updSlot j fun x => { x with record := { x.record with custody := k } }).awake := by
  refine h.of_slots rfl rfl rfl rfl fun i => ?_
  rw [Column.updSlot_slots_get]
  split
  · exact h.slots j
  · exact h.slots i

theorem Column.place_retained (col : Column) (i : PosId) (x : Purpose) :
    (col.place i x).fitted = col.fitted ∧ (col.place i x).auditPointer = col.auditPointer ∧
    (col.place i x).auditNext = col.auditNext := by
  unfold Column.place
  repeat' split
  all_goals exact ⟨rfl, rfl, rfl⟩

theorem Column.awake.placeRecheck {col : Column} (h : col.awake) (i : PosId) (l : List PosId) :
    ({ col.place i .recheck with unreconciled := l } : Column).awake := by
  obtain ⟨h1, h2, h3⟩ := col.place_retained i .recheck
  refine h.of_slots h1 h2 (col.place_frame i .recheck).1 h3 fun j => ?_
  dsimp only
  rw [Column.place_slots]
  exact h.slots j

theorem Column.reconciled_get (col : Column) (now : Ms) (m : Minute) (i : PosId) :
    (col.reconciled now m).slots[i] = col.slots[i].reconciling now :=
  Column.mapSlots_get ..

/-- The column of a port that answered enters RECONCILING awake. -/
theorem Column.answering.reconciled {before col : Column} (h : before.answering col) (now : Ms) (m : Minute) :
    (col.reconciled now m).awake := by
  have hm : col.mapSlots (Slot.reconciling now) = { col with slots := (col.mapSlots (Slot.reconciling now)).slots } :=
    Column.mapSlots_eq ..
  have hf : (col.reconciled now m).fitted = col.fitted ∧ (col.reconciled now m).auditPointer = col.auditPointer ∧
      (col.reconciled now m).auditNext = col.auditNext := by
    rw [Column.reconciled, hm]
    exact ⟨rfl, rfl, rfl⟩
  refine ⟨hf.1.trans h.fitted, hf.2.1.trans h.pointer, .inl ⟨rfl, hf.2.2.trans h.audit⟩, fun i => ?_⟩
  rw [Column.reconciled_get]
  exact ⟨(h.slots i).1, rfl⟩

theorem Part.enterReconciling_awake {p : Part} {c : ColId} {before : Column} (h : before.answering (p.column c)) :
    ((p.enterReconciling c).column c).awake := by
  refine Part.enterReconciling_keeps (P := fun q => (q.column c).awake) (fun i => ?_) ?_
  · refine Part.compareStable_of_columns (fun q q' hc hq => by rwa [Part.column_congr hc]) (fun q k hq => ?_) fun q hq => ?_
    · exact Part.updColumn_keeps (K := Column.awake) (fun hc => hc.setCustody i k) hq
    · exact Part.updColumn_keeps (K := Column.awake) (fun hc => hc.placeRecheck i _) hq
  · rw [Part.column_updColumn_self]
    exact h.reconciled ..

/-- A column whose port answered is RECONCILING or RUNNING after start-up (R19, R158). -/
theorem Part.startUp_awake {p : Part} {cause : Cause} {i : StartInputs} {failed : Bool} {c : ColId}
    (h : i.answers.getLsbD c.val = true) : ((p.startUp cause i failed).column c).awake := by
  have hnodup : (allCols.filter fun c => i.answers.getLsbD c.val).Nodup := allCols_nodup.filter _
  obtain ⟨q, hq, he⟩ := (foldl_columns (f := Part.enterReconciling) (fun q _ _ hne => q.enterReconciling_column_of_ne hne)
    hnodup (p.prepared cause i failed) c).2 (List.mem_filter.mpr ⟨mem_allCols c, h⟩)
  have hframe := foldl_induct (P := fun q : Part => q.startFrame = p.startingFrame cause i)
    (allCols.filter fun c => i.answers.getLsbD c.val) (fun q c hq => (q.enterReconciling_startFrame c).trans hq)
    (p.prepared_frame cause i failed).1
  have hans : (p.column c).answering (q.column c) := by
    rw [hq, Part.column_congr (p.prepared_frame cause i failed).2.2]
    exact (p.probed_column cause i failed c).1 h
  have hawake := Part.enterReconciling_awake hans
  rw [← he] at hawake
  rw [Part.startUp_eq]
  refine (Part.settle_of_startFrame (P := fun q => (q.column c).awake) (by simp [Part.startingFrame])
    (fun q d hq hm => ?_) (fun q d hq => ?_) (fun q hq => hq) hframe hawake).2
  · rcases eq_or_ne d c with rfl | hne
    · have ha : (q.column d).auditNext = none := by
        rcases hq.engine with he | he
        · exact he.2
        · simp [hm.1] at he
      obtain ⟨n, hn⟩ := Part.runColumn_column_of_none ha
      rw [hn]
      exact ⟨hq.fitted, hq.pointer, .inr rfl, hq.slots⟩
    · rwa [q.runColumn_column_of_ne hne]
  · rcases eq_or_ne d c with rfl | hne
    · unfold Part.startReader
      dsimp only
      split
      · split
        · exact hq
        · exact Part.updColumn_keeps (K := Column.awake) (fun hc => hc.of_slots rfl rfl rfl rfl hc.slots) hq
      · exact hq
    · rwa [q.startReader_column_of_ne hne]

/-! ## The alarms in start-up -/

theorem Part.raise_length (p : Part) (k : AlarmKind) (x : Subject) :
    (p.raise k x).alarm.list.length ≤ p.alarm.list.length + 1 := by
  unfold Part.raise
  split
  · split
    · omega
    · omega
    · rw [(Part.announceRaise_frame ..).2.2.2.2.2.2.2.1, Part.updAlarm_list, List.length_map]
      omega
  · split
    · rw [Part.makeAlarm_list]
      simp
    · split
      · rw [Part.makeAlarm_list]
        simpa using List.length_filter_le _ _
      · exact Nat.le_succ _

theorem Part.probePort_alarm (i : StartInputs) (p : Part) (c : ColId) :
    (p.probePort i c).alarm = p.alarm ∨ ∃ q : Part, q.alarm = p.alarm ∧ p.probePort i c = q.raise .columnLost (.column c) := by
  unfold Part.probePort
  split
  · exact .inl rfl
  · split
    · refine .inr ⟨_, ?_, rfl⟩
      rfl
    · exact .inl rfl

/-- A probe adds one alarm record at most. -/
theorem Part.probePort_alarms {p : Part} (h : p.alarmsDistinct) (i : StartInputs) (c : ColId) :
    (p.probePort i c).alarmsDistinct ∧ (p.probePort i c).alarm.list.length ≤ p.alarm.list.length + 1 := by
  rcases p.probePort_alarm i c with e | ⟨q, hq, e⟩
  · exact ⟨h.of_list (by rw [e]), by rw [e]; omega⟩
  · rw [e, ← hq]
    exact ⟨(h.of_list (q := q) (by rw [hq])).raise, q.raise_length ..⟩

theorem Part.sounds.probePort {p : Part} {k : AlarmKind} {x : Subject} (h : p.sounds k x) (i : StartInputs) (c : ColId) :
    (p.probePort i c).sounds k x := by
  rcases p.probePort_alarm i c with e | ⟨q, hq, e⟩
  · exact h.of_alarm (by rw [e])
  · rw [e]
    exact (h.of_alarm (q := q) (by rw [hq])).raise ..

theorem Part.probePorts_alarms (i : StartInputs) (l : List ColId) {p : Part} (h : p.alarmsDistinct) :
    (l.foldl (Part.probePort i) p).alarmsDistinct ∧
    (l.foldl (Part.probePort i) p).alarm.list.length ≤ p.alarm.list.length + l.length := by
  induction l generalizing p with
  | nil => exact ⟨h, Nat.le_refl _⟩
  | cons c l ih =>
    obtain ⟨h1, h2⟩ := Part.probePort_alarms h i c
    obtain ⟨ih1, ih2⟩ := ih h1
    rw [List.foldl_cons, List.length_cons]
    exact ⟨ih1, by omega⟩

/-- COLUMN_LOST stands for a fitted column whose port did not answer, where there is room for the records (R18). -/
theorem Part.probePorts_sounds {i : StartInputs} {c : ColId} (ha : i.answers.getLsbD c.val = false) (l : List ColId)
    {p : Part} (hd : p.alarmsDistinct) (hl : p.alarm.list.length + l.length ≤ 48) (hf : (p.column c).fitted = true)
    (hc : c ∈ l) : (l.foldl (Part.probePort i) p).sounds .columnLost (.column c) := by
  induction l generalizing p with
  | nil => simp at hc
  | cons d l ih =>
    rw [List.foldl_cons]
    rw [List.length_cons] at hl
    rcases eq_or_ne d c with rfl | hne
    · refine foldl_induct (P := fun q : Part => q.sounds .columnLost (.column d)) l (fun q b hq => hq.probePort i b) ?_
      rw [Part.probePort, if_neg (by rw [ha]; exact Bool.false_ne_true), if_pos hf]
      exact Part.sounds_raise (hd.of_list rfl) (by rw [Part.updColumn_alarm]; omega)
    · obtain ⟨h1, h2⟩ := Part.probePort_alarms hd i d
      refine ih h1 (by omega) ?_ ((List.mem_cons.mp hc).resolve_left hne.symm)
      rwa [p.probePort_column_of_ne i hne]

theorem Part.probed_alarms {p : Part} (h : p.alarmsDistinct) (cause : Cause) (i : StartInputs) (failed : Bool) :
    (p.probed cause i failed).alarmsDistinct ∧
    (p.probed cause i failed).alarm.list.length ≤ p.alarm.list.length + 16 := by
  have hl : ((p.volatileStart cause i).clockStopped failed).alarm.list = p.alarm.list := by
    rw [(Part.clockStopped_facts ..).2.2.2.1, (Part.volatileStart_facts ..).2.2.2.1]
  have := Part.probePorts_alarms i allCols (h.of_list hl)
  rw [hl] at this
  exact this

theorem Part.probed_sounds {p : Part} (h : p.alarmsDistinct) (hl : p.alarm.list.length ≤ 30) (cause : Cause)
    {i : StartInputs} (failed : Bool) {c : ColId} (ha : i.answers.getLsbD c.val = false)
    (hf : (p.column c).fitted = true) : (p.probed cause i failed).sounds .columnLost (.column c) := by
  have hlist : ((p.volatileStart cause i).clockStopped failed).alarm.list = p.alarm.list := by
    rw [(Part.clockStopped_facts ..).2.2.2.1, (Part.volatileStart_facts ..).2.2.2.1]
  refine Part.probePorts_sounds ha allCols (h.of_list hlist) ?_ ?_ (mem_allCols c)
  · have : allCols.length = 16 := rfl
    rw [hlist, this]
    omega
  · rw [Part.column_congr (Part.clockStopped_facts ..).2.2.2.2.1, (Part.volatileStart_facts ..).2.2.2.2.2,
      Column.volatileCleared_fitted, hf]

theorem Part.clockCheck_alarm (p : Part) (failed : Bool) :
    (p.clockCheck failed).alarm = p.alarm ∨ ∃ q : Part, q.alarm = p.alarm ∧ p.clockCheck failed = q.raise .clockSuspect .clock := by
  unfold Part.clockCheck
  dsimp only
  split
  · split
    · exact .inl rfl
    · refine .inr ⟨_, ?_, rfl⟩
      rfl
  · exact .inl rfl

theorem Part.alarmsDistinct.clockCheck {p : Part} (h : p.alarmsDistinct) (failed : Bool) :
    (p.clockCheck failed).alarmsDistinct := by
  rcases p.clockCheck_alarm failed with e | ⟨q, hq, e⟩
  · exact h.of_list (by rw [e])
  · rw [e]
    exact (h.of_list (q := q) (by rw [hq])).raise

theorem Part.sounds.clockCheck {p : Part} {k : AlarmKind} {x : Subject} (h : p.sounds k x) (failed : Bool) :
    (p.clockCheck failed).sounds k x := by
  rcases p.clockCheck_alarm failed with e | ⟨q, hq, e⟩
  · exact h.of_alarm (by rw [e])
  · rw [e]
    exact (h.of_alarm (q := q) (by rw [hq])).raise ..

/-- A clock whose backup supply failed is SUSPECT with its alarm, unless it was UNSET (R118). -/
theorem Part.clockCheck_sounds {p : Part} (h : p.alarmsDistinct) (hl : p.alarm.list.length < 48)
    (hc : p.late.clock ≠ .unset) : (p.clockCheck true).sounds .clockSuspect .clock := by
  rw [Part.clockCheck, if_pos rfl]
  dsimp only
  rw [if_neg hc]
  exact Part.sounds_raise (h.of_list rfl) hl

theorem Part.sounds.supplyAlarmsAtStart {p : Part} {k : AlarmKind} {x : Subject} (h : p.sounds k x)
    (hr : k ≠ .supplyReserve) (hl : k ≠ .supplyLow) : p.supplyAlarmsAtStart.sounds k x := by
  have hq : (if p.supply.mode = .mains then p.endCondition .supplyReserve .supply
      else p.raise .supplyReserve .supply).sounds k x := by
    split
    · exact h.endCondition (.inl hr.symm)
    · exact h.raise ..
  unfold Part.supplyAlarmsAtStart
  dsimp only
  generalize (if p.supply.mode = .mains then p.endCondition .supplyReserve .supply
    else p.raise .supplyReserve .supply) = q at hq ⊢
  split
  · exact hq.raise ..
  · exact hq.endCondition (.inl hl.symm)

/-- An alarm that is over, among distinct records. -/
def Part.silent (p : Part) (k : AlarmKind) (x : Subject) : Prop := p.alarmsDistinct ∧ p.alarmOver k x

theorem Part.silent.of_alarm {p q : Part} {k : AlarmKind} {x : Subject} (h : p.silent k x)
    (e : q.alarm.list = p.alarm.list) : q.silent k x :=
  ⟨h.1.of_list e, (Part.alarmOver_congr e k x).mpr h.2⟩

theorem Part.silent.raise {p : Part} {k : AlarmKind} {x : Subject} (h : p.silent k x) {k' : AlarmKind} {x' : Subject}
    (hne : k' ≠ k ∨ x' ≠ x) : (p.raise k' x').silent k x :=
  ⟨h.1.raise, h.2.raise h.1 hne⟩

theorem Part.silent.endCondition {p : Part} {k : AlarmKind} {x : Subject} (h : p.silent k x) (k' : AlarmKind)
    (x' : Subject) : (p.endCondition k' x').silent k x :=
  ⟨h.1.endCondition, h.2.endCondition k' x'⟩

theorem Part.alarmsDistinct.supplyAlarmsAtStart {p : Part} (h : p.alarmsDistinct) :
    p.supplyAlarmsAtStart.alarmsDistinct := by
  have hq : (if p.supply.mode = .mains then p.endCondition .supplyReserve .supply
      else p.raise .supplyReserve .supply).alarmsDistinct := by
    split
    · exact h.endCondition
    · exact h.raise
  unfold Part.supplyAlarmsAtStart
  dsimp only
  generalize (if p.supply.mode = .mains then p.endCondition .supplyReserve .supply
    else p.raise .supplyReserve .supply) = q at hq ⊢
  split
  · exact hq.raise
  · exact hq.endCondition

/-- In MAINS both supply alarms are over after step 4 (R154). -/
theorem Part.supplyAlarmsAtStart_silent {p : Part} (h : p.alarmsDistinct) (hm : p.supply.mode = .mains) :
    p.supplyAlarmsAtStart.silent .supplyReserve .supply ∧ p.supplyAlarmsAtStart.silent .supplyLow .supply := by
  have hm' : (p.endCondition .supplyReserve .supply).supply.mode ≠ .lowReserve := by simp [hm]
  have he : p.supplyAlarmsAtStart = (p.endCondition .supplyReserve .supply).endCondition .supplyLow .supply := by
    unfold Part.supplyAlarmsAtStart
    dsimp only
    rw [if_pos hm, if_neg hm']
  have hr : (p.endCondition .supplyReserve .supply).silent .supplyReserve .supply :=
    ⟨h.endCondition, Part.endCondition_over h _ _⟩
  rw [he]
  exact ⟨hr.endCondition .supplyLow .supply, h.endCondition.endCondition, Part.endCondition_over h.endCondition _ _⟩

/-- The alarms that comparisons and activations raise or end (R127, R159). -/
def AlarmKind.compared (k : AlarmKind) : Prop :=
  k = .overdue ∨ k = .unreturned ∨ k = .forcedRemoval ∨ k = .fobUnread ∨ k = .fobUnknown ∨ k = .fobDuplicate

/-- A property of the alarm list alone, kept by raises and ends of the kinds of a comparison, is kept by a comparison. -/
theorem Part.compareStable_of_alarms {P : Part → Prop}
    (hcongr : ∀ p q : Part, q.alarm = p.alarm → P p → P q)
    (hraise : ∀ q k y, k.compared → P q → P (q.raise k y))
    (hends : ∀ q k y, k.compared → P q → P (q.endCondition k y)) (x : SlotId) : Part.CompareStable P x := by
  have hlevel : Part.LevelStable P :=
    { notice := fun q _ hq => hcongr q _ (by simp) hq
      raise := fun q k n hk hq => hraise q k _ (by rcases hk with rfl | rfl <;> simp [AlarmKind.compared]) hq
      ends := fun q k n hk hq => hends q k _ (by rcases hk with rfl | rfl <;> simp [AlarmKind.compared]) hq
      escalate := fun q _ hq => hcongr q _ (by simp) hq }
  exact
    { custody := fun q _ hq => hcongr q _ (by simp) hq
      recheck := fun q hq => hcongr q _ (by simp) hq
      status := fun q _ _ hq => hcongr q _ (by simp) hq
      stray := fun q _ hq => hraise q _ _ (by simp [AlarmKind.compared]) hq
      ends := fun q k hk hq => hends q k _ (by rcases hk with rfl | rfl | rfl <;> simp [AlarmKind.compared]) hq
      delete := fun q _ hq => hcongr q _ (by simp) hq
      unlink := fun q _ hq => hcongr q _ (by simp) hq
      notice := fun q _ hq => hcongr q _ (by simp) hq
      count := fun q _ hq => hcongr q _ (by simp) hq
      activate := fun q n m hq => hlevel.activateContract n m (fun _ _ _ _ => hcongr q _ (by simp) hq) hq }

theorem Part.enterReconciling_of_alarms {P : Part → Prop}
    (hcongr : ∀ p q : Part, q.alarm = p.alarm → P p → P q)
    (hraise : ∀ q k y, k.compared → P q → P (q.raise k y))
    (hends : ∀ q k y, k.compared → P q → P (q.endCondition k y)) {p : Part} (h : P p) (c : ColId) :
    P (p.enterReconciling c) :=
  Part.enterReconciling_keeps (fun i => Part.compareStable_of_alarms hcongr hraise hends ⟨c, i⟩) (hcongr p _ rfl h)

/-- An alarm that stands when the tables are prepared stands after start-up, but for one of the kinds that comparisons end
and COLUMN_LOST of a column that answered. -/
theorem Part.startUp_sounds {p : Part} {cause : Cause} {i : StartInputs} {failed : Bool} {k : AlarmKind} {x : Subject}
    (h : (p.prepared cause i failed).sounds k x) (hk : ¬ k.compared)
    (hc : ∀ c, i.answers.getLsbD c.val = true → k ≠ .columnLost ∨ x ≠ .column c) :
    (p.startUp cause i failed).sounds k x := by
  refine (Part.startUp_answered (P := fun q => q.sounds k x) h (fun q c _ hq => ?_) (fun q c ha hq _ => ?_)
    (fun q c hq => hq.of_alarm (by simp)) fun q hq => hq).1
  · refine Part.enterReconciling_of_alarms (P := fun q => q.sounds k x) (fun _ _ e hq => hq.of_alarm (by rw [e]))
      (fun _ _ _ _ hq => hq.raise ..) (fun _ k' _ hk' hq => hq.endCondition (.inl ?_)) hq c
    rintro rfl
    exact hk hk'
  · have hr : ((q.updColumn c fun col => { col with engine := .running }).followAudit c).sounds k x :=
      hq.of_alarm (by simp)
    exact hr.endCondition ((hc c ha).imp Ne.symm Ne.symm)

/-- An alarm that is over when the tables are prepared is over after start-up, but for one of the kinds that comparisons
raise. -/
theorem Part.startUp_silent {p : Part} {cause : Cause} {i : StartInputs} {failed : Bool} {k : AlarmKind} {x : Subject}
    (h : (p.prepared cause i failed).silent k x) (hk : ¬ k.compared) : (p.startUp cause i failed).silent k x := by
  refine (Part.startUp_answered (P := fun q => q.silent k x) h (fun q c _ hq => ?_) (fun q c ha hq _ => ?_)
    (fun q c hq => hq.of_alarm (by simp)) fun q hq => hq).1
  · refine Part.enterReconciling_of_alarms (P := fun q => q.silent k x) (fun _ _ e hq => hq.of_alarm (by rw [e]))
      (fun _ k' _ hk' hq => hq.raise (.inl ?_)) (fun _ _ _ _ hq => hq.endCondition ..) hq c
    rintro rfl
    exact hk hk'
  · have hr : ((q.updColumn c fun col => { col with engine := .running }).followAudit c).silent k x :=
      hq.of_alarm (by simp)
    exact hr.endCondition ..

/-- COLUMN_LOST stands after start-up for a fitted column that did not answer (R18). -/
theorem Part.startUp_columnLost {p : Part} (h : p.alarmsDistinct) (hl : p.alarm.list.length ≤ 30) (cause : Cause)
    {i : StartInputs} (failed : Bool) {c : ColId} (ha : i.answers.getLsbD c.val = false)
    (hf : (p.column c).fitted = true) : (p.startUp cause i failed).alarmStands .columnLost (.column c) := by
  have hs := ((Part.probed_sounds h hl cause failed ha hf).clockCheck failed).supplyAlarmsAtStart (by simp) (by simp)
  refine (Part.startUp_sounds (hs.of_alarm (by rw [Part.prepared, (Part.prepareTables_frame _).2.2.2]))
    (by simp [AlarmKind.compared]) fun d hd => .inr ?_).2
  rintro e
  simp only [Subject.column.injEq] at e
  rw [← e, ha] at hd
  exact Bool.false_ne_true hd

/-- CLOCK_SUSPECT stands after a start-up whose backup supply had failed, unless the clock was UNSET (R118). -/
theorem Part.startUp_clockSuspect {p : Part} (h : p.alarmsDistinct) (hl : p.alarm.list.length ≤ 30) (cause : Cause)
    (i : StartInputs) (hc : p.late.clock ≠ .unset) : (p.startUp cause i true).alarmStands .clockSuspect .clock := by
  obtain ⟨hd, hlen⟩ := Part.probed_alarms h cause i true
  have hclock : (p.probed cause i true).late.clock ≠ .unset := by
    rw [(p.probed_frame cause i true).2.2.2]
    exact hc
  have hs := (Part.clockCheck_sounds hd (by omega) hclock).supplyAlarmsAtStart (by simp) (by simp)
  exact (Part.startUp_sounds (hs.of_alarm (by rw [Part.prepared, (Part.prepareTables_frame _).2.2.2]))
    (by simp [AlarmKind.compared]) fun d _ => .inl (by simp)).2

/-- In MAINS both supply alarms are over after start-up (R154). -/
theorem Part.startUp_supplyAlarms {p : Part} (h : p.alarmsDistinct) (cause : Cause) (i : StartInputs) (failed : Bool)
    (hm : (p.startUp cause i failed).supply.mode = .mains) :
    (p.startUp cause i failed).alarmOver .supplyReserve .supply ∧
    (p.startUp cause i failed).alarmOver .supplyLow .supply := by
  have hmode : ((p.probed cause i failed).clockCheck failed).supply.mode = .mains := by
    have h1 := congrArg StartFrame.mode (p.startUp_startFrame cause i failed).1
    have h2 := congrArg StartFrame.mode
      (((p.probed cause i failed).clockCheck_frame failed).1.trans (p.probed_frame cause i failed).1)
    exact h2.trans (h1.symm.trans hm)
  obtain ⟨s1, s2⟩ := Part.supplyAlarmsAtStart_silent ((Part.probed_alarms h cause i failed).1.clockCheck failed) hmode
  have hlist : (p.prepared cause i failed).alarm.list =
      ((p.probed cause i failed).clockCheck failed).supplyAlarmsAtStart.alarm.list := by
    rw [Part.prepared, (Part.prepareTables_frame _).2.2.2]
  exact ⟨(Part.startUp_silent (s1.of_alarm hlist) (by simp [AlarmKind.compared])).2,
    (Part.startUp_silent (s2.of_alarm hlist) (by simp [AlarmKind.compared])).2⟩

/-! ## The tables in start-up -/

/-- A property of the fleet and the contracts alone that the changes of a comparison keep. -/
structure Part.TableStable (P : Part → Prop) : Prop where
  congr : ∀ p q : Part, q.fleet = p.fleet → q.book = p.book → P p → P q
  status : ∀ q u st, P q → P (q.setStatus u st)
  delete : ∀ q n, P q → P (q.deleteContract n)
  unlink : ∀ q u, P q → P (q.dropContractLink u)
  escalate : ∀ q u, P q → P (q.escalate u)
  activate : ∀ q n m (c : Contract) (e : Evaluation) (sweep : Nat), q.findContract n = some c → c.isActive = false → P q →
    P (q.updContract n fun c => { c.withEvaluation m e with mark := some sweep })

section tables

variable {P : Part → Prop} (h : Part.TableStable P)
include h

theorem Part.TableStable.levelStable : Part.LevelStable P where
  notice := fun q _ hq => h.congr q _ (by simp) (by simp) hq
  raise := fun q _ _ _ hq => h.congr q _ (by simp) (by simp) hq
  ends := fun q _ _ _ hq => h.congr q _ (by simp) (by simp) hq
  escalate := h.escalate

theorem Part.TableStable.compareStable (x : SlotId) : Part.CompareStable P x where
  custody := fun q _ hq => h.congr q _ rfl rfl hq
  recheck := fun q hq => h.congr q _ rfl rfl hq
  status := h.status
  stray := fun q _ hq => h.congr q _ (by simp) (by simp) hq
  ends := fun q _ _ hq => h.congr q _ (by simp) (by simp) hq
  delete := h.delete
  unlink := h.unlink
  notice := fun q _ hq => h.congr q _ (by simp) (by simp) hq
  count := fun q _ hq => h.congr q _ (by simp) (by simp) hq
  activate := fun q n m hq =>
    h.levelStable.activateContract n m (fun c e hc ha => h.activate q n m c e _ hc ha hq) hq

/-- What holds of the prepared tables and is kept by every comparison holds after start-up. -/
theorem Part.TableStable.startUp {p : Part} {cause : Cause} {i : StartInputs} {failed : Bool}
    (hp : P (p.prepared cause i failed)) : P (p.startUp cause i failed) :=
  Part.startUp_keeps hp
    (fun q c _ hq => Part.enterReconciling_keeps (fun j => h.compareStable ⟨c, j⟩) (h.congr q _ rfl rfl hq))
    (fun q c hq _ => h.congr q _ (by simp) (by simp) hq) (fun q c hq => h.congr q _ (by simp) (by simp) hq)
    (fun q hq => h.congr q _ rfl rfl hq)

/-- The examination of a contract deletes it or keeps the tables as they are. -/
theorem Part.TableStable.examinePending {p : Part} (hp : P p) (c : Contract) : P (p.examinePending c) := by
  unfold Part.examinePending
  dsimp only
  split
  · exact hp
  · split
    · exact hp
    · exact h.congr _ _ (by simp) (by simp) (h.delete p c.number hp)

theorem Part.TableStable.prepareTables {p : Part} (hp : P p.cleanTables) : P p.prepareTables := by
  rw [Part.prepareTables_eq]
  exact foldl_induct (P := P) p.cleanTables.book.contracts (fun q c hq => h.examinePending hq c) hp

end tables

theorem Part.mem_updVehicle {p : Part} {u : Nat} {f : Vehicle → Vehicle} {w : Vehicle}
    (h : w ∈ (p.updVehicle u f).fleet) : ∃ v ∈ p.fleet, (v.unit ≠ u ∧ w = v) ∨ (v.unit = u ∧ w = f v) := by
  rw [Part.updVehicle_fleet] at h
  obtain ⟨v, hv, rfl⟩ := List.mem_map.mp h
  refine ⟨v, hv, ?_⟩
  by_cases hu : v.unit = u
  · exact .inr ⟨hu, if_pos hu⟩
  · exact .inl ⟨hu, if_neg hu⟩

/-- A deletion leaves the tables as they are, or drops the PENDING contract of its number and the link of its vehicle. -/
theorem Part.deleteContract_cases (p : Part) (n : Nat) :
    p.deleteContract n = p ∨ ∃ c, p.findContract n = some c ∧ c.isActive = false ∧
      p.deleteContract n = (p.dropContract n).dropContractLink c.unit := by
  unfold Part.deleteContract
  split
  · exact .inl rfl
  next c hc =>
    cases ha : c.isActive
    · exact .inr ⟨c, hc, ha, rfl⟩
    · exact .inl rfl

theorem Part.findContract_some {p : Part} {n : Nat} {c : Contract} (h : p.findContract n = some c) :
    c ∈ p.book.contracts ∧ c.number = n :=
  ⟨List.mem_of_find?_eq_some h, by simpa using List.find?_some h⟩

theorem Part.mem_updContract {p : Part} {n : Nat} {f : Contract → Contract} {d : Contract}
    (h : d ∈ (p.updContract n f).book.contracts) : ∃ c ∈ p.book.contracts, d = c ∨ (c.number = n ∧ d = f c) := by
  rw [Part.updContract_contracts] at h
  obtain ⟨c, hc, rfl⟩ := List.mem_map.mp h
  refine ⟨c, hc, ?_⟩
  by_cases hn : c.number = n
  · exact .inr ⟨hn, if_pos hn⟩
  · exact .inl (if_neg hn)

theorem Part.deleteContract_fleet {p : Part} {n : Nat} {w : Vehicle} (h : w ∈ (p.deleteContract n).fleet) :
    ∃ v ∈ p.fleet, w.unit = v.unit ∧ w.request = v.request ∧ (w.contract = v.contract ∨ w.contract = none) := by
  rcases p.deleteContract_cases n with e | ⟨c, -, -, e⟩
  · exact ⟨w, e ▸ h, rfl, rfl, .inl rfl⟩
  · rw [e] at h
    obtain ⟨v, hv, ⟨-, rfl⟩ | ⟨-, rfl⟩⟩ := Part.mem_updVehicle h
    · exact ⟨w, hv, rfl, rfl, .inl rfl⟩
    · exact ⟨v, hv, rfl, rfl, .inr rfl⟩

theorem Part.deleteContract_contracts (p : Part) (n : Nat) :
    (p.deleteContract n).book.contracts.Sublist p.book.contracts := by
  rcases p.deleteContract_cases n with e | ⟨c, -, -, e⟩
  · rw [e]
  · rw [e]
    exact List.filter_sublist ..

/-- No vehicle names a request, and no PENDING contract names one (R43, R80). -/
def Part.unrequested (p : Part) : Prop :=
  (∀ w ∈ p.fleet, w.request = none) ∧ ∀ c ∈ p.book.contracts, c.state ≠ .pending none → c.isActive = true

theorem Part.unrequested_stable : Part.TableStable Part.unrequested where
  congr := fun p q hf hb hp => by rwa [Part.unrequested, hf, hb]
  status := fun q u st hq => ⟨fun w hw => by
    obtain ⟨v, hv, ⟨-, rfl⟩ | ⟨-, rfl⟩⟩ := Part.mem_updVehicle hw
    · exact hq.1 _ hv
    · exact hq.1 v hv, hq.2⟩
  delete := fun q n hq => ⟨fun w hw => by
    obtain ⟨v, hv, -, hr, -⟩ := Part.deleteContract_fleet hw
    exact hr.trans (hq.1 v hv), fun c hc => hq.2 c ((q.deleteContract_contracts n).subset hc)⟩
  unlink := fun q u hq => ⟨fun w hw => by
    obtain ⟨v, hv, ⟨-, rfl⟩ | ⟨-, rfl⟩⟩ := Part.mem_updVehicle hw
    · exact hq.1 _ hv
    · exact hq.1 v hv, hq.2⟩
  escalate := fun q u hq => ⟨fun w hw => by
    obtain ⟨v, hv, ⟨-, rfl⟩ | ⟨-, rfl⟩⟩ := Part.mem_updVehicle hw
    · exact hq.1 _ hv
    · exact hq.1 v hv, hq.2⟩
  activate := fun q n m c e s _ _ hq => ⟨hq.1, fun d hd hs => by
    obtain ⟨c', hc', rfl | ⟨-, rfl⟩⟩ := Part.mem_updContract hd
    · exact hq.2 _ hc' hs
    · rfl⟩

theorem Part.cleanTables_unrequested (p : Part) : p.cleanTables.unrequested := by
  refine ⟨fun w hw => ?_, fun c hc hs => ?_⟩
  · obtain ⟨v, -, rfl⟩ := List.mem_map.mp hw
    rfl
  · obtain ⟨d, -, rfl⟩ := List.mem_map.mp hc
    unfold Contract.started Contract.isActive at *
    cases hd : d.state <;> simp_all

theorem Part.startUp_unrequested (p : Part) (cause : Cause) (i : StartInputs) (failed : Bool) :
    (p.startUp cause i failed).unrequested :=
  Part.unrequested_stable.startUp (Part.unrequested_stable.prepareTables (Part.cleanTables_unrequested _))

/-- An ACTIVE contract among contracts of different numbers. -/
def Part.keepsActive (p : Part) (c : Contract) : Prop :=
  (p.book.contracts.map (·.number)).Nodup ∧ c ∈ p.book.contracts ∧ c.isActive = true

/-- No PENDING contract has the number of an ACTIVE one. -/
theorem Part.keepsActive.number_ne {p : Part} {c d : Contract} (h : p.keepsActive c) {n : Nat}
    (hd : p.findContract n = some d) (ha : d.isActive = false) : c.number ≠ n := by
  obtain ⟨hn, hc, hact⟩ := h
  obtain ⟨hdm, hdn⟩ := Part.findContract_some hd
  rintro rfl
  have := List.inj_on_of_nodup_map hn hdm hc hdn
  simp_all

theorem Part.keepsActive_stable (c : Contract) : Part.TableStable fun p => p.keepsActive c where
  congr := fun p q _ hb hp => by rwa [Part.keepsActive, hb]
  status := fun _ _ _ hq => hq
  delete := fun q n hq => by
    refine ⟨hq.1.sublist ((q.deleteContract_contracts n).map _), ?_, hq.2.2⟩
    rcases q.deleteContract_cases n with e | ⟨d, hd, ha, e⟩
    · rw [e]
      exact hq.2.1
    · rw [e]
      exact List.mem_filter.mpr ⟨hq.2.1, by simpa using hq.number_ne hd ha⟩
  unlink := fun _ _ hq => hq
  escalate := fun _ _ hq => hq
  activate := fun q n m d e s hd ha hq => by
    refine ⟨?_, ?_, hq.2.2⟩
    · have hmap : (q.updContract n fun c => { c.withEvaluation m e with mark := some s }).book.contracts.map (·.number) =
          q.book.contracts.map (·.number) := by
        rw [Part.updContract_contracts, List.map_map]
        refine List.map_congr_left fun d _ => ?_
        simp only [Function.comp_apply]
        split <;> rfl
      rw [hmap]
      exact hq.1
    · rw [Part.updContract_contracts]
      exact List.mem_map.mpr ⟨c, hq.2.1, if_neg (hq.number_ne hd ha)⟩

/-- A contract number is free, and no vehicle of a unit number names a contract. -/
def Part.contractGone (p : Part) (n u : Nat) : Prop :=
  (∀ d ∈ p.book.contracts, d.number ≠ n) ∧ ∀ w ∈ p.fleet, w.unit = u → w.contract = none

theorem Part.contractGone_stable (n u : Nat) : Part.TableStable fun p => p.contractGone n u where
  congr := fun p q hf hb hp => by rwa [Part.contractGone, hf, hb]
  status := fun q u' st hq => ⟨hq.1, fun w hw hu => by
    obtain ⟨v, hv, ⟨-, rfl⟩ | ⟨-, rfl⟩⟩ := Part.mem_updVehicle hw
    · exact hq.2 _ hv hu
    · exact hq.2 v hv hu⟩
  delete := fun q m hq => ⟨fun d hd => hq.1 d ((q.deleteContract_contracts m).subset hd), fun w hw hu => by
    obtain ⟨v, hv, he, -, hc | hc⟩ := Part.deleteContract_fleet hw
    · exact hc.trans (hq.2 v hv (he.symm.trans hu))
    · exact hc⟩
  unlink := fun q u' hq => ⟨hq.1, fun w hw hu => by
    obtain ⟨v, hv, ⟨-, rfl⟩ | ⟨-, rfl⟩⟩ := Part.mem_updVehicle hw
    · exact hq.2 _ hv hu
    · rfl⟩
  escalate := fun q u' hq => ⟨hq.1, fun w hw hu => by
    obtain ⟨v, hv, ⟨-, rfl⟩ | ⟨-, rfl⟩⟩ := Part.mem_updVehicle hw
    · exact hq.2 _ hv hu
    · exact hq.2 v hv hu⟩
  activate := fun q m k c e s _ _ hq => ⟨fun d hd => by
    obtain ⟨c', hc', rfl | ⟨-, rfl⟩⟩ := Part.mem_updContract hd
    · exact hq.1 _ hc'
    · exact hq.1 c' hc', hq.2⟩

/-! ## Notices in start-up -/

/-- A notice of a body is queued, unless one has been lost (R166, R169). -/
def Part.told (p : Part) (b : NoticeBody) : Prop :=
  p.lines.flags.noticesLost = false → ∃ n ∈ p.lines.notices, n.body = b

theorem Part.told.of_lines {p q : Part} {b : NoticeBody} (h : p.told b) (hn : q.lines.notices = p.lines.notices)
    (hl : q.lines.flags.noticesLost = p.lines.flags.noticesLost) : q.told b := by
  rwa [Part.told, hn, hl]

theorem Part.notice_told (p : Part) (b : NoticeBody) : (p.notice b).told b := by
  unfold Part.notice Part.told
  dsimp only
  split
  · exact fun _ => ⟨_, List.mem_append_right _ (List.mem_singleton.mpr rfl), rfl⟩
  · exact fun h => absurd h (by simp)

theorem Part.told.notice {p : Part} {b : NoticeBody} (h : p.told b) (b' : NoticeBody) : (p.notice b').told b := by
  unfold Part.notice Part.told at *
  dsimp only
  split
  · intro hl
    obtain ⟨n, hn, e⟩ := h hl
    exact ⟨n, List.mem_append_left _ hn, e⟩
  · exact fun hl => absurd hl (by simp)

theorem Part.told.announceRaise {p : Part} {b : NoticeBody} (h : p.told b) (n : Nat) (k : AlarmKind) (x : Subject) :
    (p.announceRaise n k x).told b :=
  (h.notice (.alarmRaised n k x p.minute)).of_lines rfl rfl

theorem Part.told.makeAlarm {p : Part} {b : NoticeBody} (h : p.told b) (k : AlarmKind) (x : Subject) :
    (p.makeAlarm k x).told b := by
  unfold Part.makeAlarm
  refine Part.told.announceRaise ?_ _ _ _
  exact h.of_lines rfl rfl

theorem Part.told.raise {p : Part} {b : NoticeBody} (h : p.told b) (k : AlarmKind) (x : Subject) : (p.raise k x).told b := by
  unfold Part.raise
  split
  · split
    · exact h
    · exact h
    · refine Part.told.announceRaise ?_ _ _ _
      exact h.of_lines rfl rfl
  · split
    · exact h.makeAlarm _ _
    · split
      · refine Part.told.makeAlarm ?_ _ _
        exact h.of_lines rfl rfl
      · exact h.of_lines rfl rfl

theorem Part.told.endCondition {p : Part} {b : NoticeBody} (h : p.told b) (k : AlarmKind) (x : Subject) :
    (p.endCondition k x).told b := by
  unfold Part.endCondition
  split
  · exact h
  · split
    · refine Part.told.notice ?_ _
      exact h.of_lines rfl rfl
    · refine Part.told.notice ?_ _
      exact h.of_lines rfl rfl
    · exact h

theorem Part.told_levelStable (b : NoticeBody) : Part.LevelStable fun q => q.told b where
  notice := fun _ b' hq => hq.notice b'
  raise := fun _ _ _ _ hq => hq.raise _ _
  ends := fun _ _ _ _ hq => hq.endCondition _ _
  escalate := fun _ _ hq => hq

theorem Part.told_compareStable (b : NoticeBody) (x : SlotId) : Part.CompareStable (fun q => q.told b) x where
  custody := fun _ _ hq => hq
  recheck := fun _ hq => hq
  status := fun _ _ _ hq => hq
  stray := fun _ _ hq => hq.raise _ _
  ends := fun _ _ _ hq => hq.endCondition _ _
  delete := fun q n hq => hq.of_lines (by simp) (by simp)
  unlink := fun _ _ hq => hq
  notice := fun _ b' hq => hq.notice b'
  count := fun q _ hq => hq.of_lines (by simp) (by simp)
  activate := fun _ n m hq => (Part.told_levelStable b).activateContract n m (fun _ _ _ _ => hq) hq

theorem Part.startUp_told {p : Part} {cause : Cause} {i : StartInputs} {failed : Bool} {b : NoticeBody}
    (h : (p.prepared cause i failed).told b) : (p.startUp cause i failed).told b := by
  refine Part.startUp_keeps (P := fun q => q.told b) h (fun q c _ hq => ?_) (fun q c hq _ => ?_)
    (fun q c hq => hq.of_lines (by simp) (by simp)) fun q hq => hq
  · exact Part.enterReconciling_keeps (P := fun q => q.told b) (fun j => Part.told_compareStable b ⟨c, j⟩) hq
  · have hr : ((q.updColumn c fun col => { col with engine := .running }).followAudit c).told b :=
      hq.of_lines (by simp) (by simp)
    exact hr.endCondition _ _

/-! ## The examination of the PENDING contracts -/

/-- The slot that the fob of a unit number is in (R40). -/
def Part.whereabouts (p : Part) (u : Nat) : Option SlotId := (p.findUnit u).bind Vehicle.slot

theorem Vehicle.slot_eq_some {v : Vehicle} {x : SlotId} : v.slot = some x ↔ v.status = .inSlot x := by
  unfold Vehicle.slot
  cases v.status <;> simp

theorem Part.whereabouts_eq_some {p : Part} {u : Nat} {x : SlotId} :
    p.whereabouts u = some x ↔ ∃ v, p.findUnit u = some v ∧ v.status = .inSlot x := by
  simp [Part.whereabouts, Option.bind_eq_some_iff, Vehicle.slot_eq_some]

theorem Part.find_statuses (p : Part) (u : Nat) :
    (p.statuses.find? fun s => s.1 == u) = (p.findUnit u).map fun v => (v.unit, v.status) := by
  rw [Part.statuses, List.find?_map]
  rfl

theorem Part.whereabouts_of_statuses {p q : Part} (h : q.statuses = p.statuses) (u : Nat) :
    q.whereabouts u = p.whereabouts u := by
  have hf := p.find_statuses u
  rw [← h, q.find_statuses u] at hf
  refine Option.ext fun x => ?_
  have iff_status (r : Part) : r.whereabouts u = some x ↔
      ∃ s, (r.findUnit u).map (fun v => (v.unit, v.status)) = some s ∧ s.2 = .inSlot x := by
    rw [Part.whereabouts_eq_some]
    cases r.findUnit u <;> simp
  rw [iff_status q, iff_status p, hf]

theorem Part.custody_congr {p q : Part} (h : q.columns = p.columns) (x : SlotId) : q.custody x = p.custody x :=
  congrArg (fun s : Slot => s.record.custody) (Part.slot_congr h x)

/-- The slot of the vehicle of a contract stands RELEASING for a contract: it waits for its settlement (R81). -/
def Part.awaits (p : Part) (c : Contract) : Bool := (p.whereabouts c.unit).any fun x => (p.custody x).releasingContract

theorem Custody.releasingContract_iff {k : Custody} :
    k.releasingContract = true ↔ ∃ tag u m f, k = .releasing tag u m .contract f := by
  cases k with
  | releasing tag u m kind f => cases kind <;> simp [Custody.releasingContract]
  | empty => simp [Custody.releasingContract]
  | unread m => simp [Custody.releasingContract]
  | held tag u m f => simp [Custody.releasingContract]
  | foreign tag reason m => simp [Custody.releasingContract]

theorem Part.awaits_iff {p : Part} {c : Contract} :
    p.awaits c = true ↔ ∃ v x tag u m f, p.findUnit c.unit = some v ∧ v.status = .inSlot x ∧
      p.custody x = .releasing tag u m .contract f := by
  simp only [Part.awaits, Option.any_eq_true, Part.whereabouts_eq_some, Custody.releasingContract_iff]
  constructor
  · rintro ⟨x, ⟨v, hv, hx⟩, tag, u, m, f, hk⟩
    exact ⟨v, x, tag, u, m, f, hv, hx, hk⟩
  · rintro ⟨v, x, tag, u, m, f, hv, hx, hk⟩
    exact ⟨x, ⟨v, hv, hx⟩, tag, u, m, f, hk⟩

/-- Two parts whose vehicles are at the same places and whose slots are alike. -/
structure Part.sameHomes (p q : Part) : Prop where
  statuses : q.statuses = p.statuses
  custody : ∀ x, q.custody x = p.custody x

theorem Part.sameHomes.trans {p q r : Part} (h : p.sameHomes q) (h' : q.sameHomes r) : p.sameHomes r :=
  ⟨h'.statuses.trans h.statuses, fun x => (h'.custody x).trans (h.custody x)⟩

theorem Part.sameHomes.whereabouts {p q : Part} (h : p.sameHomes q) (u : Nat) : q.whereabouts u = p.whereabouts u :=
  Part.whereabouts_of_statuses h.statuses u

theorem Part.sameHomes.awaits {p q : Part} (h : p.sameHomes q) (c : Contract) : q.awaits c = p.awaits c := by
  rw [Part.awaits, Part.awaits, h.whereabouts, show q.custody = p.custody from funext h.custody]

theorem Part.examinePending_of_kept {p : Part} {c : Contract} (h : c.isActive = true ∨ p.awaits c = true) :
    p.examinePending c = p := by
  unfold Part.examinePending
  dsimp only
  split
  · rfl
  next ha => exact if_pos (h.resolve_left ha)

theorem Part.examinePending_of_not {p : Part} {c : Contract} (ha : c.isActive = false) (hw : p.awaits c = false) :
    p.examinePending c = ((p.deleteContract c.number).notice
      (.releaseEnded none (.contract c.unit c.number) (p.whereabouts c.unit) .power)).countSettled false := by
  unfold Part.examinePending
  dsimp only
  rw [if_neg (by simp [ha])]
  refine if_neg ?_
  show ¬ p.awaits c = true
  simp [hw]

theorem Part.examinePending_cases (p : Part) (c : Contract) :
    p.examinePending c = p ∨ c.isActive = false ∧ p.awaits c = false ∧
      p.examinePending c = ((p.deleteContract c.number).notice
        (.releaseEnded none (.contract c.unit c.number) (p.whereabouts c.unit) .power)).countSettled false := by
  cases ha : c.isActive
  · cases hw : p.awaits c
    · exact .inr ⟨rfl, rfl, Part.examinePending_of_not ha hw⟩
    · exact .inl (Part.examinePending_of_kept (.inr hw))
  · exact .inl (Part.examinePending_of_kept (.inl ha))

theorem Part.examinePending_sameHomes (p : Part) (c : Contract) : p.sameHomes (p.examinePending c) := by
  refine ⟨?_, Part.custody_congr (p.examinePending_frame c).2.1⟩
  rcases p.examinePending_cases c with e | ⟨-, -, e⟩
  · rw [e]
  · rw [e, Part.statuses_congr (q := Part.countSettled ..) (p := p.deleteContract c.number) (by simp)]
    exact (p.deleteContract_tables c.number).1

theorem Part.examinePending_contracts (p : Part) (c : Contract) :
    (p.examinePending c).book.contracts.Sublist p.book.contracts := by
  rcases p.examinePending_cases c with e | ⟨-, -, e⟩
  · rw [e]
  · rw [e, show (Part.countSettled _ false).book = (p.deleteContract c.number).book by simp]
    exact p.deleteContract_contracts c.number

theorem Part.told.examinePending {p : Part} {b : NoticeBody} (h : p.told b) (c : Contract) : (p.examinePending c).told b := by
  rcases p.examinePending_cases c with e | ⟨-, -, e⟩
  · rwa [e]
  · rw [e]
    have hdel : (p.deleteContract c.number).told b := h.of_lines (by simp) (by simp)
    have hnotice := Part.told.notice hdel (.releaseEnded none (.contract c.unit c.number) (p.whereabouts c.unit) .power)
    exact hnotice.of_lines (by simp) (by simp)

/-- An examination deletes no contract of another number. -/
theorem Part.mem_examinePending {p : Part} {c d : Contract} (hc : c ∈ p.book.contracts) (hn : c.number ≠ d.number) :
    c ∈ (p.examinePending d).book.contracts := by
  rcases p.examinePending_cases d with e | ⟨-, -, e⟩
  · rwa [e]
  · rw [e, show (Part.countSettled _ false).book = (p.deleteContract d.number).book by simp]
    rcases p.deleteContract_cases d.number with e | ⟨_, -, -, e⟩
    · rwa [e]
    · rw [e]
      exact List.mem_filter.mpr ⟨hc, by simpa using hn⟩

/-- Examinations that delete no contract of the number of `c` leave `c` in the table. -/
theorem Part.mem_foldl_examinePending {p : Part} {c : Contract} (hc : c ∈ p.book.contracts) {l : List Contract}
    (h : ∀ d ∈ l, c.number ≠ d.number ∨ p.awaits d = true) :
    c ∈ (l.foldl Part.examinePending p).book.contracts ∧ p.sameHomes (l.foldl Part.examinePending p) := by
  refine List.foldlRecOn (motive := fun q : Part => c ∈ q.book.contracts ∧ p.sameHomes q) l Part.examinePending
    ⟨hc, rfl, fun _ => rfl⟩ ?_
  rintro q ⟨hq, hs⟩ d hd
  refine ⟨?_, hs.trans (q.examinePending_sameHomes d)⟩
  rcases h d hd with hn | hw
  · exact Part.mem_examinePending hq hn
  · rwa [Part.examinePending_of_kept (.inr ((hs.awaits d).trans hw))]

/-- A PENDING contract whose slot does not wait for its settlement is deleted, and its vehicle has none (R81). -/
theorem Part.examinePending_gone {p : Part} {c : Contract} (hn : (p.book.contracts.map (·.number)).Nodup)
    (hc : c ∈ p.book.contracts) (ha : c.isActive = false) (hw : p.awaits c = false) :
    (p.examinePending c).contractGone c.number c.unit ∧
    (p.examinePending c).told (.releaseEnded none (.contract c.unit c.number) (p.whereabouts c.unit) .power) := by
  have hfind : p.findContract c.number = some c := by
    obtain ⟨d, hd⟩ := Option.isSome_iff_exists.mp (List.find?_isSome (p := (·.number == c.number)).mpr
      ⟨c, hc, beq_self_eq_true c.number⟩)
    obtain ⟨hdm, hdn⟩ := Part.findContract_some hd
    rw [← List.inj_on_of_nodup_map hn hdm hc hdn]
    rw [← hdn] at hd
    exact hd
  have hdel : p.deleteContract c.number = (p.dropContract c.number).dropContractLink c.unit := by
    unfold Part.deleteContract
    rw [hfind]
    exact if_neg (by simp [ha])
  rw [Part.examinePending_of_not ha hw]
  refine ⟨?_, ?_⟩
  · refine (Part.contractGone_stable c.number c.unit).congr (p.deleteContract c.number) _ (by simp) (by simp) ?_
    rw [hdel]
    refine ⟨fun d hd => by simpa using (List.mem_filter.mp hd).2, fun w hw hu => ?_⟩
    obtain ⟨v, hv, ⟨hne, rfl⟩ | ⟨-, rfl⟩⟩ := Part.mem_updVehicle hw
    · exact absurd hu hne
    · rfl
  · exact Part.told.of_lines ((p.deleteContract c.number).notice_told _) (by simp) (by simp)

/-! ## The contracts after start-up -/

theorem Part.cleanTables_sameHomes (p : Part) : p.sameHomes p.cleanTables := by
  refine ⟨?_, fun _ => rfl⟩
  simp [Part.statuses, Part.cleanTables, Function.comp_def, Vehicle.unlinked]

theorem Part.cleanTables_numbers (p : Part) :
    p.cleanTables.book.contracts.map (·.number) = p.book.contracts.map (·.number) := by
  simp [Part.cleanTables, Function.comp_def, Contract.started]

theorem Part.mem_cleanTables {p : Part} {c : Contract} (h : c ∈ p.book.contracts) :
    c.started ∈ p.cleanTables.book.contracts :=
  List.mem_map_of_mem h

theorem Contract.started_isActive (c : Contract) : c.started.isActive = c.isActive := by
  unfold Contract.isActive Contract.started
  cases c.state <;> rfl

theorem Contract.started_of_active {c : Contract} (h : c.isActive = true) : c.started = { c with mark := none } := by
  obtain ⟨number, unit, cls, due, grace, hourRate, dayRate, openMinute, state, charge, capped, hours, mark⟩ := c
  cases state with
  | pending r => simp [Contract.isActive] at h
  | active take level => rfl

theorem Contract.started_of_pending {c : Contract} (h : c.isActive = false) :
    c.started = { c with mark := none, state := .pending none } := by
  obtain ⟨number, unit, cls, due, grace, hourRate, dayRate, openMinute, state, charge, capped, hours, mark⟩ := c
  cases state with
  | pending r => rfl
  | active take level => simp [Contract.isActive] at h

theorem Part.awaits_started (p : Part) (c : Contract) : p.cleanTables.awaits c.started = p.awaits c :=
  p.cleanTables_sameHomes.awaits c.started

/-- A contract whose slot waits for its settlement is kept in step 5 of start-up (R81). -/
theorem Part.prepareTables_kept {p : Part} {c : Contract} (hn : (p.book.contracts.map (·.number)).Nodup)
    (hc : c ∈ p.book.contracts) (hw : p.awaits c = true) : c.started ∈ p.prepareTables.book.contracts := by
  rw [← p.cleanTables_numbers] at hn
  rw [Part.prepareTables_eq]
  refine (Part.mem_foldl_examinePending (Part.mem_cleanTables hc) fun d hd => ?_).1
  by_cases he : c.started.number = d.number
  · rw [← List.inj_on_of_nodup_map hn (Part.mem_cleanTables hc) hd he, p.awaits_started]
    exact .inr hw
  · exact .inl he

/-- A PENDING contract whose slot does not wait for its settlement is deleted in step 5 of start-up, with its notice
(R81). -/
theorem Part.prepareTables_gone {p : Part} {c : Contract} (hn : (p.book.contracts.map (·.number)).Nodup)
    (hc : c ∈ p.book.contracts) (ha : c.isActive = false) (hw : p.awaits c = false) :
    p.prepareTables.contractGone c.number c.unit ∧
    p.prepareTables.told (.releaseEnded none (.contract c.unit c.number) (p.whereabouts c.unit) .power) := by
  have hmem := Part.mem_cleanTables hc
  rw [← p.cleanTables_numbers] at hn
  rw [Part.prepareTables_eq]
  obtain ⟨before, after, hl⟩ := List.append_of_mem hmem
  rw [hl, List.foldl_append, List.foldl_cons]
  have hbefore : ∀ d ∈ before, c.started.number ≠ d.number := by
    rw [hl, List.map_append, List.map_cons] at hn
    intro d hd he
    exact (List.nodup_append.mp hn).2.2 _ (List.mem_map_of_mem hd) _ (List.mem_cons_self ..) he.symm
  obtain ⟨hq, hhomes⟩ := Part.mem_foldl_examinePending hmem fun d hd => .inl (hbefore d hd)
  have hnq : ((before.foldl Part.examinePending p.cleanTables).book.contracts.map (·.number)).Nodup := by
    refine foldl_induct (P := fun q : Part => (q.book.contracts.map (·.number)).Nodup) before (fun q d hq => ?_) hn
    exact hq.sublist ((q.examinePending_contracts d).map _)
  generalize before.foldl Part.examinePending p.cleanTables = q at hq hhomes hnq ⊢
  have hturn := Part.examinePending_gone hnq hq (c.started_isActive.trans ha)
    ((hhomes.awaits _).trans ((p.awaits_started c).trans hw))
  rw [hhomes.whereabouts, p.cleanTables_sameHomes.whereabouts] at hturn
  refine foldl_induct (P := fun q : Part => q.contractGone c.number c.unit ∧
    q.told (.releaseEnded none (.contract c.unit c.number) (p.whereabouts c.unit) .power)) after (fun q d hq => ?_) hturn
  exact ⟨(Part.contractGone_stable c.number c.unit).examinePending hq.1 d, Part.told.examinePending hq.2 d⟩

theorem Part.probed_custody (p : Part) (cause : Cause) (i : StartInputs) (failed : Bool) (x : SlotId) :
    (p.probed cause i failed).custody x = p.custody x := by
  obtain ⟨h1, h2⟩ := p.probed_column cause i failed x.col
  cases ha : i.answers.getLsbD x.col.val
  · exact ((h2 ha).slots x.pos).2.2.2.2.2
  · exact ((h1 ha).slots x.pos).2.2

/-- The part as step 5 of start-up finds it. -/
def Part.examined (p : Part) (cause : Cause) (i : StartInputs) (failed : Bool) : Part :=
  ((p.probed cause i failed).clockCheck failed).supplyAlarmsAtStart

theorem Part.prepared_eq (p : Part) (cause : Cause) (i : StartInputs) (failed : Bool) :
    p.prepared cause i failed = (p.examined cause i failed).prepareTables := rfl

theorem Part.examined_tables (p : Part) (cause : Cause) (i : StartInputs) (failed : Bool) :
    p.sameHomes (p.examined cause i failed) ∧ (p.examined cause i failed).book = p.book := by
  obtain ⟨-, h2, h3, -⟩ := p.probed_frame cause i failed
  obtain ⟨-, c2, c3, c4⟩ := (p.probed cause i failed).clockCheck_frame failed
  obtain ⟨-, s2, s3, s4, -⟩ := ((p.probed cause i failed).clockCheck failed).supplyAlarmsAtStart_frame
  exact ⟨⟨Part.statuses_congr (s2.trans (c2.trans h2)), fun x =>
    (Part.custody_congr (s4.trans c4) x).trans (p.probed_custody cause i failed x)⟩, s3.trans (c3.trans h3)⟩

/-- An ACTIVE contract stays over start-up, its mark dropped (R80, R128). -/
theorem Part.startUp_active {p : Part} (hn : (p.book.contracts.map (·.number)).Nodup) {c : Contract}
    (hc : c ∈ p.book.contracts) (ha : c.isActive = true) (cause : Cause) (i : StartInputs) (failed : Bool) :
    { c with mark := none } ∈ (p.startUp cause i failed).book.contracts := by
  have hb := (p.examined_tables cause i failed).2
  have hstable := Part.keepsActive_stable c.started
  have hclean : (p.examined cause i failed).cleanTables.keepsActive c.started :=
    ⟨by rwa [Part.cleanTables_numbers, hb], Part.mem_cleanTables (by rwa [hb]), c.started_isActive.trans ha⟩
  rw [← Contract.started_of_active ha]
  exact (hstable.startUp (hstable.prepareTables hclean)).2.1

/-- A PENDING contract whose slot does not wait for its settlement is gone after start-up, with its notice (R81). -/
theorem Part.startUp_gone {p : Part} (hn : (p.book.contracts.map (·.number)).Nodup) {c : Contract}
    (hc : c ∈ p.book.contracts) (ha : c.isActive = false) (hw : p.awaits c = false) (cause : Cause) (i : StartInputs)
    (failed : Bool) : (p.startUp cause i failed).contractGone c.number c.unit ∧
    (p.startUp cause i failed).told
      (.releaseEnded none (.contract c.unit c.number) (p.whereabouts c.unit) .power) := by
  obtain ⟨hhomes, hb⟩ := p.examined_tables cause i failed
  obtain ⟨hgone, htold⟩ := Part.prepareTables_gone (p := p.examined cause i failed) (by rwa [hb]) (by rwa [hb]) ha
    ((hhomes.awaits c).trans hw)
  rw [hhomes.whereabouts] at htold
  exact ⟨(Part.contractGone_stable c.number c.unit).startUp hgone, Part.startUp_told htold⟩

/-- With no port answering, a PENDING contract whose slot waits for its settlement stays over start-up, its request
dropped (R80, R81). -/
theorem Part.startUp_kept {p : Part} (hn : (p.book.contracts.map (·.number)).Nodup) {c : Contract}
    (hc : c ∈ p.book.contracts) (ha : c.isActive = false) (hw : p.awaits c = true) (cause : Cause) {i : StartInputs}
    (failed : Bool) (hi : i.answers = 0#16) :
    { c with mark := none, state := .pending none } ∈ (p.startUp cause i failed).book.contracts := by
  obtain ⟨hhomes, hb⟩ := p.examined_tables cause i failed
  have hnone : (allCols.filter fun c => i.answers.getLsbD c.val) = [] := by simp [hi]
  rw [← Contract.started_of_pending ha, Part.startUp_eq, hnone, List.foldl_nil, (Part.settle_frame _).2.2.1, Part.prepared_eq]
  exact Part.prepareTables_kept (by rwa [hb]) (by rwa [hb]) ((hhomes.awaits c).trans hw)

theorem Part.decideDrives_signalsFollow (p : Part) : p.decideDrives.signalsFollow := by
  refine ⟨rfl, rfl, ?_⟩
  show (!p.halted && ((!p.halted && p.alarm.wantsLamp) || _)) = (!p.halted && (p.alarm.wantsLamp || _))
  cases p.halted <;> rfl

theorem Part.settle_signalsFollow (p : Part) : p.settle.signalsFollow := by
  unfold Part.settle
  split
  · exact Part.decideDrives_signalsFollow _
  · exact Part.decideDrives_signalsFollow _

/-! ## What start-up leaves -/

theorem Part.startUp_fitted (p : Part) (cause : Cause) (i : StartInputs) (failed : Bool) (c : ColId) :
    ((p.startUp cause i failed).column c).fitted = ((p.column c).fitted || i.answers.getLsbD c.val) := by
  cases ha : i.answers.getLsbD c.val
  · rw [(Part.startUp_asleep ha).fitted, Bool.or_false]
  · rw [(Part.startUp_awake ha).fitted, Bool.or_true]

theorem Part.startUp_auditPointer (p : Part) (cause : Cause) (i : StartInputs) (failed : Bool) (c : ColId) :
    ((p.startUp cause i failed).column c).auditPointer = 23 := by
  cases ha : i.answers.getLsbD c.val
  · exact (Part.startUp_asleep ha).pointer
  · exact (Part.startUp_awake ha).pointer

theorem Part.startUp_locate (p : Part) (cause : Cause) (i : StartInputs) (failed : Bool) (x : SlotId) :
    ((p.startUp cause i failed).engine x).locateUntil = none := by
  cases ha : i.answers.getLsbD x.col.val
  · exact ((Part.startUp_asleep ha).slots x.pos).2.2.2.1
  · exact ((Part.startUp_awake ha).slots x.pos).1

theorem Part.startUp_unreachable (p : Part) (cause : Cause) (i : StartInputs) (failed : Bool) (x : SlotId) :
    ((p.startUp cause i failed).record x).unreachable = !i.answers.getLsbD x.col.val := by
  cases ha : i.answers.getLsbD x.col.val
  · exact ((Part.startUp_asleep ha).slots x.pos).2.2.2.2.1
  · exact ((Part.startUp_awake ha).slots x.pos).2

theorem Part.startUp_running {p : Part} {cause : Cause} {i : StartInputs} {failed : Bool} {c : ColId}
    (ha : i.answers.getLsbD c.val = true) : ((p.startUp cause i failed).column c).engine = .reconciling ∨
      ((p.startUp cause i failed).column c).engine = .running :=
  (Part.startUp_awake ha).engine.imp (·.1) id

/-- A column that did not answer: no reads, no audit, and slots that are not watched (R18, R25). -/
theorem Part.startUp_unwatched {p : Part} {cause : Cause} {i : StartInputs} {failed : Bool} {c : ColId}
    (ha : i.answers.getLsbD c.val = false) :
    ((p.startUp cause i failed).column c).readList = [] ∧ ((p.startUp cause i failed).column c).reader = none ∧
    ((p.startUp cause i failed).column c).auditNext = none ∧
    ∀ y : SlotId, y.col = c → ((p.startUp cause i failed).engine y).latch = none ∧
      ((p.startUp cause i failed).engine y).qualified = none ∧ ((p.startUp cause i failed).engine y).candidate = none := by
  have h := Part.startUp_asleep (p := p) (cause := cause) (failed := failed) ha
  refine ⟨h.list, h.reader, h.audit, fun y hy => ?_⟩
  subst hy
  obtain ⟨h1, h2, h3, -⟩ := h.slots y.pos
  exact ⟨h1, h2, h3⟩

theorem Part.startUp_custody {p : Part} {cause : Cause} {i : StartInputs} {failed : Bool} {x : SlotId}
    (ha : i.answers.getLsbD x.col.val = false) :
    ((p.startUp cause i failed).record x).custody = (p.record x).custody :=
  ((Part.startUp_asleep ha).slots x.pos).2.2.2.2.2

/-- The clock over start-up: a count that ran on stands, a backup supply that failed resumes it at the retained minute
(R118). -/
theorem Lateness.checked_clock (l : Lateness) (failed : Bool) :
    (failed = false → (l.checked failed).count = l.count ∧ (l.checked failed).subMs = l.subMs ∧
      (l.checked failed).clock = l.clock) ∧
    (failed = true → (l.checked failed).count = BitVec.ofNat 32 (60 * l.retainedMinute) ∧ (l.checked failed).subMs = 0 ∧
      (l.checked failed).clock = if l.clock = .unset then .unset else .suspect) := by
  constructor
  · rintro rfl
    exact ⟨rfl, rfl, rfl⟩
  · rintro rfl
    exact ⟨congrArg (BitVec.ofNat 32) (Nat.mul_comm l.retainedMinute 60), rfl, rfl⟩

theorem Lateness.checked_still (l : Lateness) (failed : Bool) :
    (l.checked failed).settings = l.settings ∧ (l.checked failed).sweepNumber = 0 ∧ (l.checked failed).sweep = none ∧
    (l.checked failed).latestSweep = none ∧ (l.checked failed).pendingBoundary = false ∧
    (l.checked failed).fullWalk = true ∧ (l.checked failed).retainedMinute = l.retainedMinute := by
  cases failed
  · exact ⟨rfl, rfl, rfl, rfl, rfl, rfl, rfl⟩
  · exact ⟨rfl, rfl, rfl, rfl, rfl, rfl, rfl⟩

/-- The frame of a part as start-up leaves it, read off field by field. -/
theorem Part.facts_of_startingFrame {p q : Part} {cause : Cause} {i : StartInputs}
    (h : q.startFrame = p.startingFrame cause i) :
    (q.supply.phase = .starting cause ∧ q.uptime = 0 ∧ q.sched = ⟨[], 0, [], []⟩) ∧
    (q.lines.holdUntil = none ∧ q.lines.unitAddress = i.straps.toNat + 1 ∧ q.lines.baudOpen = i.baudOpen ∧
      q.lines.branch.buffer = none ∧ q.lines.service.buffer = none ∧ q.lines.flags.reconciled = false ∧
      q.lines.flags.supplyChanged = false ∧ q.lines.flags.lineOverrun = false) ∧
    (q.book.ring = p.book.ring ∧ q.book.closingSeq = p.book.closingSeq ∧ q.chute.log = p.chute.log ∧
      q.chute.lastEntry = p.chute.lastEntry ∧ q.chute.flapLocked = true ∧ q.chute.drop = none) ∧
    q.fleet.map (·.unit) = p.fleet.map (·.unit) ∧
    q.supply.batteryIsLow = decide (p.supply.batteryPin < 2100) ∧
    q.supply.mode = if p.supply.mainsPin then .mains else if p.supply.batteryPin < 2100 then .lowReserve else .reserve := by
  have hchute : q.chute = (p.startingFrame cause i).chute := congrArg StartFrame.chute h
  have hbranch : q.lines.branch = p.lines.branch.cut := congrArg StartFrame.branch h
  have hservice : q.lines.service = p.lines.service.cut := congrArg StartFrame.service h
  refine ⟨⟨?_, ?_, ?_⟩, ⟨?_, ?_, ?_, ?_, ?_, ?_, ?_, ?_⟩, ⟨?_, ?_, ?_, ?_, ?_, ?_⟩, ?_, ?_, ?_⟩
  · exact congrArg StartFrame.phase h
  · exact congrArg StartFrame.uptime h
  · exact congrArg StartFrame.sched h
  · exact congrArg StartFrame.holdUntil h
  · exact congrArg StartFrame.unitAddress h
  · exact congrArg StartFrame.baudOpen h
  · rw [hbranch]
    rfl
  · rw [hservice]
    rfl
  · exact congrArg StartFrame.reconciled h
  · exact congrArg StartFrame.supplyChanged h
  · exact congrArg StartFrame.lineOverrun h
  · exact congrArg StartFrame.ring h
  · exact congrArg StartFrame.closingSeq h
  · rw [hchute]
    rfl
  · rw [hchute]
    rfl
  · rw [hchute]
    rfl
  · rw [hchute]
    rfl
  · exact congrArg StartFrame.units h
  · exact congrArg StartFrame.batteryIsLow h
  · have hmode := congrArg StartFrame.mode h
    simpa [Part.startFrame, Part.startingFrame, Config.batteryLow] using hmode

/-- The PENDING contracts over start-up (R81). -/
theorem Part.startUp_pending {p : Part} (hn : (p.book.contracts.map (·.number)).Nodup) {c : Contract}
    (hc : c ∈ p.book.contracts) (ha : c.isActive = false) (cause : Cause) (i : StartInputs) (failed : Bool) :
    let q := p.startUp cause i failed
    (p.awaits c ≠ true → (∀ d ∈ q.book.contracts, d.number ≠ c.number) ∧
      (∀ w ∈ q.fleet, w.unit = c.unit → w.contract = none) ∧
      (q.lines.flags.noticesLost = false → ∃ n ∈ q.lines.notices, ∃ slot,
        n.body = .releaseEnded none (.contract c.unit c.number) slot .power ∧
        (∀ v x, p.findUnit c.unit = some v → v.status = .inSlot x → slot = some x) ∧
        ((∀ v, p.findUnit c.unit = some v → ∀ x, v.status ≠ .inSlot x) → slot = none))) ∧
    (p.awaits c = true → i.answers = 0#16 → { c with mark := none, state := .pending none } ∈ q.book.contracts) := by
  refine ⟨fun hw => ?_, fun hw hi => Part.startUp_kept hn hc ha hw cause failed hi⟩
  obtain ⟨⟨hnum, hlink⟩, htold⟩ := Part.startUp_gone hn hc ha (Bool.eq_false_of_not_eq_true hw) cause i failed
  refine ⟨hnum, hlink, fun hl => ?_⟩
  obtain ⟨n, hmem, hbody⟩ := htold hl
  refine ⟨n, hmem, _, hbody, fun v x hv hx => Part.whereabouts_eq_some.mpr ⟨v, hv, hx⟩, fun hout => ?_⟩
  refine Option.eq_none_iff_forall_not_mem.mpr fun x hx => ?_
  obtain ⟨v, hv, hs⟩ := Part.whereabouts_eq_some.mp hx
  exact hout v hv x hs

/-- Settles O35: the frame and the clock by what every stage of start-up leaves alone, the columns by their ports, the
alarms by what raises and ends them, and the contracts by the examination of step 5. -/
theorem startUpLeaves : Obligations.StartUpLeaves := by
  unfold Obligations.StartUpLeaves
  intro p cause i failed q
  obtain ⟨hframe, hlate⟩ := p.startUp_startFrame cause i failed
  obtain ⟨⟨hphase, huptime, hsched⟩, ⟨hhold, haddress, hbaud, hbranch, hservice, hrec, hsupply, hover⟩,
    ⟨hring, hseq, hlog, hentry, hflap, hdrop⟩, hunits, hlow, hmode⟩ := Part.facts_of_startingFrame hframe
  obtain ⟨hsettings, hsweepNo, hsweep, hlatest, hboundary, hwalk, hretained⟩ := p.late.checked_still failed
  obtain ⟨hran, hfailed⟩ := p.late.checked_clock failed
  rw [← hlate] at hsettings hsweepNo hsweep hlatest hboundary hwalk hretained hran hfailed
  obtain ⟨hrequests, hpendings⟩ := p.startUp_unrequested cause i failed
  refine ⟨hphase, huptime, hsched, hhold, haddress, hbaud, hbranch, hservice, hrec, hsupply, hover, hsettings, hsweepNo,
    hsweep, hlatest, hboundary, hwalk, hring, hseq, hlog, hentry, hflap, hdrop, hrequests, hunits, hpendings,
    Part.settle_signalsFollow _, p.startUp_fitted cause i failed, fun c ha => Part.startUp_running ha,
    fun c ha => (Part.startUp_asleep ha).engine, p.startUp_auditPointer cause i failed, p.startUp_locate cause i failed,
    fun c ha => ?_, fun hd c hc hact _ _ => Part.startUp_active hd.2.2.2 hc hact cause i failed,
    fun x ha => Part.startUp_custody ha, p.startUp_unreachable cause i failed, hlow, hmode,
    fun hd hm => Part.startUp_supplyAlarms hd cause i failed hm, hretained, hran, fun hfail => ?_, fun hd c hc hpend => ?_⟩
  · obtain ⟨hlist, hreader, haudit, hslots⟩ := Part.startUp_unwatched (p := p) (cause := cause) (failed := failed) ha
    exact ⟨hlist, hreader, haudit, hslots, fun hf hd hl => Part.startUp_columnLost hd hl cause failed ha hf⟩
  · subst hfail
    obtain ⟨hcount, hms, hclock⟩ := hfailed rfl
    exact ⟨hcount, hms, hclock, fun hset hd hl => Part.startUp_clockSuspect hd hl cause i hset⟩
  · obtain ⟨hgone, hkept⟩ := Part.startUp_pending hd.2.2.2 hc hpend cause i failed
    exact ⟨fun hw => hgone (mt Part.awaits_iff.mp hw), fun hw => hkept (Part.awaits_iff.mpr hw)⟩

end Sys2Proof.Machine
end

section
/-! PROOFS. The part right after reset meets the laws that every step keeps (R25, R38, R104, R117, R120, R131, R153). -/

namespace Sys2Proof.Machine

theorem Part.atReset_column (c : ColId) : Part.atReset.column c = Column.atReset := by
  simp [Part.column, Part.atReset]

theorem Part.atReset_record (x : SlotId) : Part.atReset.record x = ⟨.empty, false, false, true⟩ := by
  rw [Part.record, Part.slot, Part.atReset_column]
  simp [Column.atReset, SlotRecord.cleared]

/-- The outputs right after reset: the drives are released, and the flap is locked (R104, R153). -/
theorem Part.atReset_outputs : Part.atReset.signalsFollow ∧ Part.atReset.flapFollows :=
  ⟨⟨rfl, rfl, rfl⟩, rfl, fun _ => rfl⟩

/-- The collections right after reset are empty, so within their limits. -/
theorem Part.atReset_limits :
    Part.atReset.withinCapacities ∧ Part.atReset.withinBudget ∧ Part.atReset.chuteWithin := by
  refine ⟨?_, ⟨?_, List.nodup_nil, ?_, nofun, nofun, nofun⟩, ?_, ?_, nofun⟩
  · unfold Part.withinCapacities
    decide
  all_goals decide

/-- The records right after reset: default settings within their ranges, and no row in any table. -/
theorem Part.atReset_recordsLawful : Part.atReset.recordsLawful := by
  refine ⟨?_, fun x => ?_, ?_, ?_, ⟨nofun, nofun⟩, fun _ => rfl⟩
  · unfold Settings.inRange
    decide
  · simp [Part.atReset_record]
  · exact ⟨List.nodup_nil, List.nodup_nil, List.nodup_nil, List.nodup_nil⟩
  · exact ⟨List.nodup_nil, List.nodup_nil, Nat.zero_le _⟩

/-- Settles O59: each law is one of the lemmas above, the values are those that `Part.atReset` names. -/
theorem resetSatisfies : Obligations.ResetSatisfies := by
  obtain ⟨hcapacities, hbudget, hchute⟩ := Part.atReset_limits
  refine ⟨Part.atReset_outputs.1, Part.atReset_outputs.2, hcapacities, hbudget, hchute, Part.atReset_recordsLawful, rfl, rfl,
    rfl, rfl, rfl, rfl, rfl, rfl, rfl, rfl, Part.atReset_record, fun c => ?_⟩
  show (Part.atReset.column c).engine = .stopped ∧ (Part.atReset.column c).auditPointer = 23
  rw [Part.atReset_column]
  exact ⟨rfl, rfl⟩

end Sys2Proof.Machine
end

section
/-! PROOFS. The classification of a read attempt, and that one changed byte of a GOOD record is always detected (R22, R23). -/

namespace Sys2Proof.Machine

/-! ## The CRC-8 tells every byte apart -/

/-- The register before a bit of the CRC-8: the generator has a term 1, so the lowest bit says whether it was added. -/
def crc8Unbit (reg : BitVec 8) : BitVec 8 :=
  if reg.getLsbD 0 then ((reg ^^^ 0x07#8) >>> 1) ||| 0x80#8 else reg >>> 1

theorem crc8Unbit_crc8Bit : ∀ reg : BitVec 8, crc8Unbit (crc8Bit reg) = reg := by decide

theorem crc8Bit_injective : Function.Injective crc8Bit := Function.LeftInverse.injective crc8Unbit_crc8Bit

theorem eightTimes_injective {α : Type} {f : α → α} (h : Function.Injective f) : Function.Injective (eightTimes f) :=
  h.iterate 8

/-- The CRC-8 register after one more byte (R23). -/
def crc8Byte (reg : BitVec 8) (b : Byte) : BitVec 8 := eightTimes crc8Bit (reg ^^^ b)

theorem crc8_eq (bytes : List Byte) : crc8 bytes = bytes.foldl crc8Byte 0#8 := rfl

theorem crc8Byte_eq_iff {reg reg' : BitVec 8} {b b' : Byte} : crc8Byte reg b = crc8Byte reg' b' ↔ reg ^^^ b = reg' ^^^ b' :=
  (eightTimes_injective crc8Bit_injective).eq_iff

/-- Two registers that differ go on differing whatever bytes follow. -/
theorem foldl_crc8Byte_injective (bytes : List Byte) : Function.Injective fun reg => bytes.foldl crc8Byte reg := by
  induction bytes with
  | nil => exact Function.injective_id
  | cons b bytes ih =>
    intro reg reg' h
    exact BitVec.xor_left_inj b |>.mp (crc8Byte_eq_iff.mp (ih h))

/-- A byte changed in the bytes checked changes the CRC-8. -/
theorem crc8_change {pre post : List Byte} {a b : Byte} (h : a ≠ b) : crc8 (pre ++ a :: post) ≠ crc8 (pre ++ b :: post) := by
  intro e
  simp only [crc8_eq, List.foldl_append, List.foldl_cons] at e
  exact h ((BitVec.xor_right_inj _).mp (crc8Byte_eq_iff.mp (foldl_crc8Byte_injective post e)))

/-! ## The classification -/

theorem classify_six (b1 b2 b3 b4 kind check : Byte) (extra : List Byte) :
    classify (b1 :: b2 :: b3 :: b4 :: kind :: check :: extra) =
      if crc8 [b1, b2, b3, b4, kind] = check ∧ validTag (numberOf [b1, b2, b3, b4]) = true then
        .good (numberOf [b1, b2, b3, b4]) kind.toNat
      else .badCheck := rfl

theorem exists_six_of_length {bytes : List Byte} (h : 6 ≤ bytes.length) :
    ∃ b1 b2 b3 b4 kind check extra, bytes = b1 :: b2 :: b3 :: b4 :: kind :: check :: extra := by
  obtain _ | ⟨b1, _ | ⟨b2, _ | ⟨b3, _ | ⟨b4, _ | ⟨kind, _ | ⟨check, extra⟩⟩⟩⟩⟩⟩ := bytes
  case cons.cons.cons.cons.cons.cons => exact ⟨b1, b2, b3, b4, kind, check, extra, rfl⟩
  all_goals simp at h

theorem classify_eq_noResponse_iff (bytes : List Byte) : classify bytes = .noResponse ↔ bytes.length < 6 := by
  constructor
  · intro h
    by_contra hl
    obtain ⟨b1, b2, b3, b4, kind, check, extra, rfl⟩ := exists_six_of_length (Nat.le_of_not_lt hl)
    rw [classify_six] at h
    split at h <;> cases h
  · intro h
    unfold classify
    split
    · simp only [List.length_cons] at h
      omega
    · rfl

/-- An attempt that is GOOD brought six bytes at least. -/
theorem length_of_classify_good {bytes : List Byte} {tag kind : Nat} (h : classify bytes = .good tag kind) :
    ¬ bytes.length < 6 := by
  rw [← classify_eq_noResponse_iff, h]
  simp

/-- A record of six bytes is GOOD only where its check byte is the CRC-8 of the five before it. -/
theorem crc8_of_classify_good {bytes : List Byte} {check : Byte} {tag kind : Nat} (hl : bytes.length = 5)
    (h : classify (bytes ++ [check]) = .good tag kind) : crc8 bytes = check := by
  obtain ⟨b1, b2, b3, b4, k, c, extra, e⟩ := exists_six_of_length (bytes := bytes ++ [check]) (by simp [hl])
  have hx : extra = [] := by
    have := congrArg List.length e
    simpa [hl] using this
  subst hx
  obtain ⟨rfl, hc⟩ := List.append_inj' (t₂ := [c]) (s₂ := [b1, b2, b3, b4, k]) e rfl
  obtain rfl : check = c := by simpa using hc
  change classify [b1, b2, b3, b4, k, check] = _ at h
  rw [classify_six] at h
  split at h
  next hg => exact hg.1
  next => cases h

theorem classify_badCheck {bytes : List Byte} {check : Byte} (hl : bytes.length = 5) (h : crc8 bytes ≠ check) :
    classify (bytes ++ [check]) = .badCheck := by
  cases hc : classify (bytes ++ [check]) with
  | noResponse => exact absurd ((classify_eq_noResponse_iff _).mp hc) (by simp [hl])
  | badCheck => rfl
  | good tag kind => exact absurd (crc8_of_classify_good hl hc) h

/-- One changed byte of a GOOD record is detected: in the five bytes checked it changes their CRC-8, in the sixth the
check byte itself (R23). -/
theorem classify_changed {pre post : List Byte} {a b : Byte} {tag kind : Nat} (hl : (pre ++ a :: post).length = 6)
    (hab : a ≠ b) (h : classify (pre ++ a :: post) = .good tag kind) : classify (pre ++ b :: post) = .badCheck := by
  rcases post.eq_nil_or_concat with rfl | ⟨mid, check, rfl⟩
  · have hp : pre.length = 5 := by simpa using hl
    exact classify_badCheck hp fun e => hab ((crc8_of_classify_good hp h).symm.trans e)
  · have hlen : ∀ c : Byte, (pre ++ c :: mid).length = 5 := by
      simp only [List.length_append, List.length_cons, List.length_nil, List.concat_eq_append] at hl ⊢
      omega
    have hassoc : ∀ c : Byte, pre ++ c :: (mid.concat check) = (pre ++ c :: mid) ++ [check] := by simp
    rw [hassoc] at h ⊢
    refine classify_badCheck (hlen b) ?_
    rw [← crc8_of_classify_good (hlen a) h]
    exact (crc8_change hab).symm

theorem numberOf_four (b1 b2 b3 b4 : Byte) :
    numberOf [b1, b2, b3, b4] = ((b1.toNat * 256 + b2.toNat) * 256 + b3.toNat) * 256 + b4.toNat := by
  simp only [numberOf, List.foldl_cons, List.foldl_nil]
  ring

/-- Four bytes carry a valid tag ID but for the two numbers at the ends of their range (R22). -/
theorem validTag_numberOf_iff (b1 b2 b3 b4 : Byte) :
    validTag (numberOf [b1, b2, b3, b4]) = true ↔
      numberOf [b1, b2, b3, b4] ≠ 0 ∧ numberOf [b1, b2, b3, b4] ≠ 4294967295 := by
  have hle : numberOf [b1, b2, b3, b4] ≤ 4294967295 := by
    rw [numberOf_four]
    omega
  simp only [validTag, decide_eq_true_eq]
  omega

/-- Settles O53: six bytes are split off once (`classify_six`); that a changed byte is detected is the injectivity of the
CRC-8 in each of its bytes (`classify_changed`). -/
theorem fobRecords : Obligations.FobRecords := by
  unfold Obligations.FobRecords
  refine ⟨fun bytes => (classify_eq_noResponse_iff bytes).symm, ?_, ?_, fun pre post a b tag kind => classify_changed,
    by decide +kernel, by decide +kernel, by decide +kernel, by decide +kernel, by decide +kernel⟩
  · intro record extra hl
    obtain ⟨b1, b2, b3, b4, kind, check, rest, rfl⟩ := exists_six_of_length hl.ge
    obtain rfl : rest = [] := by simpa using hl
    rfl
  · intro b1 b2 b3 b4 kind check tag
    have htag : tag = numberOf [b1, b2, b3, b4] := (numberOf_four ..).symm
    simp only [htag, classify_six, validTag_numberOf_iff]
    refine ⟨fun hc h0 h1 => if_pos ⟨hc.symm, h0, h1⟩, fun h => if_neg ?_⟩
    rintro ⟨hc, h0, h1⟩
    rcases h with h | h | h
    · exact h hc.symm
    · exact h0 h
    · exact h1 h

end Sys2Proof.Machine
end

section
/-! PROOFS. The attempts of the readers and the audit tick (R23, R24, R27, R37, R38, R106). -/

namespace Sys2Proof.Machine

/-! ## Attempts -/

/-- What the time of an attempt leaves alone. -/
@[simp] theorem Part.attemptOver_frame (p : Part) (since : Ms) (bytes : List Byte) :
    (p.attemptOver since bytes).columns = p.columns ∧ (p.attemptOver since bytes).fleet = p.fleet ∧
    (p.attemptOver since bytes).book = p.book ∧ (p.attemptOver since bytes).chute = p.chute ∧
    (p.attemptOver since bytes).alarm = p.alarm ∧ (p.attemptOver since bytes).supply = p.supply ∧
    (p.attemptOver since bytes).lines = p.lines ∧ (p.attemptOver since bytes).sched.queue = p.sched.queue ∧
    (p.attemptOver since bytes).sched.ended = p.sched.ended := by
  unfold Part.attemptOver
  split <;> simp

theorem Part.attemptOver_uptime {p : Part} (hh : p.halted = false) (since : Ms) (bytes : List Byte) :
    (p.attemptOver since bytes).uptime = if bytes.length < 6 then p.timeAt (since + 40) else p.uptime := by
  unfold Part.attemptOver
  split
  · exact Part.advanceTo_uptime hh _
  · rfl

theorem Part.attemptOver_column (p : Part) (since : Ms) (bytes : List Byte) (c : ColId) :
    (p.attemptOver since bytes).column c = p.column c := Part.column_congr (by simp) c

theorem Part.attemptOver_slot (p : Part) (since : Ms) (bytes : List Byte) (x : SlotId) :
    (p.attemptOver since bytes).slot x = p.slot x := Part.slot_congr (by simp) x

/-- A GOOD attempt has taken no time but its own: the part stands as it was (R24). -/
theorem Part.attemptOver_good {p : Part} {bytes : List Byte} {tag kind : Nat} (h : classify bytes = .good tag kind)
    (since : Ms) : p.attemptOver since bytes = p := if_neg (length_of_classify_good h)

section attemptEnd

variable {p : Part} {c : ColId} {rd : Read} {bytes : List Byte} (hr : (p.column c).reader = some rd)
include hr

theorem Part.attemptEnd_good {tag kind : Nat} (h : classify bytes = .good tag kind) :
    p.attemptEnd c bytes = some (p.endRead c rd (.good tag kind)) := by
  simp only [Part.attemptEnd, hr, h, Part.attemptOver_good h]

theorem Part.attemptEnd_not_good (h : ∀ tag kind, classify bytes ≠ .good tag kind) :
    p.attemptEnd c bytes = some (
      if rd.attempt < 3 then (p.attemptOver rd.since bytes).updColumn c fun col =>
        { col with reader := some (rd.next (p.attemptOver rd.since bytes).uptime) }
      else (p.attemptOver rd.since bytes).endRead c rd .unreadable) := by
  cases hc : classify bytes with
  | good tag kind => exact absurd hc (h tag kind)
  | noResponse => simp only [Part.attemptEnd, hr, hc]
  | badCheck => simp only [Part.attemptEnd, hr, hc]

theorem Part.attemptEnd_unreadable (h : ∀ tag kind, classify bytes ≠ .good tag kind) (ha : 3 ≤ rd.attempt) :
    p.attemptEnd c bytes = some ((p.attemptOver rd.since bytes).endRead c rd .unreadable) := by
  rw [Part.attemptEnd_not_good hr h, if_neg (Nat.not_lt.mpr ha)]

end attemptEnd

theorem exec_readAttemptEnd {c : ColId} {bytes : List Byte} {s : State} {q : Part} (hh : s.part.halted = false)
    (h : s.part.attemptEnd c bytes = some q) : exec (.readAttemptEnd c bytes) s = .next { s with part := q.settle } := by
  dsimp only [exec, execReadAttemptEnd]
  exact State.liveHandle_some hh h

/-- An attempt of the mouth reader that is not GOOD and not the last is followed by the next (R106). -/
theorem Part.mouthAttempt_next {p : Part} {bytes : List Byte} {detected : Minute} {n : Nat} {since : Ms}
    (hd : p.chute.drop = some ⟨detected, some (n, since)⟩) (h : ∀ tag kind, classify bytes ≠ .good tag kind) (hn : n < 3) :
    p.mouthAttempt bytes = some { p.attemptOver since bytes with
      chute := { p.chute with drop := some ⟨detected, some (n + 1, (p.attemptOver since bytes).uptime)⟩ } } := by
  have hchute : (p.attemptOver since bytes).chute = p.chute := by simp
  have key : p.mouthAttempt bytes = some (
      if n < 3 then { p.attemptOver since bytes with chute := { (p.attemptOver since bytes).chute with
        drop := some ⟨detected, some (n + 1, (p.attemptOver since bytes).uptime)⟩ } }
      else (p.attemptOver since bytes).handleDrop detected .unreadable) := by
    cases hc : classify bytes with
    | good tag kind => exact absurd hc (h tag kind)
    | noResponse => simp only [Part.mouthAttempt, hd, hc]
    | badCheck => simp only [Part.mouthAttempt, hd, hc]
  rw [key, if_pos hn, hchute]

theorem exec_chuteReadAttemptEnd {bytes : List Byte} {s : State} {q : Part} (hh : s.part.halted = false)
    (h : s.part.mouthAttempt bytes = some q) :
    exec (.chuteReadAttemptEnd bytes) s = .next { s with part := q.decideDrives } := by
  dsimp only [exec, execChuteReadAttemptEnd]
  exact State.liveDecide_some hh h

/-! ## Readers that start -/

/-- A column whose reader has started the read of a request (R27). -/
def Column.started (col : Column) (r : ReadRequest) (now : Ms) : Column :=
  { col with
    readList := col.readList.filter fun q => q.pos != r.pos
    reader := some { pos := r.pos, purpose := r.purpose, also := [], attempt := 1, since := now } }

theorem chooseRequest_mem {l : List ReadRequest} {r : ReadRequest} (h : chooseRequest l = some r) : r ∈ l := by
  unfold chooseRequest at h
  rcases Option.or_eq_some_iff.mp h with h | ⟨-, h⟩
  · exact List.mem_of_find?_eq_some h
  · rcases Option.or_eq_some_iff.mp h with h | ⟨-, h⟩
    · exact List.mem_of_find?_eq_some h
    · exact List.mem_of_find?_eq_some h

/-- A reader starts nothing, or a request of its list while it is idle. -/
theorem Part.startReader_cases (p : Part) (c : ColId) : p.startReader c = p ∨ ∃ r ∈ (p.column c).readList,
    (p.column c).reader = none ∧ p.startReader c = p.updColumn c fun col => col.started r p.uptime := by
  unfold Part.startReader
  dsimp only
  split
  next hc =>
    split
    · exact .inl rfl
    next r hr =>
      refine .inr ⟨r, (List.mem_filter.mp (chooseRequest_mem hr)).1, ?_, rfl⟩
      simp_all
  · exact .inl rfl

/-- What no start of a read in an idle column ends holds of a column after the readers have started. -/
theorem Part.startReaders_keeps {K : Column → Prop}
    (hK : ∀ col r now, r ∈ col.readList → col.reader = none → K col → K (col.started r now)) {p : Part} {c : ColId}
    (h : K (p.column c)) : K (p.startReaders.column c) := by
  refine foldl_induct (P := fun q : Part => K (q.column c)) _ (fun q d hq => ?_) h
  rcases q.startReader_cases d with e | ⟨r, hr, hn, e⟩
  · rwa [e]
  · rw [e]
    exact Part.updColumn_keeps (hK _ r _ hr hn) hq

/-- A column whose reader is reading is left alone. -/
theorem Part.startReaders_of_reading {p : Part} {c : ColId} {rd : Read} (h : (p.column c).reader = some rd) :
    p.startReaders.column c = p.column c :=
  Part.startReaders_keeps (K := fun col => col = p.column c) (fun col r _ _ hn e => by simp [e, h] at hn) rfl

/-- What no start of a read in an idle column ends holds of a column after the settling of a quiet part. -/
theorem Part.settle_quiet_keeps {K : Column → Prop}
    (hK : ∀ col r now, r ∈ col.readList → col.reader = none → K col → K (col.started r now)) {p : Part} {c : ColId}
    (hh : p.halted = false) (hq : p.quiet) (h : K (p.column c)) : K (p.settle.column c) := by
  rw [Part.settle_of_quiet hh hq, Part.decideDrives_column]
  exact Part.startReaders_keeps hK h

theorem Part.settle_quiet_slot {p : Part} (hh : p.halted = false) (hq : p.quiet) (x : SlotId) :
    p.settle.slot x = p.slot x := by
  rw [Part.settle_of_quiet hh hq, Part.decideDrives_slot, Part.startReaders_slot]

theorem Part.settle_quiet_queue {p : Part} (hh : p.halted = false) (hq : p.quiet) :
    p.settle.sched.queue = p.sched.queue := by
  rw [Part.settle_of_quiet hh hq]
  simp

/-! ## The audit -/

/-- Whether a slot is auditable is a question of its record, of the reads of its column and of the queue (R38). -/
theorem Part.auditable_congr {p q : Part} {x : SlotId} (hl : (q.column x.col).readList = (p.column x.col).readList)
    (hr : (q.column x.col).reader = (p.column x.col).reader) (hx : q.record x = p.record x)
    (hq : q.sched.queue = p.sched.queue) : q.auditable x = p.auditable x := by
  simp only [Part.auditable, Part.staffSlotOn, hl, hr, hx, hq]

/-- No read of an auditable slot is asked for or in progress (R38). -/
theorem Part.auditable_unread {p : Part} {x : SlotId} (h : p.auditable x = true) :
    (p.column x.col).readsElsewhere x.pos ∧ ∀ r ∈ (p.column x.col).readList, r.pos ≠ x.pos := by
  simp only [Part.auditable, Bool.and_eq_true, Bool.not_eq_true', Option.any_eq_false, List.any_eq_false] at h
  obtain ⟨⟨⟨-, hl⟩, hr⟩, -⟩ := h
  exact ⟨fun rd e => by simpa using hr rd e, fun r hm => by simpa using hl r hm⟩

theorem auditWalk_find (pointer : PosId) (f : PosId → Bool) {k : Nat} (hk : k < 24)
    (hf : f (pointer + 1 + Fin.ofNat 24 k) = true) (hj : ∀ j, j < k → f (pointer + 1 + Fin.ofNat 24 j) = false) :
    (auditWalk pointer).find? f = some (pointer + 1 + Fin.ofNat 24 k) := by
  have hget : ∀ j (h : j < (auditWalk pointer).length), (auditWalk pointer)[j] = pointer + 1 + Fin.ofNat 24 j := by
    intro j h
    have hlt : j < 24 := by simpa [auditWalk, allPos] using h
    simp [auditWalk, allPos, Fin.ofNat, Nat.mod_eq_of_lt hlt]
  refine List.find?_eq_some_iff_getElem.mpr ⟨hf, k, by simpa [auditWalk, allPos] using hk, hget .., fun j hjk => ?_⟩
  rw [hget, hj j hjk]
  rfl

theorem auditWalk_find_none (pointer : PosId) {f : PosId → Bool} (hf : ∀ i, f i = false) :
    (auditWalk pointer).find? f = none :=
  List.find?_eq_none.mpr fun i _ => by simp [hf i]

/-- An AUDIT request of a position stands alone there, or a read of it for AUDIT is in progress. -/
def Column.audits (col : Column) (i : PosId) : Prop :=
  ((∃ r ∈ col.readList, r.pos = i ∧ r.purpose = .audit) ∧ ∀ r ∈ col.readList, r.pos = i → r.purpose = .audit) ∨
  ∃ rd, col.reader = some rd ∧ rd.pos = i ∧ rd.purpose = .audit

theorem Column.audits.started {col : Column} {i : PosId} (h : col.audits i) {r : ReadRequest} (hr : r ∈ col.readList)
    (hn : col.reader = none) (now : Ms) : (col.started r now).audits i := by
  rcases h with ⟨⟨a, ha, hp, hu⟩, hall⟩ | ⟨rd, hrd, -⟩
  · by_cases hi : r.pos = i
    · exact .inr ⟨_, rfl, hi, hall r hr hi⟩
    · refine .inl ⟨⟨a, List.mem_filter.mpr ⟨ha, ?_⟩, hp, hu⟩, fun q hq => hall q (List.mem_filter.mp hq).1⟩
      simp only [bne_iff_ne, ne_eq, hp]
      exact fun e => hi e.symm
  · simp [hn] at hrd

/-- An AUDIT request placed where no read is asked for or in progress (R26). -/
theorem Column.place_audits {col : Column} {i : PosId} (hw : col.engine.watches = true) (hr : col.readsElsewhere i)
    (hl : ∀ r ∈ col.readList, r.pos ≠ i) : (col.place i .audit).audits i := by
  have hent : enterRequest col.readList i .audit = col.readList ++ [⟨i, .audit⟩] := by
    unfold enterRequest
    rw [List.find?_eq_none.mpr fun r hm => by simpa using hl r hm]
  have haud : ∀ col' : Column, col'.readList = col.readList ++ [⟨i, .audit⟩] → col'.audits i := by
    intro col' e
    refine .inl ⟨⟨⟨i, .audit⟩, by simp [e], rfl, rfl⟩, fun r hm hp => ?_⟩
    rw [e] at hm
    rcases List.mem_append.mp hm with hm | hm
    · exact absurd hp (hl r hm)
    · rw [List.mem_singleton.mp hm]
  unfold Column.place
  rw [if_pos hw]
  split
  next rd hrd =>
    rw [if_neg (hr rd hrd)]
    exact haud _ hent
  next => exact haud _ hent

theorem Column.place_audit (col : Column) (i : PosId) (x : Purpose) :
    (col.place i x).auditNext = col.auditNext ∧ (col.place i x).auditPointer = col.auditPointer := by
  unfold Column.place
  repeat' split
  all_goals exact ⟨rfl, rfl⟩

/-- The part at the moment of an audit tick, the next one 5 s ahead. -/
def Part.ticking (p : Part) (c : ColId) (moment : Ms) : Part :=
  (p.advanceTo moment).updColumn c fun col => { col with auditNext := some (moment + Config.auditPeriod) }

@[simp] theorem Part.ticking_frame (p : Part) (c : ColId) (moment : Ms) :
    (p.ticking c moment).fleet = p.fleet ∧ (p.ticking c moment).book = p.book ∧ (p.ticking c moment).chute = p.chute ∧
    (p.ticking c moment).supply = p.supply ∧ (p.ticking c moment).sched.queue = p.sched.queue := by
  simp [Part.ticking]

theorem Part.ticking_column (p : Part) (c : ColId) (moment : Ms) :
    (p.ticking c moment).column c = { p.column c with auditNext := some (moment + 5000) } := by
  rw [Part.ticking, Part.column_updColumn_self, Part.column_congr (Part.advanceTo_frame ..).1]

theorem Part.ticking_slot (p : Part) (c : ColId) (moment : Ms) (x : SlotId) : (p.ticking c moment).slot x = p.slot x :=
  (Part.slot_updColumn rfl x).trans (Part.advanceTo_slot ..)

theorem Part.ticking_auditable (p : Part) (c : ColId) (moment : Ms) (i : PosId) :
    (p.ticking c moment).auditable ⟨c, i⟩ = p.auditable ⟨c, i⟩ := by
  refine Part.auditable_congr ?_ ?_ (Part.record_of_slot (Part.ticking_slot ..)) (by simp)
  · show ((p.ticking c moment).column c).readList = _
    rw [Part.ticking_column]
  · show ((p.ticking c moment).column c).reader = _
    rw [Part.ticking_column]

/-- An audit step changes its column alone, and there the reads and the pointer (R38). -/
theorem Part.auditStep_cases (p : Part) (c : ColId) : p.auditStep c = p ∨
    ∃ i, p.auditStep c = p.updColumn c fun col => { col.place i .audit with auditPointer := i } := by
  unfold Part.auditStep
  split
  · exact .inl rfl
  · exact .inr ⟨_, rfl⟩

@[simp] theorem Part.auditStep_frame (p : Part) (c : ColId) :
    (p.auditStep c).uptime = p.uptime ∧ (p.auditStep c).fleet = p.fleet ∧ (p.auditStep c).book = p.book ∧
    (p.auditStep c).chute = p.chute ∧ (p.auditStep c).supply = p.supply ∧ (p.auditStep c).sched = p.sched := by
  rcases p.auditStep_cases c with e | ⟨i, e⟩ <;> simp [e]

theorem Part.auditStep_slot (p : Part) (c : ColId) (x : SlotId) : (p.auditStep c).slot x = p.slot x := by
  rcases p.auditStep_cases c with e | ⟨i, e⟩
  · rw [e]
  · rw [e]
    refine Part.slot_updColumn ?_ x
    exact Column.place_slots (p.column c) i .audit

theorem Part.auditStep_auditNext (p : Part) (c : ColId) :
    ((p.auditStep c).column c).auditNext = (p.column c).auditNext := by
  rcases p.auditStep_cases c with e | ⟨i, e⟩
  · rw [e]
  · rw [e, Part.column_updColumn_self]
    exact (Column.place_audit (p.column c) i .audit).1

theorem Part.auditStep_some {p : Part} {c : ColId} {i : PosId}
    (h : ((auditWalk (p.column c).auditPointer).find? fun i => p.auditable ⟨c, i⟩) = some i) :
    (p.auditStep c).column c = { (p.column c).place i .audit with auditPointer := i } := by
  simp only [Part.auditStep, h, Part.column_updColumn_self]

theorem Part.auditStep_none {p : Part} {c : ColId}
    (h : ((auditWalk (p.column c).auditPointer).find? fun i => p.auditable ⟨c, i⟩) = none) : p.auditStep c = p := by
  simp only [Part.auditStep, h]

/-- A change of one column that moves no engine and completes no reconciliation. -/
theorem Part.quiet.updColumn {p : Part} (h : p.quiet) {c : ColId} {f : Column → Column}
    (hf : ∀ col, (f col).engine = col.engine ∧ (f col).unreconciled = col.unreconciled) : (p.updColumn c f).quiet :=
  h.of_columns fun d => Part.updColumn_keeps
    (K := fun col => col.engine = (p.column d).engine ∧ col.unreconciled = (p.column d).unreconciled)
    (fun e => ⟨(hf _).1.trans e.1, (hf _).2.trans e.2⟩) ⟨rfl, rfl⟩

theorem Part.quiet.congr {p q : Part} (h : p.quiet) (hc : q.columns = p.columns) : q.quiet :=
  h.of_columns fun c => by rw [Part.column_congr hc]; exact ⟨rfl, rfl⟩

theorem Part.quiet.auditStep {p : Part} (h : p.quiet) (c : ColId) : (p.auditStep c).quiet := by
  rcases p.auditStep_cases c with e | ⟨i, e⟩
  · rwa [e]
  · rw [e]
    exact h.updColumn fun col => Column.place_frame ..

/-- The part after an audit tick, before its settling. -/
def Part.audited (p : Part) (c : ColId) (moment : Ms) : Part := (p.ticking c moment).auditStep c

@[simp] theorem Part.audited_frame (p : Part) (c : ColId) (moment : Ms) :
    (p.audited c moment).fleet = p.fleet ∧ (p.audited c moment).book = p.book ∧
    (p.audited c moment).chute = p.chute ∧ (p.audited c moment).supply = p.supply ∧
    (p.audited c moment).sched.queue = p.sched.queue := by
  simp [Part.audited]

theorem Part.audited_uptime {p : Part} (hh : p.halted = false) (c : ColId) (moment : Ms) :
    (p.audited c moment).uptime = p.timeAt moment :=
  (Part.auditStep_frame ..).1.trans (Part.advanceTo_uptime hh moment)

theorem Part.audited_quiet {p : Part} (h : p.quiet) (c : ColId) (moment : Ms) : (p.audited c moment).quiet := by
  have hadvanced : (p.advanceTo moment).quiet := h.congr (Part.advanceTo_frame ..).1
  have hticking : (p.ticking c moment).quiet := Part.quiet.updColumn hadvanced fun _ => ⟨rfl, rfl⟩
  exact hticking.auditStep c

theorem Part.audited_auditNext (p : Part) (c : ColId) (moment : Ms) :
    ((p.audited c moment).column c).auditNext = some (moment + 5000) := by
  rw [Part.audited, Part.auditStep_auditNext, Part.ticking_column]

/-- Where no slot of the column is auditable the pointer stays (R38). -/
theorem Part.audited_none {p : Part} {c : ColId} (moment : Ms) (h : ∀ i, p.auditable ⟨c, i⟩ = false) :
    ((p.audited c moment).column c).auditPointer = (p.column c).auditPointer := by
  have hnone : ∀ i, (p.ticking c moment).auditable ⟨c, i⟩ = false := fun i => (Part.ticking_auditable ..).trans (h i)
  rw [Part.audited, Part.auditStep_none (auditWalk_find_none _ hnone), Part.ticking_column]

/-- The first auditable slot of the walk gets the pointer and, in a column that has a read list, an AUDIT request (R38). -/
theorem Part.audited_some {p : Part} {c : ColId} (moment : Ms) {k : Nat} (hk : k < 24)
    (h : p.auditable ⟨c, (p.column c).auditPointer + 1 + Fin.ofNat 24 k⟩ = true)
    (hj : ∀ j, j < k → p.auditable ⟨c, (p.column c).auditPointer + 1 + Fin.ofNat 24 j⟩ = false) :
    ((p.audited c moment).column c).auditPointer = (p.column c).auditPointer + 1 + Fin.ofNat 24 k ∧
    ((p.column c).engine.watches = true →
      ((p.audited c moment).column c).audits ((p.column c).auditPointer + 1 + Fin.ofNat 24 k)) := by
  have hcol := p.ticking_column c moment
  have hfind := auditWalk_find (p.column c).auditPointer (fun i => p.auditable ⟨c, i⟩) hk h hj
  have hstep : (p.audited c moment).column c = { ((p.ticking c moment).column c).place
      ((p.column c).auditPointer + 1 + Fin.ofNat 24 k) .audit with
      auditPointer := (p.column c).auditPointer + 1 + Fin.ofNat 24 k } := by
    refine Part.auditStep_some ?_
    simp only [Part.ticking_auditable]
    rwa [hcol]
  obtain ⟨hread, hlist⟩ := Part.auditable_unread h
  rw [hstep]
  refine ⟨rfl, fun hw => ?_⟩
  refine Column.place_audits (col := (p.ticking c moment).column c) ?_ ?_ ?_
  all_goals rwa [hcol]

theorem exec_auditTick {c : ColId} {moment : Ms} {s : State} (hh : s.part.halted = false)
    (h : (s.part.column c).auditNext = some moment) :
    exec (.auditTick c) s = .next { s with part := (s.part.audited c moment).settle } := by
  dsimp only [exec, execAuditTick]
  refine State.liveHandle_some hh ?_
  simp only [Part.tick, h]
  rfl

/-! ## The statement -/

/-- The part whose reader goes on with its next attempt (R24). -/
def Part.nextAttempt (p : Part) (c : ColId) (rd : Read) (bytes : List Byte) : Part :=
  (p.attemptOver rd.since bytes).updColumn c fun col =>
    { col with reader := some (rd.next (p.attemptOver rd.since bytes).uptime) }

theorem Part.nextAttempt_column (p : Part) (c : ColId) (rd : Read) (bytes : List Byte) :
    (p.nextAttempt c rd bytes).column c =
      { p.column c with reader := some (rd.next (p.nextAttempt c rd bytes).uptime) } := by
  rw [Part.nextAttempt, Part.column_updColumn_self, Part.attemptOver_column]
  rfl

/-- The next attempt, after the settling of a quiet part. -/
theorem Part.nextAttempt_settled {p : Part} (hh : p.halted = false) (hq : p.quiet) (c : ColId) (rd : Read)
    (bytes : List Byte) :
    let q := (p.nextAttempt c rd bytes).settle
    q.uptime = (if bytes.length < 6 then p.timeAt (rd.since + 40) else p.uptime) ∧
    q.column c = { p.column c with reader := some (rd.next q.uptime) } ∧ p.sameSlots q ∧
    q.fleet = p.fleet ∧ q.book = p.book ∧ q.chute = p.chute ∧ q.sched.queue = p.sched.queue ∧ q.supply = p.supply ∧
    q.alarm.list = p.alarm.list ∧ q.lines.notices = p.lines.notices := by
  have hquiet : (p.nextAttempt c rd bytes).quiet := (hq.congr (Part.attemptOver_frame ..).1).updColumn fun _ => ⟨rfl, rfl⟩
  have hcol := p.nextAttempt_column c rd bytes
  rw [Part.settle_of_quiet (by simpa [Part.halted, Part.nextAttempt] using hh) hquiet]
  have hup : (p.nextAttempt c rd bytes).startReaders.decideDrives.uptime = (p.nextAttempt c rd bytes).uptime := by simp
  refine ⟨hup.trans (Part.attemptOver_uptime hh ..), ?_, fun x => ?_, ?_⟩
  · rw [hup, Part.decideDrives_column, Part.startReaders_of_reading (congrArg Column.reader hcol), hcol]
  · rw [Part.decideDrives_slot, Part.startReaders_slot, Part.nextAttempt, Part.slot_updColumn rfl, Part.attemptOver_slot]
  · simp [Part.nextAttempt]

/-- Settles O43: each of the three handlings changes one column or the drop alone, and the settling of a quiet part starts
readers, which leaves a column that is reading alone and moves an AUDIT request to the reader at most. -/
theorem readerAndAudit : Obligations.ReaderAndAudit := by
  unfold Obligations.ReaderAndAudit
  refine ⟨?_, ?_, ?_⟩
  · intro c bytes rd s hh hquiet hr hn ha
    have hnext : s.part.attemptEnd c bytes = some (s.part.nextAttempt c rd bytes) := by
      rw [Part.attemptEnd_not_good hr hn, if_pos ha]
      rfl
    obtain ⟨hup, hcol, hslot, hrest⟩ := Part.nextAttempt_settled hh hquiet c rd bytes
    refine ⟨_, exec_readAttemptEnd hh hnext, rfl, hup, ?_, ?_, hslot, hrest⟩
    · exact congrArg Column.reader hcol
    · show ((s.part.nextAttempt c rd bytes).settle.column c).readList = _
      rw [hcol]
  · intro bytes detected n since s hh hd hn hlt
    exact ⟨_, exec_chuteReadAttemptEnd hh (Part.mouthAttempt_next hd hn hlt), rfl, Part.attemptOver_uptime hh since bytes,
      rfl, by simp⟩
  · intro c moment s hh hquiet hm
    have hq := Part.audited_quiet hquiet c moment
    have hnh : (s.part.audited c moment).halted = false := by simpa [Part.halted] using hh
    have hslot : s.part.sameSlots (s.part.audited c moment).settle := fun x => by
      rw [Part.settle_quiet_slot hnh hq, Part.audited, Part.auditStep_slot, Part.ticking_slot]
    have hnext : ((s.part.audited c moment).settle.column c).auditNext = some (moment + 5000) :=
      Part.settle_quiet_keeps (K := fun col => col.auditNext = some (moment + 5000)) (fun _ _ _ _ _ h => h) hnh hq
        (Part.audited_auditNext ..)
    have hpointer : ((s.part.audited c moment).settle.column c).auditPointer =
        ((s.part.audited c moment).column c).auditPointer :=
      Part.settle_quiet_keeps (K := fun col => col.auditPointer = ((s.part.audited c moment).column c).auditPointer)
        (fun _ _ _ _ _ h => h) hnh hq rfl
    have hqueue := (Part.settle_quiet_queue hnh hq).trans (Part.audited_frame s.part c moment).2.2.2.2
    refine ⟨_, exec_auditTick hh hm, rfl, ?_, hnext, fun hnone => hpointer.trans (Part.audited_none moment hnone), ?_, hslot,
      by simp, by simp, by simp, hqueue, by simp⟩
    · exact (Part.settle_frame _).1.trans (Part.audited_uptime hh c moment)
    · intro k hk i haud hbefore
      obtain ⟨hp, haudits⟩ := Part.audited_some moment hk haud hbefore
      refine ⟨hpointer.trans hp, fun hw => ?_⟩
      rcases Part.settle_quiet_keeps (K := fun col => col.audits i) (fun _ _ now hr hn h => h.started hr hn now) hnh hq
        (haudits hw) with ⟨h, -⟩ | h
      · exact .inl h
      · exact .inr h

end Sys2Proof.Machine
end

section
/-! PROOFS. The end of a read (R24, R29): the part it is handled in and the settling after it, and what selections, endings
and settlings leave of the record of the slot, of the alarms and of the notice queue. -/

namespace Sys2Proof.Machine

/-! ## Records that the scheduler leaves alone -/

/-- A record that no selection changes: it is not HELD (R10). -/
def Custody.notHeld (k : Custody) : Prop := ∀ tag unit m f, k ≠ .held tag unit m f

theorem Custody.notHeld.released {k : Custody} (h : k.notHeld) (kind : VehicleKind) : k.released kind = k := by
  cases k with
  | held tag unit m f => exact absurd rfl (h tag unit m f)
  | _ => rfl

/-- Every live request on a slot is of the kind STAFF_SLOT. -/
def Part.staffOnly (p : Part) (x : SlotId) : Prop := ∀ r ∈ p.requests, r.slot = x → r.target = .staffSlot

theorem Part.staffOnly_iff (p : Part) (x : SlotId) : p.staffOnly x ↔ ∀ r ∈ p.liveOn x, r.target = .staffSlot := by
  simp [Part.staffOnly, Part.requests, Part.liveOn, Release.bare]

theorem Part.noneOn.staffOnly {p : Part} {x : SlotId} (h : p.noneOn x) : p.staffOnly x := fun r hr hx => absurd hx (h r hr)

theorem Part.staffOnly.queue {p : Part} {x : SlotId} (h : p.staffOnly x) :
    ∀ r ∈ p.sched.queue, r.slot = x → r.target = .staffSlot :=
  fun r hr => h r.bare (Part.mem_requests_of_queue hr)

theorem Part.staffOnly.of_requests {p q : Part} {x : SlotId} (h : p.staffOnly x)
    (hr : ∀ r ∈ q.requests, r ∈ p.requests) : q.staffOnly x := fun r hm => h r (hr r hm)

@[simp] theorem Part.record_setCustody (p : Part) (x : SlotId) (k : Custody) :
    (p.setCustody x k).record x = { p.record x with custody := k } := by
  simp [Part.setCustody]

@[simp] theorem Part.record_updLatch (p : Part) (x y : SlotId) (f : Latch → Latch) :
    (p.updLatch x f).record y = p.record y := by
  simp [Part.updLatch]

@[simp] theorem Part.record_openRelease (p : Part) (r : Release) (x : SlotId) : (p.openRelease r).record x = p.record x := by
  show (p.strike r.slot).record x = _
  simp [Part.strike]

/-- A slot whose record no selection changes: it is not HELD, or no live request on it is for a vehicle. -/
def Part.steady (p : Part) (x : SlotId) (k : SlotRecord) : Prop :=
  p.record x = k ∧ (k.custody.notHeld ∨ p.staffOnly x)

section steady

variable {p : Part} {x : SlotId} {k : SlotRecord}

theorem Part.steady.of_record {q : Part} (h : p.steady x k) (hx : q.record x = p.record x)
    (hr : ∀ r ∈ q.requests, r ∈ p.requests) : q.steady x k :=
  ⟨hx.trans h.1, h.2.imp_right fun hs => hs.of_requests hr⟩

theorem Part.steady.of_same {q : Part} (h : p.steady x k) (hx : q.record x = p.record x)
    (hr : q.requests = p.requests) : q.steady x k := h.of_record hx fun _ hm => hr ▸ hm

/-- A selection that is made for the slot is for a record that is not HELD, or of a STAFF_SLOT request. -/
theorem Part.steady.selectOne (h : p.steady x k) {r : Release} (hw : p.winner = some r) : (p.selectOne r).steady x k := by
  refine h.of_same ?_ (Part.selectOne_sched p r).1
  rcases eq_or_ne r.slot x with rfl | hx
  · cases hv : r.target.vehicleKind with
    | none =>
      rw [Part.selectOne_staffSlot p hv, Part.record_openRelease, Part.record_of_slot (Part.requeueRead_slot ..)]
      rfl
    | some kind =>
      have hnot : (p.custody r.slot).notHeld := by
        rw [Part.custody, h.1]
        refine h.2.resolve_right fun hs => ?_
        rw [hs.queue r (Part.winner_mem hw).1 rfl] at hv
        cases hv
      rw [Part.selectOne_vehicle p hv, Part.record_of_slot (Part.placeRead_slot ..), Part.record_setCustody,
        hnot.released]
      rfl
  · exact Part.record_of_slot (Part.selectOne_slot_of_ne p hx)

theorem Part.steady.selection (h : p.steady x k) : p.selection.steady x k :=
  Part.selection_induct (P := fun q => q.steady x k) (fun _ _ hq hw => hq.selectOne hw) h

theorem Part.steady.settle (h : p.steady x k) : p.settle.steady x k := by
  refine Part.settle_induct (P := fun q => q.steady x k) ?_ (fun _ _ hq hw => hq.selectOne hw) ?_ (fun _ hq => hq) h
  · exact fun q c hq _ => hq.of_same (Part.record_of_slot (Part.runColumn_slot q c x)) (Part.requests_congr (by simp))
  · exact fun q c hq => hq.of_same (Part.record_of_slot (Part.startReader_slot q c x)) (Part.requests_congr (by simp))

/-- The ending of a STAFF_SLOT request leaves the record of its slot alone (R75). -/
theorem Part.leaveSlot_record_staffSlot (p : Part) {r : Release} (h : r.target = .staffSlot) (o : ReleaseOutcome)
    (x : SlotId) : (p.leaveSlot r o).record x = p.record x := by
  unfold Part.leaveSlot
  rw [h]
  cases r.phase with
  | waiting => simp [Target.vehicleKind]
  | verifying t => simpa [Target.vehicleKind] using Part.record_of_slot (Part.dropVerify_slot p r.slot x)
  | opened a b c d => simp [Target.vehicleKind, Part.stopLatch]

theorem Part.steady.endRelease (h : p.steady x k) (hs : p.staffOnly x) {r : Release} (hr : r ∈ p.sched.queue)
    (o : ReleaseOutcome) : (p.endRelease r o).steady x k := by
  rw [Part.endRelease_eq]
  refine (h.of_record ?_ ?_).selection
  · rw [Part.record_of_slot (Part.slot_congr (Part.leave_columns ..) x)]
    by_cases hx : r.slot = x
    · exact Part.leaveSlot_record_staffSlot _ (hs.queue r hr hx) o x
    · exact Part.record_of_slot (Part.leaveSlot_slot_of_ne _ o hx)
  · rw [Part.leave_requests]
    exact fun q hq => (List.mem_filter.mp hq).1

theorem Part.staffOnly.endRelease {p : Part} {x : SlotId} (h : p.staffOnly x) (r : Release) (o : ReleaseOutcome) :
    (p.endRelease r o).staffOnly x :=
  h.of_requests fun q hq => by
    rw [Part.endRelease_requests] at hq
    exact (List.mem_filter.mp hq).1

theorem Part.steady.endAll (h : p.steady x k) (hs : p.staffOnly x) (l : List Release) (o : ReleaseOutcome) :
    (p.endAll l o).steady x k :=
  (Part.endAll_induct (P := fun q => q.steady x k ∧ q.staffOnly x)
    (fun _ r hq hr _ => ⟨hq.1.endRelease hq.2 hr o, hq.2.endRelease r o⟩) ⟨h, hs⟩).1

end steady

/-! ## Alarms that are over after endings and settlings -/

theorem Part.silent_endCondition {p : Part} (h : p.alarmsDistinct) (k : AlarmKind) (x : Subject) :
    (p.endCondition k x).silent k x := ⟨h.endCondition, Part.endCondition_over h k x⟩

theorem Part.silent.settle {p : Part} {k : AlarmKind} {x : Subject} (h : p.silent k x) : p.settle.silent k x := by
  refine Part.settle_induct (P := fun q => q.silent k x) ?_ ?_ ?_ (fun _ hq => hq) h
  · intro q c hq _
    have hr : ((q.updColumn c fun col => { col with engine := .running }).followAudit c).silent k x :=
      hq.of_alarm (by simp)
    exact hr.endCondition ..
  · exact fun q r hq _ => hq.of_alarm (by simp)
  · exact fun q c hq => hq.of_alarm (by simp)

/-! ## Notices -/

/-- What keeps notices of alarms, and what leaves the notice queue alone. -/
structure Part.NoticeStable (P : Part → Prop) : Prop where
  lines : ∀ q q' : Part, q'.lines.notices = q.lines.notices →
    q'.lines.flags.noticesLost = q.lines.flags.noticesLost → P q → P q'
  raised : ∀ q n k x m, P q → P (q.notice (.alarmRaised n k x m))
  cleared : ∀ q n k x m b, P q → P (q.notice (.alarmCleared n k x m b))

section noticeStable

variable {P : Part → Prop} (h : Part.NoticeStable P) {p : Part}
include h

theorem Part.NoticeStable.announceRaise (hp : P p) (n : Nat) (k : AlarmKind) (x : Subject) : P (p.announceRaise n k x) :=
  h.lines (p.notice (.alarmRaised n k x p.minute)) _ rfl rfl (h.raised _ _ _ _ _ hp)

theorem Part.NoticeStable.makeAlarm (hp : P p) (k : AlarmKind) (x : Subject) : P (p.makeAlarm k x) := by
  unfold Part.makeAlarm
  refine h.announceRaise ?_ _ _ _
  exact h.lines p _ rfl rfl hp

theorem Part.NoticeStable.raise (hp : P p) (k : AlarmKind) (x : Subject) : P (p.raise k x) := by
  unfold Part.raise
  split
  next a _ =>
    split
    · exact hp
    · exact hp
    · refine h.announceRaise ?_ _ _ _
      exact h.lines p _ rfl rfl hp
  next =>
    split
    · exact h.makeAlarm hp k x
    · split
      · refine h.makeAlarm ?_ k x
        exact h.lines p _ rfl rfl hp
      · exact h.lines p _ rfl rfl hp

theorem Part.NoticeStable.endCondition (hp : P p) (k : AlarmKind) (x : Subject) : P (p.endCondition k x) := by
  unfold Part.endCondition
  split
  · exact hp
  · split
    · exact h.cleared _ _ _ _ _ _ (h.lines p _ rfl rfl hp)
    · exact h.cleared _ _ _ _ _ _ (h.lines p _ rfl rfl hp)
    · exact hp

theorem Part.NoticeStable.settle (hp : P p) : P p.settle := by
  refine Part.settle_induct ?_ ?_ ?_ (fun q hq => h.lines q _ rfl rfl hq) hp
  · exact fun q c hq _ => h.endCondition (h.lines q _ (by simp) (by simp) hq) ..
  · exact fun q r hq _ => h.lines q _ (by simp) (by simp) hq
  · exact fun q c hq => h.lines q _ (by simp) (by simp) hq

end noticeStable

theorem Part.reports.of_lines {p q q' : Part} {l : List NoticeBody} (h : p.reports q l)
    (hn : q'.lines.notices = q.lines.notices) (hl : q'.lines.flags.noticesLost = q.lines.flags.noticesLost) :
    p.reports q' l := by
  rwa [Part.reports, hn, hl]

/-- A notice joins those reported, at their end. -/
theorem Part.reports.notice {p q : Part} {l : List NoticeBody} (h : p.reports q l) (b : NoticeBody) :
    p.reports (q.notice b) (l ++ [b]) := by
  unfold Part.notice Part.reports at *
  dsimp only
  split
  · intro hl
    obtain ⟨new, hn, hs⟩ := h hl
    refine ⟨new ++ [⟨wrapNext 65535 q.lines.counter, q.minute, b⟩], by rw [hn, List.append_assoc], ?_⟩
    rw [List.map_append]
    exact hs.append (List.Sublist.refl _)
  · exact fun hl => absurd hl (by simp)

theorem Part.reports.sublist {p q : Part} {l l' : List NoticeBody} (h : p.reports q l) (hs : l'.Sublist l) :
    p.reports q l' := fun hl => (h hl).imp fun _ hn => ⟨hn.1, hs.trans hn.2⟩

theorem Part.reports.keep {p q : Part} {l : List NoticeBody} (h : p.reports q l) (b : NoticeBody) :
    p.reports (q.notice b) l := (h.notice b).sublist (List.sublist_append_left ..)

theorem Part.reports_refl (p : Part) : p.reports p [] := fun _ => ⟨[], by simp, by simp⟩

theorem Part.reports_stable (p : Part) (l : List NoticeBody) : Part.NoticeStable fun q => p.reports q l where
  lines := fun _ _ hn hl h => h.of_lines hn hl
  raised := fun _ _ _ _ _ h => h.keep _
  cleared := fun _ _ _ _ _ _ h => h.keep _

theorem Part.silentOn.notice {p q : Part} {K : NoticeBody → Prop} (h : p.silentOn q K) {b : NoticeBody} (hb : ¬ K b) :
    p.silentOn (q.notice b) K := by
  unfold Part.notice
  dsimp only
  split
  · intro n hn hk
    rcases List.mem_append.mp hn with hn | hn
    · exact h n hn hk
    · rw [List.mem_singleton.mp hn] at hk
      exact absurd hk hb
  · exact h

theorem Part.silentOn_stable (p : Part) {K : NoticeBody → Prop} (hr : ∀ n k x m, ¬ K (.alarmRaised n k x m))
    (hc : ∀ n k x m b, ¬ K (.alarmCleared n k x m b)) : Part.NoticeStable fun q => p.silentOn q K where
  lines := fun q q' hn _ h => by rwa [Part.silentOn, hn]
  raised := fun _ _ _ _ _ h => h.notice (hr _ _ _ _)
  cleared := fun _ _ _ _ _ _ h => h.notice (hc _ _ _ _ _)

/-! ## The end of a read -/

/-- The part in which the outcome of a read is handled: the attempt is over and the reader idle (R24, R29). -/
def Part.ending (p : Part) (c : ColId) (rd : Read) (bytes : List Byte) : Part :=
  (p.attemptOver rd.since bytes).updColumn c fun col => { col with reader := none }

/-- A handling of a read's outcome to its end: the slot counts as reconciled, and the handling settles (R158). -/
def Part.readSettled (p : Part) (c : ColId) (i : PosId) : Part :=
  (p.updColumn c fun col => { col with unreconciled := col.unreconciled.filter fun j => j != i }).settle

section ending

variable (p : Part) (c : ColId) (rd : Read) (bytes : List Byte)

@[simp] theorem Part.ending_frame :
    (p.ending c rd bytes).fleet = p.fleet ∧ (p.ending c rd bytes).book = p.book ∧
    (p.ending c rd bytes).chute = p.chute ∧ (p.ending c rd bytes).alarm = p.alarm ∧
    (p.ending c rd bytes).supply = p.supply ∧ (p.ending c rd bytes).lines = p.lines ∧
    (p.ending c rd bytes).sched.queue = p.sched.queue ∧ (p.ending c rd bytes).late.settings = p.late.settings := by
  simp only [Part.ending, Part.updColumn_fleet, Part.updColumn_book, Part.updColumn_chute, Part.updColumn_alarm,
    Part.updColumn_supply, Part.updColumn_lines, Part.updColumn_sched, Part.updColumn_late, Part.attemptOver_frame, true_and]
  unfold Part.attemptOver Part.advanceTo
  split
  · split <;> simp
  · rfl

theorem Part.ending_slot (x : SlotId) : (p.ending c rd bytes).slot x = p.slot x :=
  (Part.slot_updColumn rfl x).trans (Part.attemptOver_slot ..)

theorem Part.ending_record (x : SlotId) : (p.ending c rd bytes).record x = p.record x :=
  Part.record_of_slot (Part.ending_slot ..)

theorem Part.ending_custody (x : SlotId) : (p.ending c rd bytes).custody x = p.custody x :=
  Part.custody_of_slot (Part.ending_slot ..)

theorem Part.ending_requests : (p.ending c rd bytes).requests = p.requests := Part.requests_congr (by simp)

end ending

theorem Part.ending_good {p : Part} {bytes : List Byte} {tag kind : Nat} (h : classify bytes = .good tag kind) (c : ColId)
    (rd : Read) : (p.ending c rd bytes).uptime = p.uptime ∧ (p.ending c rd bytes).minute = p.minute := by
  rw [Part.ending, Part.attemptOver_good h]
  exact ⟨rfl, rfl⟩

section exec

variable {s : State} {c : ColId} {rd : Read} {bytes : List Byte} (hh : s.part.halted = false)
  (hr : (s.part.column c).reader = some rd)
include hh hr

/-- A GOOD attempt ends the read GOOD (R24). -/
theorem exec_read_good {tag kind : Nat} (h : classify bytes = .good tag kind) :
    exec (.readAttemptEnd c bytes) s = .next { s with part :=
      ((s.part.ending c rd bytes).readOutcome ⟨c, rd.pos⟩ rd.servedRecheck (.good tag kind)).readSettled c rd.pos } := by
  rw [exec_readAttemptEnd hh (Part.attemptEnd_good hr h), Part.ending, Part.attemptOver_good h]
  rfl

/-- The third attempt that is not GOOD ends the read UNREADABLE (R24). -/
theorem exec_read_unreadable (h : ∀ tag kind, classify bytes ≠ .good tag kind) (ha : 3 ≤ rd.attempt) :
    exec (.readAttemptEnd c bytes) s = .next { s with part :=
      ((s.part.ending c rd bytes).readOutcome ⟨c, rd.pos⟩ rd.servedRecheck .unreadable).readSettled c rd.pos } := by
  rw [exec_readAttemptEnd hh (Part.attemptEnd_unreadable hr h ha)]
  rfl

end exec

section readSettled

variable {p : Part} {c : ColId} {i : PosId}

@[simp] theorem Part.readSettled_frame (p : Part) (c : ColId) (i : PosId) :
    (p.readSettled c i).uptime = p.uptime ∧ (p.readSettled c i).fleet = p.fleet ∧
    (p.readSettled c i).book = p.book ∧ (p.readSettled c i).chute = p.chute ∧ (p.readSettled c i).late = p.late ∧
    (p.readSettled c i).supply = p.supply := by
  simp [Part.readSettled]

theorem Part.readSettled_requests (p : Part) (c : ColId) (i : PosId) :
    (p.readSettled c i).requests = p.requests ∧ (p.readSettled c i).sched.ended = p.sched.ended :=
  Part.settle_requests _

theorem Part.steady.readSettled {x : SlotId} {k : SlotRecord} (h : p.steady x k) : (p.readSettled c i).steady x k := by
  refine Part.steady.settle (h.of_same (Part.record_of_slot (Part.slot_updColumn rfl x)) ?_)
  exact Part.requests_congr rfl

theorem Part.sounds.readSettled {k : AlarmKind} {x : Subject} (h : p.sounds k x) (hk : k ≠ .columnLost) :
    (p.readSettled c i).sounds k x := by
  refine Part.sounds.settle (h.of_alarm rfl) fun _ e => absurd e hk

theorem Part.silent.readSettled {k : AlarmKind} {x : Subject} (h : p.silent k x) : (p.readSettled c i).silent k x :=
  Part.silent.settle (h.of_alarm rfl)

theorem Part.NoticeStable.readSettled {P : Part → Prop} (h : Part.NoticeStable P) (hp : P p) : P (p.readSettled c i) :=
  h.settle (h.lines p _ rfl rfl hp)

end readSettled

end Sys2Proof.Machine
end

section
/-! PROOFS. The rows of R30 and the binding of a slot (R29 to R31, R92, R96 to R101): the parts that the outcomes of a read
lead to, and what becomes of the vehicles, the alarms and the notices there. -/

namespace Sys2Proof.Machine

/-! ## Vehicles found by tag and by home slot -/

/-- The unit number and the status of the first vehicle that answers a question. -/
def Part.known (p : Part) (k : Vehicle → Bool) : Option (Nat × VehicleStatus) :=
  (p.fleet.find? k).map fun v => (v.unit, v.status)

theorem Part.known_congr {p q : Part} (h : q.fleet = p.fleet) (k : Vehicle → Bool) : q.known k = p.known k := by
  rw [Part.known, Part.known, h]

theorem Part.find_updVehicle (p : Part) {k : Vehicle → Bool} {u : Nat} {f : Vehicle → Vehicle} (hk : ∀ v, k (f v) = k v) :
    (p.updVehicle u f).fleet.find? k = (p.fleet.find? k).map fun v => if v.unit = u then f v else v := by
  rw [Part.updVehicle_fleet, List.find?_map]
  have : k ∘ (fun v => if v.unit = u then f v else v) = k := by
    funext v
    simp only [Function.comp_apply]
    split <;> simp [hk]
  rw [this]

theorem Part.known_updVehicle (p : Part) {k : Vehicle → Bool} {u : Nat} {f : Vehicle → Vehicle} (hk : ∀ v, k (f v) = k v)
    (hf : ∀ v, (f v).unit = v.unit ∧ (f v).status = v.status) : (p.updVehicle u f).known k = p.known k := by
  rw [Part.known, Part.find_updVehicle p hk, Option.map_map, Part.known]
  congr 1
  funext v
  simp only [Function.comp_apply]
  split <;> simp [hf]

/-- A question that neither the links nor the status of a vehicle answer: its tag or its home slot. -/
def Vehicle.lasting (k : Vehicle → Bool) : Prop :=
  ∀ (v : Vehicle) (st : VehicleStatus) (n r : Option Nat) (m : Minute),
    k { v with status := st, contract := n, request := r, lastChange := m } = k v

theorem Vehicle.lasting_tag (tag : Nat) : Vehicle.lasting fun v => v.tag == tag := fun _ _ _ _ _ => rfl

theorem Vehicle.lasting_home (x : SlotId) : Vehicle.lasting fun v => v.home == some x := fun _ _ _ _ _ => rfl

section known

variable {k : Vehicle → Bool} (hk : Vehicle.lasting k) (p : Part)
include hk

theorem Part.known_dropContractLink (u : Nat) : (p.dropContractLink u).known k = p.known k :=
  Part.known_updVehicle p (fun v => hk v v.status none v.request v.lastChange) fun _ => ⟨rfl, rfl⟩

theorem Part.find_setStatus (u : Nat) (st : VehicleStatus) : (p.setStatus u st).fleet.find? k =
    (p.fleet.find? k).map fun v => if v.unit = u then { v with status := st, lastChange := p.minute } else v :=
  Part.find_updVehicle p fun v => hk v st v.contract v.request p.minute

/-- A change of status is known to a question that the vehicle answers. -/
theorem Part.known_setStatus (u : Nat) (st : VehicleStatus) :
    (p.setStatus u st).known k = (p.known k).map fun e => if e.1 = u then (u, st) else e := by
  rw [Part.known, Part.find_setStatus hk, Part.known, Option.map_map, Option.map_map]
  congr 1
  funext v
  simp only [Function.comp_apply]
  split <;> simp_all

theorem Part.known_deleteContract (n : Nat) : (p.deleteContract n).known k = p.known k := by
  rcases p.deleteContract_cases n with e | ⟨c, -, -, e⟩
  · rw [e]
  · rw [e, Part.known_dropContractLink hk]
    exact Part.known_congr rfl k

theorem Part.known_leaveLinks (r : Release) (o : ReleaseOutcome) : (p.leaveLinks r o).known k = p.known k := by
  have hq : (match r.target.unit with
      | some u => p.updVehicle u fun v => { v with request := none }
      | none => p).known k = p.known k := by
    split
    · exact Part.known_updVehicle p (fun v => hk v v.status v.contract none v.lastChange) fun _ => ⟨rfl, rfl⟩
    · rfl
  unfold Part.leaveLinks
  dsimp only
  split
  · split
    · exact hq
    · exact (Part.known_deleteContract hk _ _).trans hq
  · exact hq

theorem Part.known_endRelease (r : Release) (o : ReleaseOutcome) : (p.endRelease r o).known k = p.known k := by
  have hf : (p.endRelease r o).fleet = (((p.leaveQueue r o).leaveSlot r o).leaveLinks r o).fleet := by
    simp [Part.endRelease]
  rw [Part.known_congr hf, Part.known_leaveLinks hk]
  exact Part.known_congr ((p.leaveQueue r o).leaveSlot_frame r o).2.1 k

theorem Part.known_endAll (l : List Release) (o : ReleaseOutcome) : (p.endAll l o).known k = p.known k :=
  Part.endAll_induct (P := fun q => q.known k = p.known k) (fun q r hq _ _ => (Part.known_endRelease hk q r o).trans hq) rfl

end known

theorem Part.known_of_findTag {p : Part} {tag : Nat} {v : Vehicle} (h : p.findTag tag = some v) :
    p.known (fun w => w.tag == tag) = some (v.unit, v.status) := by
  rw [Part.known, show p.fleet.find? _ = _ from h]
  rfl

/-- The vehicle of a tag is known by its unit number and its status. -/
theorem Part.findTag_of_known {p : Part} {tag u : Nat} {st : VehicleStatus}
    (h : p.known (fun w => w.tag == tag) = some (u, st)) :
    ∃ v, p.findTag tag = some v ∧ v.tag = tag ∧ v.unit = u ∧ v.status = st := by
  obtain ⟨v, hv, e⟩ := Option.map_eq_some_iff.mp h
  simp only [Prod.mk.injEq] at e
  exact ⟨v, hv, by simpa using List.find?_some hv, e.1, e.2⟩

theorem Part.findTag_eq_none_iff (p : Part) (tag : Nat) :
    p.findTag tag = none ↔ p.known (fun w => w.tag == tag) = none := by
  rw [Part.known, Option.map_eq_none_iff]
  rfl

theorem Part.findTag_congr {p q : Part} (h : q.fleet = p.fleet) (tag : Nat) : q.findTag tag = p.findTag tag := by
  rw [Part.findTag, Part.findTag, h]

theorem Part.findTag_tag {p : Part} {tag : Nat} {v : Vehicle} (h : p.findTag tag = some v) : v.tag = tag := by
  simpa using List.find?_some h

/-! ## The rows of R30 -/

/-- The part in which an outcome is handled as an identification: the conditions of a FOREIGN record are over (R30). -/
def Part.unforeign (p : Part) (x : SlotId) : Part :=
  match p.custody x with
  | .foreign _ _ _ => p.endForeignConditions x
  | _ => p

theorem Part.unforeign_of_unread {p : Part} {x : SlotId} {m : Minute} (h : p.custody x = .unread m) : p.unforeign x = p := by
  rw [Part.unforeign, h]

theorem Part.unforeign_of_foreign {p : Part} {x : SlotId} {tag : Nat} {q : ForeignReason} {m : Minute}
    (h : p.custody x = .foreign tag q m) : p.unforeign x = p.endForeignConditions x := by
  rw [Part.unforeign, h]

@[simp] theorem Part.unforeign_frame (p : Part) (x : SlotId) :
    (p.unforeign x).columns = p.columns ∧ (p.unforeign x).fleet = p.fleet ∧ (p.unforeign x).sched = p.sched ∧
    (p.unforeign x).book = p.book ∧ (p.unforeign x).chute = p.chute ∧ (p.unforeign x).late = p.late ∧
    (p.unforeign x).supply = p.supply := by
  unfold Part.unforeign
  split <;> simp

section identify

variable {p : Part} {x : SlotId} {m : Minute} {tag kind : Nat}

theorem Part.identify_unreadable (p : Part) (x : SlotId) (m : Minute) :
    p.identify x m .unreadable = ((p.unforeign x).setCustody x (.unread m)).raise .fobUnread (.slot x) := by
  unfold Part.identify Part.unforeign
  cases p.custody x <;> rfl

theorem Part.identify_wrongKind (h : kind ≠ 1) :
    p.identify x m (.good tag kind) = (p.unforeign x).makeForeign x tag .wrongKind m .fobUnknown := by
  unfold Part.identify Part.unforeign
  cases p.custody x <;> simp [h]

/-- The row of a vehicle key, by the vehicle of its tag. -/
def Part.identifyKey (p : Part) (x : SlotId) (tag : Nat) (m : Minute) : Part :=
  match p.findTag tag with
  | none => p.makeForeign x tag .unknown m .fobUnknown
  | some v => match v.status with
    | .inSlot _ => p.makeForeign x tag .duplicate m .fobDuplicate
    | _ => p.bind x v m

theorem Part.identify_key (p : Part) (x : SlotId) (tag : Nat) (m : Minute) :
    p.identify x m (.good tag 1) = (p.unforeign x).identifyKey x tag m := by
  have hrow : ∀ q : Part, (match q.findTag tag with
      | none => q.makeForeign x tag .unknown m .fobUnknown
      | some v => match v.status with
        | .inSlot _ => q.makeForeign x tag .duplicate m .fobDuplicate
        | .out _ => q.bind x v m
        | .dropped _ => q.bind x v m
        | .stray => q.bind x v m
        | .away => q.bind x v m) = q.identifyKey x tag m := by
    intro q
    unfold Part.identifyKey
    cases q.findTag tag with
    | none => rfl
    | some v => cases h : v.status <;> simp only [h]
  rw [← hrow]
  unfold Part.identify Part.unforeign
  cases p.custody x <;> rfl

theorem Part.identifyKey_none (h : p.findTag tag = none) :
    p.identifyKey x tag m = p.makeForeign x tag .unknown m .fobUnknown := by
  rw [Part.identifyKey, h]

theorem Part.identifyKey_in {v : Vehicle} {y : SlotId} (h : p.findTag tag = some v) (hs : v.status = .inSlot y) :
    p.identifyKey x tag m = p.makeForeign x tag .duplicate m .fobDuplicate := by
  simp only [Part.identifyKey, h, hs]

theorem Part.identifyKey_bind {v : Vehicle} (h : p.findTag tag = some v) (hs : ∀ y, v.status ≠ .inSlot y) :
    p.identifyKey x tag m = p.bind x v m := by
  simp only [Part.identifyKey, h]

end identify

/-! ## A record written and an alarm raised -/

/-- The record of a slot has a custody and an alarm of the slot stands, with the tables as they were: a row of R30 that
binds no vehicle, or an audit that failed (R33). -/
structure Part.marked (p q : Part) (x : SlotId) (k : Custody) (a : AlarmKind) : Prop where
  steady : q.steady x { p.record x with custody := k }
  sounds : q.sounds a (.slot x)
  fleet : q.fleet = p.fleet
  book : q.book = p.book
  chute : q.chute = p.chute
  supply : q.supply = p.supply

theorem Part.marked_raise {p : Part} (hd : p.alarmsDistinct) (hl : p.alarm.list.length < 48) {x : SlotId} {k : Custody}
    (hk : k.notHeld ∨ p.staffOnly x) (a : AlarmKind) : p.marked ((p.setCustody x k).raise a (.slot x)) x k a where
  steady := by
    have hset : (p.setCustody x k).steady x { p.record x with custody := k } := ⟨Part.record_setCustody .., hk⟩
    exact hset.of_same (Part.record_of_slot (Part.slot_congr (by simp) x)) (Part.requests_congr (by simp))
  sounds := Part.sounds_raise (hd.of_list rfl) hl
  fleet := by simp
  book := by simp
  chute := by simp
  supply := by simp

theorem Part.marked_makeForeign {p : Part} (hd : p.alarmsDistinct) (hl : p.alarm.list.length < 48) (x : SlotId)
    (tag : Nat) (q : ForeignReason) (m : Minute) (a : AlarmKind) :
    p.marked (p.makeForeign x tag q m a) x (.foreign tag q m) a := Part.marked_raise (k := .foreign tag q m) hd hl (.inl nofun) a

section marked

variable {p q : Part} {x : SlotId} {k : Custody} {a : AlarmKind} (h : p.marked q x k a)
include h

theorem Part.marked.raise (b : AlarmKind) (y : Subject) : p.marked (q.raise b y) x k a where
  steady := h.steady.of_same (Part.record_of_slot (Part.slot_congr (by simp) x)) (Part.requests_congr (by simp))
  sounds := h.sounds.raise b y
  fleet := by simpa using h.fleet
  book := by simpa using h.book
  chute := by simpa using h.chute
  supply := by simpa using h.supply

theorem Part.marked.readSettled (ha : a ≠ .columnLost) (c : ColId) (i : PosId) : p.marked (q.readSettled c i) x k a where
  steady := h.steady.readSettled
  sounds := h.sounds.readSettled ha
  fleet := by simpa using h.fleet
  book := by simpa using h.book
  chute := by simpa using h.chute
  supply := by simpa using h.supply

theorem Part.marked.of_tables {p' : Part} (hr : p.record x = p'.record x) (hf : p.fleet = p'.fleet) (hb : p.book = p'.book)
    (hc : p.chute = p'.chute) (hs : p.supply = p'.supply) : p'.marked q x k a where
  steady := hr ▸ h.steady
  sounds := h.sounds
  fleet := h.fleet.trans hf
  book := h.book.trans hb
  chute := h.chute.trans hc
  supply := h.supply.trans hs

end marked

theorem Part.silent.makeForeign {p : Part} {k : AlarmKind} {y : Subject} (h : p.silent k y) {a : AlarmKind} (hne : a ≠ k)
    (x : SlotId) (tag : Nat) (q : ForeignReason) (m : Minute) : (p.makeForeign x tag q m a).silent k y :=
  Part.silent.raise (p := p.setCustody x _) (h.of_alarm rfl) (.inl hne)

theorem Part.sounds.makeForeign {p : Part} {k : AlarmKind} {y : Subject} (h : p.sounds k y) (a : AlarmKind)
    (x : SlotId) (tag : Nat) (q : ForeignReason) (m : Minute) : (p.makeForeign x tag q m a).sounds k y :=
  Part.sounds.raise (p := p.setCustody x _) (h.of_alarm rfl) a _

theorem Part.makeForeign_length (p : Part) (x : SlotId) (tag : Nat) (q : ForeignReason) (m : Minute) (a : AlarmKind) :
    (p.makeForeign x tag q m a).alarm.list.length ≤ p.alarm.list.length + 1 := Part.raise_length (p.setCustody x _) a _

/-! ## Returns -/

/-- The statuses whose return queues ARRIVAL (R98). -/
def Vehicle.arrives (v : Vehicle) : Prop := v.status = .out .movement ∨ v.status = .out .staff ∨ v.status = .away

/-- What the operations of a return keep, its notices ARRIVAL and MISPLACED aside: the closing of a contract, the removal
of a chute entry, and the end of the FORCED_REMOVAL condition of the vehicle (R96 to R100). -/
structure Part.ReturnStable (P : Part → Prop) (u : Nat) : Prop where
  closed : ∀ q r, P q → P (q.notice (.contractClosed r))
  ends : ∀ q k x, k = .overdue ∨ k = .unreturned ∨ k = .chuteFull ∨ (k = .forcedRemoval ∧ x = .vehicle u) → P q →
    P (q.endCondition k x)
  full : ∀ q, P q → P (q.raise .chuteFull .chute)
  chute : ∀ q ch, P q → P { q with chute := ch }
  book : ∀ q b, P q → P { q with book := b }
  unlink : ∀ q w, P q → P (q.dropContractLink w)

section returns

variable {P : Part → Prop} {u : Nat} (h : Part.ReturnStable P u) {p : Part}
include h

theorem Part.ReturnStable.closeContract (hp : P p) (n : Nat) (m : Minute) (w : ClosePath) : P (p.closeContract n m w) := by
  unfold Part.closeContract
  split
  · exact hp
  next c _ =>
    split
    · exact hp
    next take _ _ =>
      exact h.closed _ _ (h.ends _ _ _ (.inr (.inl rfl)) (h.ends _ _ _ (.inl rfl)
        (h.unlink _ _ (h.book _ _ (h.book _ _ hp)))))

theorem Part.ReturnStable.removeEntry (hp : P p) (n : Nat) : P (p.removeEntry n) := by
  have hq := h.chute p { p.chute with log := p.chute.log.filter fun e => e.number != n } hp
  unfold Part.removeEntry
  dsimp only
  split
  · unfold Part.decideFlap
    split
    · exact h.full _ (h.chute _ _ hq)
    · exact h.ends _ _ _ (.inr (.inr (.inl rfl))) (h.chute _ _ hq)
    · exact hq
    · exact hq
  · exact hq

end returns

theorem Part.returnEffects_of_arrives {v : Vehicle} (h : v.arrives) (p : Part) (x : SlotId) (m : Minute) :
    p.returnEffects x v m = p.notice (.arrival x v.unit m v.status) := by
  rcases h with h | h | h <;> simp only [Part.returnEffects, h]

/-- A return keeps what its operations keep, and what its ARRIVAL notice keeps where there is one. -/
theorem Part.ReturnStable.returnEffects {P : Part → Prop} {v : Vehicle} (h : Part.ReturnStable P v.unit) {p : Part}
    (x : SlotId) (m : Minute) (harr : v.arrives → P (p.notice (.arrival x v.unit m v.status))) (hp : P p) :
    P (p.returnEffects x v m) := by
  by_cases ha : v.arrives
  · rw [Part.returnEffects_of_arrives ha]
    exact harr ha
  · unfold Part.returnEffects
    split
    · split
      · exact h.closeContract hp ..
      · exact hp
    next hs => exact absurd (.inl hs) ha
    next hs => exact absurd (.inr (.inl hs)) ha
    next hs => exact absurd (.inr (.inr hs)) ha
    · exact h.ends _ _ _ (.inr (.inr (.inr ⟨rfl, rfl⟩))) hp
    · exact h.removeEntry hp _
    · exact hp

theorem Part.silent_returnStable {k : AlarmKind} {x : Subject} (hk : k ≠ .chuteFull) (u : Nat) :
    Part.ReturnStable (fun q => q.silent k x) u where
  closed := fun _ _ hq => hq.of_alarm (by simp)
  ends := fun _ _ _ _ hq => hq.endCondition ..
  full := fun _ hq => hq.raise (.inl hk.symm)
  chute := fun _ _ hq => hq.of_alarm rfl
  book := fun _ _ hq => hq.of_alarm rfl
  unlink := fun _ _ hq => hq.of_alarm rfl

/-- A return takes no alarm of a slot away that stands, and of those of vehicles only that of its own. -/
theorem Part.sounds_returnStable {k : AlarmKind} {x : Subject} {u : Nat}
    (hk : k ≠ .overdue ∧ k ≠ .unreturned ∧ k ≠ .chuteFull) (hx : x ≠ .vehicle u) :
    Part.ReturnStable (fun q => q.sounds k x) u where
  closed := fun _ _ hq => hq.of_alarm (by simp)
  ends := fun _ _ _ he hq => hq.endCondition (by
    rcases he with rfl | rfl | rfl | ⟨-, rfl⟩
    · exact .inl hk.1.symm
    · exact .inl hk.2.1.symm
    · exact .inl hk.2.2.symm
    · exact .inr hx.symm)
  full := fun _ hq => hq.raise ..
  chute := fun _ _ hq => hq.of_alarm rfl
  book := fun _ _ hq => hq.of_alarm rfl
  unlink := fun _ _ hq => hq.of_alarm rfl

theorem Part.fleet_returnStable {P : Part → Prop} (hc : ∀ q q' : Part, q'.fleet = q.fleet → P q → P q')
    (hl : ∀ q w, P q → P (q.dropContractLink w)) (u : Nat) : Part.ReturnStable P u where
  closed := fun q _ hq => hc q _ (by simp) hq
  ends := fun q _ _ _ hq => hc q _ (by simp) hq
  full := fun q hq => hc q _ (by simp) hq
  chute := fun q _ hq => hc q _ rfl hq
  book := fun q _ hq => hc q _ rfl hq
  unlink := hl

theorem Part.dropContractLink_datedStatuses (p : Part) (u : Nat) :
    (p.dropContractLink u).datedStatuses = p.datedStatuses := by
  refine Part.updVehicle_datedStatuses p u ?_
  exact fun _ => ⟨rfl, rfl, rfl⟩

/-- A return changes the status and the last change of no vehicle. -/
theorem Part.dated_returnStable (l : List (Nat × VehicleStatus × Minute)) (u : Nat) :
    Part.ReturnStable (fun q => q.datedStatuses = l) u :=
  Part.fleet_returnStable (fun _ _ e hq => (Part.datedStatuses_congr e).trans hq)
    (fun q w hq => (Part.dropContractLink_datedStatuses q w).trans hq) u

theorem Part.known_returnStable {k : Vehicle → Bool} (hk : Vehicle.lasting k) (a : Option (Nat × VehicleStatus)) (u : Nat) :
    Part.ReturnStable (fun q => q.known k = a) u :=
  Part.fleet_returnStable (fun _ _ e hq => (Part.known_congr e k).trans hq)
    (fun q w hq => (Part.known_dropContractLink hk q w).trans hq) u

theorem Part.notice_returnStable {P : Part → Prop} (h : Part.NoticeStable P)
    (hc : ∀ q r, P q → P (q.notice (.contractClosed r))) (u : Nat) : Part.ReturnStable P u where
  closed := hc
  ends := fun _ _ _ _ hq => h.endCondition hq ..
  full := fun _ hq => h.raise hq ..
  chute := fun q _ hq => h.lines q _ rfl rfl hq
  book := fun q _ hq => h.lines q _ rfl rfl hq
  unlink := fun q _ hq => h.lines q _ rfl rfl hq

/-- The misplacement test queues its notice or does nothing (R101). -/
theorem Part.misplacement_cases (p : Part) (x : SlotId) (u : Nat) (m : Minute) :
    p.misplacement x u m = p ∨ ∃ w, p.misplacement x u m = p.notice (.misplaced x u w m) := by
  unfold Part.misplacement
  split
  · exact .inl rfl
  · split
    · exact .inl rfl
    · split
      · exact .inr ⟨_, rfl⟩
      all_goals exact .inl rfl

theorem Part.misplacement_out {p : Part} {x : SlotId} {u w : Nat} {o : OutReason} (m : Minute)
    (h : p.known (fun v => v.home == some x) = some (w, .out o)) (hw : w ≠ u) :
    p.misplacement x u m = p.notice (.misplaced x u w m) := by
  obtain ⟨v, hv, e⟩ := Option.map_eq_some_iff.mp h
  simp only [Prod.mk.injEq] at e
  obtain ⟨rfl, hs⟩ := e
  simp only [Part.misplacement, show p.findHome x = some v from hv, hs, if_neg hw]

theorem Part.misplacement_home {p : Part} {x : SlotId} {u : Nat} (m : Minute)
    (h : ∀ w st, p.known (fun v => v.home == some x) = some (w, st) → w = u ∨ ∀ o, st ≠ .out o) :
    p.misplacement x u m = p := by
  unfold Part.misplacement
  split
  · rfl
  next w hw =>
    split
    · rfl
    next hu =>
      have hout := (h w.unit w.status (by rw [Part.known, show p.fleet.find? _ = _ from hw]; rfl)).resolve_left hu
      split
      next o ho => exact absurd ho (hout o)
      all_goals rfl

end Sys2Proof.Machine
end

section
/-! PROOFS. The binding of a slot to a vehicle and its return (R31, R92, R96 to R101). -/

namespace Sys2Proof.Machine

/-! ## Lengths of the alarm list -/

theorem Part.endCondition_length (p : Part) (k : AlarmKind) (x : Subject) :
    (p.endCondition k x).alarm.list.length ≤ p.alarm.list.length := by
  unfold Part.endCondition
  split
  · exact le_rfl
  · split
    · simp [Part.updAlarm_list]
    · simpa [Part.removeAlarm_list] using List.length_filter_le ..
    · exact le_rfl

theorem Part.closeContract_length (p : Part) (n : Nat) (m : Minute) (w : ClosePath) :
    (p.closeContract n m w).alarm.list.length ≤ p.alarm.list.length := by
  unfold Part.closeContract
  split
  · exact le_rfl
  · split
    · exact le_rfl
    · rw [(Part.notice_frame ..).2.2.2.2.2.2.2.1]
      exact (Part.endCondition_length ..).trans (Part.endCondition_length ..)

theorem Part.removeEntry_length (p : Part) (n : Nat) :
    (p.removeEntry n).alarm.list.length ≤ p.alarm.list.length + 1 := by
  unfold Part.removeEntry
  dsimp only
  split
  · unfold Part.decideFlap
    split
    · exact Part.raise_length _ _ _
    · exact (Part.endCondition_length _ _ _).trans (Nat.le_succ _)
    · exact Nat.le_succ _
    · exact Nat.le_succ _
  · exact Nat.le_succ _

theorem Part.returnEffects_length (p : Part) (x : SlotId) (v : Vehicle) (m : Minute) :
    (p.returnEffects x v m).alarm.list.length ≤ p.alarm.list.length + 1 := by
  unfold Part.returnEffects
  split
  · split
    · exact (Part.closeContract_length ..).trans (Nat.le_succ _)
    · exact Nat.le_succ _
  · simp
  · simp
  · simp
  · exact (Part.endCondition_length ..).trans (Nat.le_succ _)
  · exact Part.removeEntry_length ..
  · exact Nat.le_succ _

/-! ## The parts of a binding -/

/-- The record HELD and the vehicle IN (R31). -/
def Part.broughtIn (p : Part) (x : SlotId) (v : Vehicle) (m : Minute) : Part :=
  (p.setCustody x (.held v.tag v.unit m false)).setStatus v.unit (.inSlot x)

/-- The slot is bound, before the return. -/
def Part.boundAt (p : Part) (x : SlotId) (v : Vehicle) (m : Minute) : Part :=
  (p.broughtIn x v m).endCondition .fobUnknown (.slot x)

/-- The vehicle is back, before the misplacement test (R96 to R100). -/
def Part.backIn (p : Part) (x : SlotId) (v : Vehicle) (m : Minute) : Part := (p.boundAt x v m).returnEffects x v m

/-- The binding before it ends the STAFF_SLOT requests of the slot (R101). -/
def Part.placedIn (p : Part) (x : SlotId) (v : Vehicle) (m : Minute) : Part :=
  (p.backIn x v m).misplacement x v.unit m

section bind

variable {p : Part} {x : SlotId} {v : Vehicle} {m : Minute}

theorem Part.boundAt_frame (p : Part) (x : SlotId) (v : Vehicle) (m : Minute) :
    (p.boundAt x v m).columns = (p.setCustody x (.held v.tag v.unit m false)).columns ∧
    (p.boundAt x v m).fleet = (p.setStatus v.unit (.inSlot x)).fleet ∧ (p.boundAt x v m).sched = p.sched ∧
    (p.boundAt x v m).book = p.book ∧ (p.boundAt x v m).chute = p.chute ∧ (p.boundAt x v m).late = p.late := by
  simp only [Part.boundAt, Part.endCondition_frame, Part.broughtIn, Part.setStatus_frame, true_and]
  exact ⟨rfl, rfl, rfl, rfl, rfl⟩

theorem Part.placedIn_frame (p : Part) (x : SlotId) (v : Vehicle) (m : Minute) :
    (p.placedIn x v m).columns = (p.setCustody x (.held v.tag v.unit m false)).columns ∧
    (p.placedIn x v m).sched = p.sched := by
  simp [Part.placedIn, Part.backIn, Part.boundAt, Part.broughtIn]

theorem Part.bind_eq (p : Part) (x : SlotId) (v : Vehicle) (m : Minute) :
    p.bind x v m = (p.placedIn x v m).endAll (p.staffLiveOn x) .mismatch := by
  have : (p.placedIn x v m).staffLiveOn x = p.staffLiveOn x := by
    rw [Part.staffLiveOn, (Part.placedIn_frame ..).2]
    rfl
  rw [← this]
  rfl

/-- Where no request is live on the slot, none ends. -/
theorem Part.bind_of_noneOn (h : p.noneOn x) : p.bind x v m = p.placedIn x v m := by
  have : p.staffLiveOn x = [] := by
    rw [Part.staffLiveOn, List.filter_eq_nil_iff]
    intro r hr
    simp [h.queue r hr]
  rw [Part.bind_eq, this, Part.endAll_nil]

theorem Part.bind_sched (h : p.noneOn x) : (p.bind x v m).sched = p.sched := by
  rw [Part.bind_of_noneOn h, (Part.placedIn_frame ..).2]

/-- The record of a slot that is bound (R31). -/
theorem Part.bind_steady (h : p.staffOnly x) :
    (p.bind x v m).steady x { p.record x with custody := .held v.tag v.unit m false } := by
  have hs : (p.placedIn x v m).staffOnly x :=
    h.of_requests fun r hr => by rwa [Part.requests_congr (congrArg _ (Part.placedIn_frame ..).2)] at hr
  have hx : (p.placedIn x v m).record x = { p.record x with custody := .held v.tag v.unit m false } := by
    rw [Part.record_of_slot (Part.slot_congr (Part.placedIn_frame ..).1 x), Part.record_setCustody]
  rw [Part.bind_eq]
  exact Part.steady.endAll ⟨hx, .inr hs⟩ hs ..

/-- A binding ends the STAFF_SLOT requests of its slot (R69). -/
theorem Part.bind_noneOn (h : p.staffOnly x) : (p.bind x v m).noneOn x := by
  have hr : (p.bind x v m).requests = p.requests.filter fun q => decide (q.number ∉ (p.staffLiveOn x).map (·.number)) := by
    rw [Part.bind_eq, Part.endAll_requests, Part.requests_congr (congrArg _ (Part.placedIn_frame ..).2)]
  intro q hq hx
  rw [hr, List.mem_filter] at hq
  obtain ⟨hq, hn⟩ := hq
  obtain ⟨r, hmem, rfl⟩ := List.mem_map.mp hq
  refine of_decide_eq_true hn (List.mem_map.mpr ⟨r, List.mem_filter.mpr ⟨hmem, ?_⟩, rfl⟩)
  have ht : r.target = .staffSlot := h.queue r hmem hx
  simpa [ht, Release.bare] using hx

/-! ### Alarms -/

theorem Part.bind_alarm (p : Part) (x : SlotId) (v : Vehicle) (m : Minute) :
    (p.bind x v m).alarm = (p.backIn x v m).alarm := by
  simp [Part.bind_eq, Part.placedIn]

theorem Part.bind_length (p : Part) (x : SlotId) (v : Vehicle) (m : Minute) :
    (p.bind x v m).alarm.list.length ≤ p.alarm.list.length + 1 := by
  rw [Part.bind_alarm]
  refine (Part.returnEffects_length ..).trans (Nat.succ_le_succ ?_)
  exact Part.endCondition_length _ _ _

theorem Part.silent.bind_of_boundAt {k : AlarmKind} {y : Subject} (h : (p.boundAt x v m).silent k y)
    (hk : k ≠ .chuteFull) : (p.bind x v m).silent k y := by
  have hb : (p.backIn x v m).silent k y :=
    (Part.silent_returnStable hk v.unit).returnEffects x m (fun _ => h.of_alarm (by simp)) h
  exact hb.of_alarm (congrArg _ (Part.bind_alarm ..))

theorem Part.silent.bind {k : AlarmKind} {y : Subject} (h : p.silent k y) (hk : k ≠ .chuteFull) :
    (p.bind x v m).silent k y := by
  refine Part.silent.bind_of_boundAt ?_ hk
  exact Part.silent.endCondition (p := p.broughtIn x v m) (h.of_alarm rfl) ..

theorem Part.silent_bind_fobUnknown (h : p.alarmsDistinct) : (p.bind x v m).silent .fobUnknown (.slot x) := by
  refine Part.silent.bind_of_boundAt ?_ nofun
  exact Part.silent_endCondition (p := p.broughtIn x v m) (h.of_list rfl) ..

/-- The return of a STRAY vehicle ends its forced removal (R99). -/
theorem Part.silent_bind_forcedRemoval (h : p.alarmsDistinct) (hv : v.status = .stray) :
    (p.bind x v m).silent .forcedRemoval (.vehicle v.unit) := by
  have hd : (p.boundAt x v m).alarmsDistinct :=
    Part.alarmsDistinct.endCondition (p := p.broughtIn x v m) (h.of_list rfl)
  have hb : p.backIn x v m = (p.boundAt x v m).endCondition .forcedRemoval (.vehicle v.unit) := by
    simp only [Part.backIn, Part.returnEffects, hv]
  exact (hb ▸ Part.silent_endCondition hd ..).of_alarm (congrArg _ (Part.bind_alarm ..))

/-- The forced removal of another vehicle keeps standing. -/
theorem Part.sounds.bind {u : Nat} (h : p.sounds .forcedRemoval (.vehicle u)) (hu : u ≠ v.unit) :
    (p.bind x v m).sounds .forcedRemoval (.vehicle u) := by
  have hx : Subject.vehicle u ≠ .vehicle v.unit := by simpa using hu
  have ha : (p.boundAt x v m).sounds .forcedRemoval (.vehicle u) :=
    Part.sounds.endCondition (p := p.broughtIn x v m) (h.of_alarm rfl) (.inl (by simp))
  have hb : (p.backIn x v m).sounds .forcedRemoval (.vehicle u) :=
    (Part.sounds_returnStable (by simp) hx).returnEffects x m (fun _ => ha.of_alarm (by simp)) ha
  exact hb.of_alarm (congrArg _ (Part.bind_alarm ..))

/-! ### Vehicles -/

theorem Part.placedIn_dated (p : Part) (x : SlotId) (v : Vehicle) (m : Minute) :
    (p.placedIn x v m).datedStatuses = (p.setStatus v.unit (.inSlot x)).datedStatuses := by
  have hb : (p.backIn x v m).datedStatuses = (p.boundAt x v m).datedStatuses :=
    (Part.dated_returnStable _ v.unit).returnEffects x m (fun _ => Part.datedStatuses_congr (by simp)) rfl
  exact (Part.datedStatuses_congr (by simp [Part.placedIn])).trans
    (hb.trans (Part.datedStatuses_congr (Part.boundAt_frame ..).2.1))

theorem Part.statuses_of_dated {p q : Part} (h : q.datedStatuses = p.datedStatuses) : q.statuses = p.statuses := by
  simpa [Part.statuses, Part.datedStatuses, Function.comp_def] using congrArg (List.map fun e => (e.1, e.2.1)) h

theorem Part.bind_statuses (p : Part) (x : SlotId) (v : Vehicle) (m : Minute) :
    (p.bind x v m).statuses = (p.setStatus v.unit (.inSlot x)).statuses := by
  rw [Part.bind_eq, (Part.endAll_tables ..).1]
  exact Part.statuses_of_dated (Part.placedIn_dated ..)

theorem Part.bind_in (p : Part) (x : SlotId) (v : Vehicle) (m : Minute) :
    ∀ w ∈ (p.bind x v m).fleet, w.unit = v.unit → w.status = .inSlot x :=
  Part.status_of_statuses (Part.bind_statuses p x v m) (Part.setStatus_status p _ _)

/-- A binding leaves the status of the other vehicles alone. -/
theorem Part.bind_others {u : Nat} {st : VehicleStatus} (hu : u ≠ v.unit)
    (h : ∀ w ∈ p.fleet, w.unit = u → w.status = st) : ∀ w ∈ (p.bind x v m).fleet, w.unit = u → w.status = st := by
  refine Part.status_of_statuses (Part.bind_statuses p x v m) fun w hw hwu => ?_
  simp only [Part.setStatus, Part.updVehicle_fleet, List.mem_map] at hw
  obtain ⟨w', hw', rfl⟩ := hw
  by_cases he : w'.unit = v.unit
  · simp only [he, if_true] at hwu
    exact absurd hwu.symm hu
  · simp only [he, if_false] at hwu ⊢
    exact h w' hw' hwu

theorem Part.known_backIn {k : Vehicle → Bool} (hk : Vehicle.lasting k) (p : Part) (x : SlotId) (v : Vehicle)
    (m : Minute) :
    (p.backIn x v m).known k = (p.known k).map fun e => if e.1 = v.unit then (v.unit, .inSlot x) else e := by
  have hb : (p.backIn x v m).known k = (p.boundAt x v m).known k :=
    (Part.known_returnStable hk _ v.unit).returnEffects x m (fun _ => Part.known_congr (by simp) k) rfl
  rw [hb, Part.known_congr (Part.boundAt_frame ..).2.1, Part.known_setStatus hk]

/-! ### The contract and the chute -/

theorem Part.removeEntry_log (p : Part) (n : Nat) :
    (p.removeEntry n).chute.log = p.chute.log.filter fun e => e.number != n := by
  unfold Part.removeEntry Part.decideFlap
  dsimp only
  repeat' split
  all_goals simp

/-- The closing of an ACTIVE contract: its record joins the ring, and no contract has its number (R89, R92). -/
theorem Part.closeContract_book {p : Part} {n : Nat} {take : Minute} {k : Contract} {level : Level}
    (h : p.findContract n = some k) (hk : k.state = .active take level) (m : Minute) (w : ClosePath) :
    (p.closeContract n m w).book.ring = pushRing p.book.ring
      (closingRecord k (p.closeContract n m w).book.closingSeq take m w (evaluate p.late.settings k m)) ∧
    ∀ d ∈ (p.closeContract n m w).book.contracts, d.number ≠ n := by
  have hb : (p.closeContract n m w).book = { p.book with
      contracts := p.book.contracts.filter fun d => d.number != n
      closingSeq := wrapNext 4294967295 p.book.closingSeq
      ring := pushRing p.book.ring (closingRecord k (wrapNext 4294967295 p.book.closingSeq) take m w
        (evaluate p.late.settings k m)) } := by
    simp only [Part.closeContract, h, hk, Part.notice_frame, Part.endCondition_frame]
    rfl
  rw [hb]
  refine ⟨rfl, fun d hd => ?_⟩
  simpa using (List.mem_filter.mp hd).2

theorem Part.placedIn_book_chute (p : Part) (x : SlotId) (v : Vehicle) (m : Minute) :
    (p.placedIn x v m).book = (p.backIn x v m).book ∧ (p.placedIn x v m).chute = (p.backIn x v m).chute := by
  simp [Part.placedIn]

/-- Only the return of a vehicle that was OUT for a contract changes the contracts (R97). -/
theorem Part.placedIn_book (h : v.status ≠ .out .contract) : (p.placedIn x v m).book = p.book := by
  rw [(Part.placedIn_book_chute ..).1, ← (p.boundAt_frame x v m).2.2.2.1, Part.backIn]
  unfold Part.returnEffects
  split
  next hs => exact absurd hs h
  all_goals simp

theorem Part.placedIn_closing {n : Nat} {take : Minute} {k : Contract} {level : Level} (hv : v.status = .out .contract)
    (hn : v.contract = some n) (h : p.findContract n = some k) (hk : k.state = .active take level) :
    (p.placedIn x v m).book.ring = pushRing p.book.ring (closingRecord k (p.placedIn x v m).book.closingSeq take m
      (.slot x) (evaluate p.late.settings k m)) ∧
    ∀ d ∈ (p.placedIn x v m).book.contracts, d.number ≠ n := by
  have hb : p.backIn x v m = (p.boundAt x v m).closeContract n m (.slot x) := by
    simp only [Part.backIn, Part.returnEffects, hv, hn]
  have hc : (p.boundAt x v m).findContract n = some k :=
    (Part.findContract_congr (Part.boundAt_frame ..).2.2.2.1 n).trans h
  have := Part.closeContract_book hc hk m (.slot x)
  rwa [← hb, (Part.boundAt_frame ..).2.2.2.1, (Part.boundAt_frame ..).2.2.2.2.2, ← (Part.placedIn_book_chute ..).1] at this

theorem Part.placedIn_dropped {n : Nat} (hv : v.status = .dropped n) :
    ∀ e ∈ (p.placedIn x v m).chute.log, e.number ≠ n := by
  have hb : p.backIn x v m = (p.boundAt x v m).removeEntry n := by
    simp only [Part.backIn, Part.returnEffects, hv]
  intro e he
  rw [(Part.placedIn_book_chute ..).2, hb, Part.removeEntry_log] at he
  simpa using (List.mem_filter.mp he).2

/-! ### Notices -/

section notices

variable {s : Part}

theorem Part.NoticeStable.boundAt {P : Part → Prop} (h : Part.NoticeStable P) (hp : P p) : P (p.boundAt x v m) :=
  h.endCondition (h.lines p (p.broughtIn x v m) rfl rfl hp) ..

theorem Part.NoticeStable.backIn {P : Part → Prop} (h : Part.NoticeStable P)
    (hc : ∀ q r, P q → P (q.notice (.contractClosed r)))
    (harr : ∀ q, v.arrives → P q → P (q.notice (.arrival x v.unit m v.status))) (hp : P p) : P (p.backIn x v m) :=
  (Part.notice_returnStable h hc v.unit).returnEffects x m (fun ha => harr _ ha (h.boundAt hp)) (h.boundAt hp)

theorem Part.reports.backIn {l : List NoticeBody} (h : s.reports p l) : s.reports (p.backIn x v m) l :=
  (Part.reports_stable s l).backIn (fun _ _ hq => hq.keep _) (fun _ _ hq => hq.keep _) h

/-- The return of a vehicle that was OUT for a movement or for staff, or AWAY, queues ARRIVAL (R98). -/
theorem Part.reports.backIn_arrival {l : List NoticeBody} (h : s.reports p l) (hv : v.arrives) :
    s.reports (p.backIn x v m) (l ++ [.arrival x v.unit m v.status]) := by
  rw [Part.backIn, Part.returnEffects_of_arrives hv]
  exact ((Part.reports_stable s l).boundAt h).notice _

theorem Part.reports.placedIn {l : List NoticeBody} (h : s.reports (p.backIn x v m) l) :
    s.reports (p.placedIn x v m) l := by
  unfold Part.placedIn
  rcases (p.backIn x v m).misplacement_cases x v.unit m with e | ⟨w, e⟩
  · rwa [e]
  · rw [e]
    exact h.keep _

/-- A slot that is the home of another vehicle that is OUT queues MISPLACED (R101). -/
theorem Part.reports.placedIn_misplaced {l : List NoticeBody} (h : s.reports (p.backIn x v m) l) {w : Vehicle}
    {o : OutReason} (hw : p.findHome x = some w) (hne : w.unit ≠ v.unit) (ho : w.status = .out o) :
    s.reports (p.placedIn x v m) (l ++ [.misplaced x v.unit w.unit m]) := by
  have hk : (p.backIn x v m).known (fun v => v.home == some x) = some (w.unit, .out o) := by
    have hp : p.known (fun v => v.home == some x) = some (w.unit, .out o) := by
      rw [Part.known, show p.fleet.find? _ = _ from hw, ← ho]
      rfl
    rw [Part.known_backIn (Vehicle.lasting_home x), hp]
    simp [hne]
  rw [Part.placedIn, Part.misplacement_out m hk hne]
  exact h.notice _

theorem Part.silentOn.placedIn_arrival (h : s.silentOn p fun b => ∃ y unit minute before, b = .arrival y unit minute before)
    (hv : ¬ v.arrives) :
    s.silentOn (p.placedIn x v m) fun b => ∃ y unit minute before, b = .arrival y unit minute before := by
  have hst := Part.silentOn_stable s (K := fun b => ∃ y unit minute before, b = .arrival y unit minute before)
    (by simp) (by simp)
  have hb : s.silentOn (p.backIn x v m) fun b => ∃ y unit minute before, b = .arrival y unit minute before :=
    hst.backIn (fun _ _ hq => hq.notice (by simp)) (fun _ ha => absurd ha hv) h
  unfold Part.placedIn
  rcases (p.backIn x v m).misplacement_cases x v.unit m with e | ⟨w, e⟩
  · rwa [e]
  · rw [e]
    exact hb.notice (by simp)

theorem Part.silentOn.placedIn_misplaced
    (h : s.silentOn p fun b => ∃ y unit home minute, b = .misplaced y unit home minute)
    (hw : ∀ w, p.findHome x = some w → w.unit = v.unit ∨ ∀ o, w.status ≠ .out o) :
    s.silentOn (p.placedIn x v m) fun b => ∃ y unit home minute, b = .misplaced y unit home minute := by
  have hst := Part.silentOn_stable s (K := fun b => ∃ y unit home minute, b = .misplaced y unit home minute)
    (by simp) (by simp)
  have hb : s.silentOn (p.backIn x v m) fun b => ∃ y unit home minute, b = .misplaced y unit home minute :=
    hst.backIn (fun _ _ hq => hq.notice (by simp)) (fun _ _ hq => hq.notice (by simp)) h
  have hhome : (p.backIn x v m).misplacement x v.unit m = p.backIn x v m := by
    refine Part.misplacement_home m fun u st hk => ?_
    rw [Part.known_backIn (Vehicle.lasting_home x), Option.map_eq_some_iff] at hk
    obtain ⟨e, he, hue⟩ := hk
    obtain ⟨w, hf, rfl⟩ := Option.map_eq_some_iff.mp he
    dsimp only at hue
    split at hue
    · exact .inl (Prod.mk.inj hue).1.symm
    next hne =>
      obtain ⟨rfl, rfl⟩ := Prod.mk.inj hue
      exact .inr ((hw w hf).resolve_left hne)
  rwa [Part.placedIn, hhome]

end notices

end bind

end Sys2Proof.Machine
end

section
/-! PROOFS. The identification of an arrival (R29 to R31, R92, R96 to R101). -/

namespace Sys2Proof.Machine

/-- The part in which a GOOD outcome is handled: the read is over and so is the FOB_UNREAD condition of the slot (R29). -/
def Part.goodRead (p : Part) (c : ColId) (rd : Read) (bytes : List Byte) : Part :=
  (p.ending c rd bytes).endCondition .fobUnread (.slot ⟨c, rd.pos⟩)

section goodRead

variable (p : Part) (c : ColId) (rd : Read) (bytes : List Byte)

@[simp] theorem Part.goodRead_frame :
    (p.goodRead c rd bytes).fleet = p.fleet ∧ (p.goodRead c rd bytes).book = p.book ∧
    (p.goodRead c rd bytes).chute = p.chute ∧ (p.goodRead c rd bytes).supply = p.supply ∧
    (p.goodRead c rd bytes).sched.queue = p.sched.queue ∧
    (p.goodRead c rd bytes).late.settings = p.late.settings := by
  simp [Part.goodRead]

theorem Part.goodRead_slot (x : SlotId) : (p.goodRead c rd bytes).slot x = p.slot x :=
  (Part.slot_congr (Part.endCondition_frame ..).2.1 x).trans (Part.ending_slot ..)

theorem Part.goodRead_record (x : SlotId) : (p.goodRead c rd bytes).record x = p.record x :=
  Part.record_of_slot (Part.goodRead_slot ..)

theorem Part.goodRead_custody (x : SlotId) : (p.goodRead c rd bytes).custody x = p.custody x :=
  Part.custody_of_slot (Part.goodRead_slot ..)

theorem Part.goodRead_requests : (p.goodRead c rd bytes).requests = p.requests := Part.requests_congr (by simp)

theorem Part.goodRead_length : (p.goodRead c rd bytes).alarm.list.length ≤ p.alarm.list.length := by
  refine (Part.endCondition_length ..).trans (le_of_eq ?_)
  rw [(Part.ending_frame ..).2.2.2.1]

variable {p}

theorem Part.goodRead_silent (h : p.alarmsDistinct) : (p.goodRead c rd bytes).silent .fobUnread (.slot ⟨c, rd.pos⟩) :=
  Part.silent_endCondition (h.of_list (by simp)) ..

theorem Part.NoticeStable.goodRead {P : Part → Prop} (h : Part.NoticeStable P) (hp : P p) : P (p.goodRead c rd bytes) :=
  h.endCondition (h.lines p _ (by simp) (by simp) hp) ..

variable {bytes}

theorem Part.goodRead_minute {tag kind : Nat} (h : classify bytes = .good tag kind) :
    (p.goodRead c rd bytes).uptime = p.uptime ∧ (p.goodRead c rd bytes).minute = p.minute := by
  obtain ⟨hu, hm⟩ := Part.ending_good h (p := p) c rd
  refine ⟨by simpa [Part.goodRead] using hu, ?_⟩
  rw [← hm]
  simp [Part.goodRead, Part.minute]

end goodRead

section outcome

variable {p : Part} {x : SlotId} {m : Minute}

theorem Part.readOutcome_unread (h : p.custody x = .unread m) (b : Bool) :
    p.readOutcome x b .unreadable = p.identify x m .unreadable := by
  simp only [Part.readOutcome, h]

theorem Part.readOutcome_unread_good (h : p.custody x = .unread m) (b : Bool) (tag kind : Nat) :
    p.readOutcome x b (.good tag kind) = (p.endCondition .fobUnread (.slot x)).identify x m (.good tag kind) := by
  have hc : (p.endCondition .fobUnread (.slot x)).custody x = .unread m :=
    (Part.custody_of_slot (Part.slot_congr (by simp) x)).trans h
  simp only [Part.readOutcome, hc]

end outcome

section arrival

variable {s : State} {c : ColId} {rd : Read} {bytes : List Byte} {m : Minute} (hh : s.part.halted = false)
  (hr : (s.part.column c).reader = some rd) (hu : s.part.custody ⟨c, rd.pos⟩ = .unread m)
include hh hr hu

/-- The end UNREADABLE of the read of an arrival. -/
theorem exec_arrival_unreadable (h : ∀ tag kind, classify bytes ≠ .good tag kind) (ha : 3 ≤ rd.attempt) :
    exec (.readAttemptEnd c bytes) s = .next
      { s with part := (((s.part.ending c rd bytes).setCustody ⟨c, rd.pos⟩ (.unread m)).raise .fobUnread
          (.slot ⟨c, rd.pos⟩)).readSettled c rd.pos } := by
  have hc : (s.part.ending c rd bytes).custody ⟨c, rd.pos⟩ = .unread m := (Part.ending_custody ..).trans hu
  rw [exec_read_unreadable hh hr h ha, Part.readOutcome_unread hc, Part.identify_unreadable, Part.unforeign_of_unread hc]

/-- The end GOOD of the read of an arrival. -/
theorem exec_arrival_good {tag kind : Nat} (h : classify bytes = .good tag kind) :
    exec (.readAttemptEnd c bytes) s = .next
      { s with part := ((s.part.goodRead c rd bytes).identify ⟨c, rd.pos⟩ m (.good tag kind)).readSettled c rd.pos } := by
  have hc : (s.part.ending c rd bytes).custody ⟨c, rd.pos⟩ = .unread m := (Part.ending_custody ..).trans hu
  rw [exec_read_good hh hr h, Part.readOutcome_unread_good hc]
  rfl

end arrival

/-- A row of R30 in the part of a GOOD read, settled, seen from the part before the read. -/
theorem Part.marked.of_goodRead {p q : Part} {c : ColId} {rd : Read} {bytes : List Byte} {x : SlotId} {k : Custody}
    {a : AlarmKind} (h : (p.goodRead c rd bytes).marked q x k a) (ha : a ≠ .columnLost) (i : PosId) :
    p.marked (q.readSettled c i) x k a :=
  (h.readSettled ha c i).of_tables (Part.goodRead_record ..) (by simp) (by simp) (by simp) (by simp)

/-- The rows of R30 for a fob that is no enrolled vehicle key. -/
theorem Part.identify_stranger {p : Part} {tag kind : Nat} (h : kind ≠ 1 ∨ p.findTag tag = none) (x : SlotId)
    (m : Minute) : p.identify x m (.good tag kind) =
      (p.unforeign x).makeForeign x tag (if kind = 1 then .unknown else .wrongKind) m .fobUnknown := by
  by_cases hk : kind = 1
  · have ht : (p.unforeign x).findTag tag = none :=
      (Part.findTag_congr (Part.unforeign_frame ..).2.1 tag).trans (h.resolve_left (not_not_intro hk))
    rw [if_pos hk, hk, Part.identify_key, Part.identifyKey_none ht]
  · rw [if_neg hk, Part.identify_wrongKind hk]

theorem Part.identify_duplicate {p : Part} {tag : Nat} {v : Vehicle} {y : SlotId} (h : p.findTag tag = some v)
    (hs : v.status = .inSlot y) (x : SlotId) (m : Minute) : p.identify x m (.good tag 1) =
      (p.unforeign x).makeForeign x tag .duplicate m .fobDuplicate := by
  have ht : (p.unforeign x).findTag tag = some v := (Part.findTag_congr (Part.unforeign_frame ..).2.1 tag).trans h
  rw [Part.identify_key, Part.identifyKey_in ht hs]

theorem Part.identify_bind {p : Part} {tag : Nat} {v : Vehicle} (h : p.findTag tag = some v)
    (hs : ∀ y, v.status ≠ .inSlot y) (x : SlotId) (m : Minute) :
    p.identify x m (.good tag 1) = (p.unforeign x).bind x v m := by
  have ht : (p.unforeign x).findTag tag = some v := (Part.findTag_congr (Part.unforeign_frame ..).2.1 tag).trans h
  rw [Part.identify_key, Part.identifyKey_bind ht hs]

section bound

variable {p : Part} {c : ColId} {rd : Read} {bytes : List Byte} {m : Minute} {v : Vehicle}

/-- A part after the read of an arrival whose vehicle is bound: the record, the alarms and the vehicle (R31, R99). -/
theorem Part.bound_arrival (hd : p.alarmsDistinct) (hn : p.noneOn ⟨c, rd.pos⟩) :
    let x : SlotId := ⟨c, rd.pos⟩
    let t := ((p.goodRead c rd bytes).bind x v m).readSettled c rd.pos
    t.record x = { p.record x with custody := .held v.tag v.unit m false } ∧ t.supply = p.supply ∧
    t.alarmOver .fobUnread (.slot x) ∧ (∀ w ∈ t.fleet, w.unit = v.unit → w.status = .inSlot x ∧ w.lastChange = t.minute) ∧
    (v.status = .stray → t.alarmOver .forcedRemoval (.vehicle v.unit)) := by
  intro x t
  have hg : (p.goodRead c rd bytes).noneOn x := hn.of_requests (Part.goodRead_requests ..)
  have hs := p.goodRead_silent c rd (bytes := bytes) hd
  have hsteady := Part.bind_steady (v := v) (m := m) hg.staffOnly
  have hdated := Part.status_of_datedStatuses (Part.placedIn_dated _ x v m)
    (Part.setStatus_dated (p.goodRead c rd bytes) v.unit (.inSlot x))
  have hminute : t.minute = (p.goodRead c rd bytes).minute := by simp [t, Part.minute]
  rw [Part.goodRead_record] at hsteady
  refine ⟨hsteady.readSettled.1, by simp [t], (hs.bind nofun).readSettled.2, ?_, fun hv => ?_⟩
  · rw [hminute, (Part.readSettled_frame ..).2.1, Part.bind_of_noneOn hg]
    exact hdated
  · exact (Part.silent_bind_forcedRemoval hs.1 hv).readSettled.2

/-- The contracts and the chute log after the read of an arrival whose vehicle is bound (R97, R100). -/
theorem Part.bound_tables (hn : p.noneOn ⟨c, rd.pos⟩) :
    let t := ((p.goodRead c rd bytes).bind ⟨c, rd.pos⟩ v m).readSettled c rd.pos
    (v.status ≠ .out .contract → t.book = p.book) ∧
    (∀ n k take level, v.status = .out .contract → v.contract = some n → p.findContract n = some k →
      k.state = .active take level → t.book.ring = pushRing p.book.ring (closingRecord k t.book.closingSeq take m
        (.slot ⟨c, rd.pos⟩) (evaluate p.late.settings k m)) ∧ ∀ d ∈ t.book.contracts, d.number ≠ n) ∧
    (∀ n, v.status = .dropped n → ∀ e ∈ t.chute.log, e.number ≠ n) := by
  intro t
  have hg : (p.goodRead c rd bytes).noneOn ⟨c, rd.pos⟩ := hn.of_requests (Part.goodRead_requests ..)
  obtain ⟨-, hbook, -, -, -, hset⟩ := p.goodRead_frame c rd bytes
  have ht : t.book = ((p.goodRead c rd bytes).placedIn ⟨c, rd.pos⟩ v m).book ∧
      t.chute = ((p.goodRead c rd bytes).placedIn ⟨c, rd.pos⟩ v m).chute := by
    simp only [t, Part.readSettled_frame, Part.bind_of_noneOn hg, and_self]
  rw [ht.1, ht.2]
  refine ⟨fun hv => (Part.placedIn_book hv).trans hbook, fun n k take level hv hc hk hs => ?_,
    fun n hv => Part.placedIn_dropped hv⟩
  have := Part.placedIn_closing hv hc ((Part.findContract_congr hbook n).trans hk) hs (x := ⟨c, rd.pos⟩) (m := m)
  rwa [hset, hbook] at this

/-- The notices of the return after the read of an arrival (R98, R101). -/
theorem Part.bound_notices (hn : p.noneOn ⟨c, rd.pos⟩) :
    let x : SlotId := ⟨c, rd.pos⟩
    let t := ((p.goodRead c rd bytes).bind x v m).readSettled c rd.pos
    let arrival : NoticeBody := .arrival x v.unit m v.status
    (v.arrives → p.reports t [arrival]) ∧
    (¬ v.arrives → p.silentOn t fun b => ∃ y unit minute before, b = .arrival y unit minute before) ∧
    (∀ w o, p.findHome x = some w → w.unit ≠ v.unit → w.status = .out o →
      p.reports t [.misplaced x v.unit w.unit m] ∧
      (v.arrives → p.reports t [arrival, .misplaced x v.unit w.unit m])) ∧
    ((∀ w, p.findHome x = some w → w.unit = v.unit ∨ ∀ o, w.status ≠ .out o) →
      p.silentOn t fun b => ∃ y unit home minute, b = .misplaced y unit home minute) := by
  intro x t arrival
  have hg : (p.goodRead c rd bytes).noneOn x := hn.of_requests (Part.goodRead_requests ..)
  have hhome : (p.goodRead c rd bytes).findHome x = p.findHome x := by simp [Part.findHome]
  have hrep : p.reports (p.goodRead c rd bytes) [] := (p.reports_stable []).goodRead c rd bytes p.reports_refl
  have hsilent : ∀ K : NoticeBody → Prop, Part.NoticeStable (fun q => p.silentOn q K) →
      p.silentOn (p.goodRead c rd bytes) K := fun K hK => hK.goodRead c rd bytes fun _ h _ => h
  have hsettled : ∀ l, p.reports ((p.goodRead c rd bytes).placedIn x v m) l → p.reports t l := fun l h => by
    rw [← Part.bind_of_noneOn hg] at h
    exact (p.reports_stable l).readSettled h
  have hquiet : ∀ K : NoticeBody → Prop, Part.NoticeStable (fun q => p.silentOn q K) →
      p.silentOn ((p.goodRead c rd bytes).placedIn x v m) K → p.silentOn t K := fun K hK h => by
    rw [← Part.bind_of_noneOn hg] at h
    exact hK.readSettled h
  have harrK := Part.silentOn_stable p (K := fun b => ∃ y unit minute before, b = .arrival y unit minute before)
    (by simp) (by simp)
  have hmisK := Part.silentOn_stable p (K := fun b => ∃ y unit home minute, b = .misplaced y unit home minute)
    (by simp) (by simp)
  refine ⟨fun ha => hsettled _ (hrep.backIn_arrival ha).placedIn,
    fun ha => hquiet _ harrK ((hsilent _ harrK).placedIn_arrival ha), fun w o hw hne ho => ⟨?_, fun ha => ?_⟩,
    fun hw => hquiet _ hmisK ((hsilent _ hmisK).placedIn_misplaced (by rwa [hhome]))⟩
  · exact hsettled _ (hrep.backIn.placedIn_misplaced (hhome.trans hw) hne ho)
  · exact hsettled _ ((hrep.backIn_arrival ha).placedIn_misplaced (hhome.trans hw) hne ho)

end bound

theorem pushRing_eq (ring : List ClosingRecord) (r : ClosingRecord) : pushRing ring r = (ring ++ [r]).drop (ring.length - 63) := by
  rw [pushRing, show ring.length + 1 - Config.ringCapacity = ring.length - 63 by simp [Config.ringCapacity]]

/-- Settles O44, by the rows of R30: those that bind no vehicle only mark the record and raise their alarm, and the one
that binds a vehicle is followed through its return, its misplacement test and the settling. -/
theorem identification : Obligations.Identification := by
  intro c rd bytes m s hh hroom hread hun x becomes
  have hmarked : ∀ {q : Part} {k : Custody} {a : AlarmKind}, s.part.marked q x k a →
      exec (.readAttemptEnd c bytes) s = .next { s with part := q } → becomes k { s with part := q } :=
    fun h he => ⟨he, rfl, h.steady.1, h.supply⟩
  refine ⟨fun hno h3 => ?_, fun tag kind hgood => ?_⟩
  · have hraise := Part.marked_raise (p := s.part.ending c rd bytes) (hroom.1.of_list (by simp))
      (by simpa using hroom.2) (x := x) (k := .unread m) (.inl nofun) .fobUnread
    have hend : s.part.marked _ x (.unread m) .fobUnread :=
      (hraise.readSettled nofun c rd.pos).of_tables (Part.ending_record ..) (by simp) (by simp) (by simp) (by simp)
    exact ⟨_, hmarked hend (exec_arrival_unreadable hh hread hun hno h3), hend.sounds.2, hend.fleet, hend.book⟩
  have hexec := exec_arrival_good hh hread hun hgood
  have hs := s.part.goodRead_silent c rd (bytes := bytes) hroom.1
  have hlen := (s.part.goodRead_length c rd bytes).trans_lt hroom.2
  have hfind : (s.part.goodRead c rd bytes).findTag tag = s.part.findTag tag := Part.findTag_congr (by simp) tag
  have hfor : (s.part.goodRead c rd bytes).unforeign x = s.part.goodRead c rd bytes :=
    Part.unforeign_of_unread ((Part.goodRead_custody ..).trans hun)
  have hrow : ∀ reason a, a ≠ .columnLost → a ≠ .fobUnread →
      (s.part.goodRead c rd bytes).identify x m (.good tag kind) =
        (s.part.goodRead c rd bytes).makeForeign x tag reason m a →
      ∃ t, becomes (.foreign tag reason m) t ∧ t.part.alarmStands a (.slot x) ∧ t.part.alarmOver .fobUnread (.slot x) ∧
        t.part.fleet = s.part.fleet ∧ t.part.book = s.part.book := by
    intro reason a hlost hunread he
    rw [he] at hexec
    have hm := (Part.marked_makeForeign hs.1 hlen x tag reason m a).of_goodRead hlost rd.pos
    exact ⟨_, hmarked hm hexec, hm.sounds.2, (hs.makeForeign hunread ..).readSettled.2, hm.fleet, hm.book⟩
  refine ⟨fun hk => ?_, fun hk ht => ?_, fun v y hk hv hy => ?_, fun v hk hv hy hlive => ?_⟩
  · refine hrow _ _ nofun nofun ?_
    rw [Part.identify_stranger (.inl hk), if_neg hk, hfor]
  · refine hrow _ _ nofun nofun ?_
    rw [Part.identify_stranger (.inr (hfind.trans ht)), if_pos hk, hfor]
  · subst hk
    refine hrow _ _ nofun nofun ?_
    rw [Part.identify_duplicate (hfind.trans hv) hy, hfor]
  · subst hk
    have hn := (Part.noneOn_iff ..).mpr hlive
    rw [Part.identify_bind (hfind.trans hv) hy, hfor] at hexec
    obtain ⟨hrec, hsup, hover, hin, hstray⟩ := Part.bound_arrival (bytes := bytes) (m := m) (v := v) hroom.1 hn
    obtain ⟨hbook, hclosed, hdropped⟩ := Part.bound_tables (bytes := bytes) (m := m) (v := v) hn
    refine ⟨_, ⟨hexec, rfl, ?_, hsup⟩, hover, hin, hbook, fun n k take level hout hc hk hact => ?_, hdropped, hstray,
      Part.bound_notices hn⟩
    · rw [← Part.findTag_tag hv]
      exact hrec
    · obtain ⟨hring, hnone⟩ := hclosed n k take level hout hc hk hact
      refine ⟨hring.trans ?_, hnone⟩
      rw [pushRing_eq, ← (Part.findContract_some hk).2]
      rfl

end Sys2Proof.Machine
end

section
/-! PROOFS. The rows of R30 for any slot, and the swap (R30, R34): what an identification leaves of the record, the
vehicles, the alarms and the queue. -/

namespace Sys2Proof.Machine

/-! ## The rows -/

/-- A row of R30 that binds no vehicle: other alarms than its own stand or are over as before. -/
structure Part.foreignRow (p q : Part) (x : SlotId) (k : Custody) (a : AlarmKind) : Prop
    extends toMarked : p.marked q x k a where
  sound : ∀ b y, b ≠ .columnLost → p.sounds b y → q.sounds b y
  silence : ∀ b y, b ≠ a → b ≠ .fobSwap → p.silent b y → q.silent b y

/-- The row of R30 that binds a vehicle. -/
structure Part.boundRow (p q : Part) (x : SlotId) (v : Vehicle) (m : Minute) : Prop where
  steady : q.steady x { p.record x with custody := .held v.tag v.unit m false }
  noneOn : q.noneOn x
  supply : q.supply = p.supply
  bound : ∀ w ∈ q.fleet, w.unit = v.unit → w.status = .inSlot x
  others : ∀ u st, u ≠ v.unit → (∀ w ∈ p.fleet, w.unit = u → w.status = st) → ∀ w ∈ q.fleet, w.unit = u → w.status = st
  unknown : q.silent .fobUnknown (.slot x)
  sound : ∀ u, u ≠ v.unit → p.sounds .forcedRemoval (.vehicle u) → q.sounds .forcedRemoval (.vehicle u)
  silence : ∀ b y, b ≠ .chuteFull → b ≠ .fobSwap → p.silent b y → q.silent b y

section rows

variable {p q : Part} {x : SlotId} {m : Minute}

theorem Part.foreignRow_makeForeign (hd : p.alarmsDistinct) (hl : p.alarm.list.length < 48) (tag : Nat)
    (reason : ForeignReason) (m : Minute) (a : AlarmKind) :
    p.foreignRow (p.makeForeign x tag reason m a) x (.foreign tag reason m) a :=
  { Part.marked_makeForeign hd hl x tag reason m a with
    sound := fun _ _ _ h => h.makeForeign ..
    silence := fun _ _ hb _ h => h.makeForeign hb.symm .. }

theorem Part.boundRow_bind (hd : p.alarmsDistinct) (hs : p.staffOnly x) (v : Vehicle) (m : Minute) :
    p.boundRow (p.bind x v m) x v m where
  steady := Part.bind_steady hs
  noneOn := Part.bind_noneOn hs
  supply := by simp
  bound := Part.bind_in p x v m
  others := fun _ _ hu h => Part.bind_others hu h
  unknown := Part.silent_bind_fobUnknown hd
  sound := fun _ hu h => h.bind hu
  silence := fun _ _ hb _ h => h.bind hb

theorem Part.foreignRow.raiseSwap {k : Custody} {a : AlarmKind} (h : p.foreignRow q x k a) (y : Subject) :
    p.foreignRow (q.raise .fobSwap y) x k a :=
  { h.toMarked.raise .fobSwap y with
    sound := fun b z hb hz => (h.sound b z hb hz).raise ..
    silence := fun b z hb hw hz => (h.silence b z hb hw hz).raise (.inl hw.symm) }

theorem Part.foreignRow.readSettled {k : Custody} {a : AlarmKind} (h : p.foreignRow q x k a) (ha : a ≠ .columnLost)
    (c : ColId) (i : PosId) : p.foreignRow (q.readSettled c i) x k a :=
  { h.toMarked.readSettled ha c i with
    sound := fun b z hb hz => (h.sound b z hb hz).readSettled hb
    silence := fun b z hb hw hz => (h.silence b z hb hw hz).readSettled }

theorem Part.boundRow.raiseSwap {v : Vehicle} (h : p.boundRow q x v m) (y : Subject) :
    p.boundRow (q.raise .fobSwap y) x v m where
  steady := h.steady.of_same (Part.record_of_slot (Part.slot_congr (by simp) x)) (Part.requests_congr (by simp))
  noneOn := h.noneOn.of_requests (Part.requests_congr (by simp))
  supply := by simpa using h.supply
  bound := by simpa using h.bound
  others := by simpa using h.others
  unknown := h.unknown.raise (.inl nofun)
  sound := fun u hu hs => (h.sound u hu hs).raise ..
  silence := fun b z hb hw hz => (h.silence b z hb hw hz).raise (.inl hw.symm)

theorem Part.boundRow.readSettled {v : Vehicle} (h : p.boundRow q x v m) (c : ColId) (i : PosId) :
    p.boundRow (q.readSettled c i) x v m where
  steady := h.steady.readSettled
  noneOn := h.noneOn.of_requests (Part.readSettled_requests ..).1
  supply := by simpa using h.supply
  bound := by simpa using h.bound
  others := by simpa using h.others
  unknown := h.unknown.readSettled
  sound := fun u hu hs => (h.sound u hu hs).readSettled nofun
  silence := fun b z hb hw hz => (h.silence b z hb hw hz).readSettled

end rows

/-! ## The identification by its rows -/

/-- The rows of R30 of a GOOD read, from the part in which they are told apart. -/
structure Part.identified (p q : Part) (x : SlotId) (tag kind : Nat) (m : Minute) : Prop where
  stranger : kind ≠ 1 ∨ p.findTag tag = none →
    p.foreignRow q x (.foreign tag (if kind = 1 then .unknown else .wrongKind) m) .fobUnknown
  duplicate : ∀ v y, kind = 1 → p.findTag tag = some v → v.status = .inSlot y →
    p.foreignRow q x (.foreign tag .duplicate m) .fobDuplicate
  bound : ∀ v, kind = 1 → p.findTag tag = some v → (∀ y, v.status ≠ .inSlot y) → p.boundRow q x v m

section identified

variable {p q : Part} {x : SlotId} {tag kind : Nat} {m : Minute}

theorem Part.identified.raiseSwap (h : p.identified q x tag kind m) (y : Subject) :
    p.identified (q.raise .fobSwap y) x tag kind m where
  stranger := fun hk => (h.stranger hk).raiseSwap y
  duplicate := fun v z hk hv hz => (h.duplicate v z hk hv hz).raiseSwap y
  bound := fun v hk hv hz => (h.bound v hk hv hz).raiseSwap y

theorem Part.identified.readSettled (h : p.identified q x tag kind m) (c : ColId) (i : PosId) :
    p.identified (q.readSettled c i) x tag kind m where
  stranger := fun hk => (h.stranger hk).readSettled nofun c i
  duplicate := fun v z hk hv hz => (h.duplicate v z hk hv hz).readSettled nofun c i
  bound := fun v hk hv hz => (h.bound v hk hv hz).readSettled c i

theorem Part.identify_identified (hd : (p.unforeign x).alarmsDistinct) (hl : (p.unforeign x).alarm.list.length < 48)
    (hs : p.staffOnly x) (tag kind : Nat) (m : Minute) :
    (p.unforeign x).identified (p.identify x m (.good tag kind)) x tag kind m where
  stranger := fun hk => by
    rw [Part.findTag_congr (Part.unforeign_frame ..).2.1] at hk
    rw [Part.identify_stranger hk]
    exact Part.foreignRow_makeForeign hd hl ..
  duplicate := fun v y hk hv hy => by
    rw [Part.findTag_congr (Part.unforeign_frame ..).2.1] at hv
    rw [hk, Part.identify_duplicate hv hy]
    exact Part.foreignRow_makeForeign hd hl ..
  bound := fun v hk hv hy => by
    rw [Part.findTag_congr (Part.unforeign_frame ..).2.1] at hv
    rw [hk, Part.identify_bind hv hy]
    have hr : (p.unforeign x).requests = p.requests := Part.requests_congr (by simp)
    exact Part.boundRow_bind hd (hs.of_requests fun r h => hr ▸ h) v m

/-- What a GOOD identification is, by its row. -/
theorem Part.identify_good_cases (p : Part) (x : SlotId) (tag kind : Nat) (m : Minute) :
    (∃ reason a, (a = .fobUnknown ∨ a = .fobDuplicate) ∧
      p.identify x m (.good tag kind) = (p.unforeign x).makeForeign x tag reason m a) ∨
    ∃ v, p.identify x m (.good tag kind) = (p.unforeign x).bind x v m := by
  by_cases hk : kind = 1
  · cases ht : p.findTag tag with
    | none => exact .inl ⟨_, _, .inl rfl, Part.identify_stranger (.inr ht) x m⟩
    | some v =>
      rw [hk]
      by_cases hy : ∃ y, v.status = .inSlot y
      · exact .inl ⟨_, _, .inr rfl, Part.identify_duplicate ht hy.choose_spec x m⟩
      · exact .inr ⟨v, Part.identify_bind ht (fun y h => hy ⟨y, h⟩) x m⟩
  · exact .inl ⟨_, _, .inl rfl, Part.identify_stranger (.inl hk) x m⟩

theorem Part.identify_alarms (hd : (p.unforeign x).alarmsDistinct) (tag kind : Nat) (m : Minute) :
    (p.identify x m (.good tag kind)).alarmsDistinct ∧
    (p.identify x m (.good tag kind)).alarm.list.length ≤ (p.unforeign x).alarm.list.length + 1 := by
  rcases p.identify_good_cases x tag kind m with ⟨reason, a, -, e⟩ | ⟨v, e⟩
  · rw [e]
    exact ⟨Part.alarmsDistinct.raise (p := (p.unforeign x).setCustody x _) (hd.of_list rfl), Part.makeForeign_length ..⟩
  · rw [e]
    exact ⟨(Part.silent_bind_fobUnknown hd).1, Part.bind_length ..⟩

theorem Part.silent.identify {y : Subject} (h : (p.unforeign x).silent .fobUnread y) (tag kind : Nat) (m : Minute) :
    (p.identify x m (.good tag kind)).silent .fobUnread y := by
  rcases p.identify_good_cases x tag kind m with ⟨reason, a, ha, e⟩ | ⟨v, e⟩
  · rw [e]
    exact h.makeForeign (by rcases ha with rfl | rfl <;> decide) ..
  · rw [e]
    exact h.bind nofun

/-- Where no request is live on the slot, an identification ends none. -/
theorem Part.identify_sched (hn : p.noneOn x) (tag kind : Nat) (m : Minute) :
    (p.identify x m (.good tag kind)).sched = p.sched := by
  rcases p.identify_good_cases x tag kind m with ⟨reason, a, -, e⟩ | ⟨v, e⟩
  · rw [e]
    simp
  · rw [e, Part.bind_sched (hn.of_requests (Part.requests_congr (by simp)))]
    simp

end identified

/-! ## The swap -/

/-- A slot handled as a new arrival at the current minute. -/
def Part.unreadNow (p : Part) (x : SlotId) : Part := p.setCustody x (.unread p.minute)

/-- A swap after the fob recorded is gone: a new arrival at the current minute, and FOB_SWAP (R34 steps 2 to 4). -/
def Part.swapIn (p : Part) (x : SlotId) (tag kind : Nat) : Part :=
  ((p.unreadNow x).identify x p.minute (.good tag kind)).raise .fobSwap (.slot x)

section swap

variable {p : Part} {x : SlotId} {tag kind : Nat}

theorem Part.swap_of_binds {u : Nat} (h : (p.custody x).binds u) (tag kind : Nat) :
    p.swap x tag kind = (p.strayVehicle u).swapIn x tag kind := by
  obtain ⟨t, m, f, e | ⟨j, e⟩⟩ := h <;> simp only [Part.swap, e] <;> rfl

theorem Part.swap_of_foreign {t : Nat} {reason : ForeignReason} {m : Minute} (h : p.custody x = .foreign t reason m)
    (tag kind : Nat) : p.swap x tag kind = (p.endForeignConditions x).swapIn x tag kind := by
  simp only [Part.swap, h]
  rfl

theorem Part.unforeign_unreadNow (p : Part) (x : SlotId) : (p.unreadNow x).unforeign x = p.unreadNow x :=
  Part.unforeign_of_unread (m := p.minute) (by simp [Part.unreadNow, Part.custody])

theorem Part.swapIn_identified (hd : p.alarmsDistinct) (hl : p.alarm.list.length ≤ 46) (hs : p.staffOnly x)
    (tag kind : Nat) : (p.unreadNow x).identified (p.swapIn x tag kind) x tag kind p.minute ∧
      (p.swapIn x tag kind).sounds .fobSwap (.slot x) := by
  have hu := p.unforeign_unreadNow x
  have hdu : ((p.unreadNow x).unforeign x).alarmsDistinct := hu.symm ▸ hd.of_list rfl
  have hlu : ((p.unreadNow x).unforeign x).alarm.list.length ≤ 46 := hu.symm ▸ hl
  have hi := Part.identify_identified hdu (by omega) (p := p.unreadNow x) hs tag kind p.minute
  obtain ⟨hd', hl'⟩ := Part.identify_alarms hdu tag kind p.minute
  rw [hu] at hi
  exact ⟨hi.raiseSwap _, Part.sounds_raise hd' (by omega)⟩

theorem Part.swapIn_sched (hn : p.noneOn x) (tag kind : Nat) : (p.swapIn x tag kind).sched = p.sched := by
  rw [Part.swapIn, (Part.raise_frame ..).2.2.2.1, Part.identify_sched (p := p.unreadNow x) hn]
  rfl

end swap

end Sys2Proof.Machine
end

section
/-! PROOFS. Reads of HELD slots (R33, R34): the audit, and the swap of the fob of a vehicle. -/

namespace Sys2Proof.Machine

/-! ## The vehicle of the fob that is gone -/

/-- The part after the vehicle of a record has become STRAY, seen from the part before the read (R34 step 1). -/
structure Part.strayed (p q : Part) (x : SlotId) (u : Nat) : Prop where
  record : q.record x = p.record x
  noneOn : q.noneOn x
  ring : q.book.ring = p.book.ring
  chute : q.chute = p.chute
  supply : q.supply = p.supply
  minute : q.minute = p.minute
  removed : q.sounds .forcedRemoval (.vehicle u)
  stray : ∀ w ∈ q.fleet, w.unit = u → w.status = .stray
  known : ∀ k, Vehicle.lasting k → q.known k = (p.known k).map fun e => if e.1 = u then (u, .stray) else e
  length : q.alarm.list.length ≤ p.alarm.list.length + 1

section strayed

variable {p q : Part} {x : SlotId} {u : Nat}

theorem Part.strayVehicle_strayed (hn : p.noneOn x) (hd : p.alarmsDistinct) (hl : p.alarm.list.length ≤ 45) (u : Nat) :
    p.strayed (p.strayVehicle u) x u := by
  let q := (p.setStatus u .stray).raise .forcedRemoval (.vehicle u)
  have he : p.strayVehicle u = q.endAll (q.liveOf u) .vehicleGone := rfl
  have hidle : (p.strayVehicle u).idleSlot x (p.slot x) := by
    rw [he]
    exact Part.idleSlot.endAll ⟨Part.slot_congr (by simp [q]) x, hn.of_requests (Part.requests_congr (by simp [q]))⟩ ..
  obtain ⟨hstray, hsounds, -⟩ := Part.strayVehicle_effect ⟨hd, by omega⟩ u
  refine ⟨Part.record_of_slot hidle.1, hidle.2, ?_, by simp, by simp, by simp [Part.minute], hsounds, hstray, ?_, ?_⟩
  · rw [he, (Part.endAll_tables ..).2.1]
    simp [q]
  · intro k hk
    rw [he, Part.known_endAll hk, Part.known_congr (Part.raise_frame ..).2.2.1, Part.known_setStatus hk]
  · rw [he, (Part.endAll_frame ..).2.2.2.1]
    exact Part.raise_length (p.setStatus u .stray) _ _

theorem Part.strayed.of_before {p' : Part} (h : p.strayed q x u) (hr : p.record x = p'.record x)
    (hring : p.book.ring = p'.book.ring) (hc : p.chute = p'.chute) (hs : p.supply = p'.supply)
    (hm : p.minute = p'.minute) (hk : ∀ k, Vehicle.lasting k → p.known k = p'.known k)
    (hl : p.alarm.list.length ≤ p'.alarm.list.length) : p'.strayed q x u where
  record := h.record.trans hr
  noneOn := h.noneOn
  ring := h.ring.trans hring
  chute := h.chute.trans hc
  supply := h.supply.trans hs
  minute := h.minute.trans hm
  removed := h.removed
  stray := h.stray
  known := fun k hl => (h.known k hl).trans (by rw [hk k hl])
  length := h.length.trans (Nat.succ_le_succ hl)

theorem Part.strayed.findTag_none (h : p.strayed q x u) {tag : Nat} (ht : p.findTag tag = none) : q.findTag tag = none := by
  rw [Part.findTag_eq_none_iff] at ht ⊢
  rw [h.known _ (Vehicle.lasting_tag tag), ht]
  rfl

/-- The vehicle of another fob is as it was. -/
theorem Part.strayed.findTag_some (h : p.strayed q x u) {tag : Nat} {v : Vehicle} (ht : p.findTag tag = some v)
    (hv : v.unit ≠ u) : ∃ w, q.findTag tag = some w ∧ w.tag = tag ∧ w.unit = v.unit ∧ w.status = v.status := by
  refine Part.findTag_of_known ?_
  rw [h.known _ (Vehicle.lasting_tag tag), Part.known_of_findTag ht]
  simp [hv]

end strayed

/-! ## The rows of a swap -/

/-- What a swap leaves where it binds no vehicle (R34). -/
structure Part.swapped (p t : Part) (x : SlotId) (u : Nat) (k : Custody) : Prop where
  record : t.record x = { p.record x with custody := k }
  supply : t.supply = p.supply
  swap : t.alarmStands .fobSwap (.slot x)
  removed : t.alarmStands .forcedRemoval (.vehicle u)
  stray : ∀ w ∈ t.fleet, w.unit = u → w.status = .stray

section swapped

variable {p q : Part} {x : SlotId} {u : Nat} (h : p.strayed q x u) (hl : p.alarm.list.length ≤ 45) (c : ColId) (i : PosId)
include h hl

theorem Part.strayed.swapIn_settled (tag kind : Nat) :
    (q.unreadNow x).identified ((q.swapIn x tag kind).readSettled c i) x tag kind q.minute ∧
    ((q.swapIn x tag kind).readSettled c i).sounds .fobSwap (.slot x) := by
  have hlen := h.length
  obtain ⟨hi, hs⟩ := Part.swapIn_identified h.removed.1 (by omega) h.noneOn.staffOnly tag kind
  exact ⟨hi.readSettled c i, hs.readSettled nofun⟩

omit hl in
theorem Part.strayed.swapped_of_row {t : Part} {k : Custody} {a : AlarmKind} (hrow : (q.unreadNow x).foreignRow t x k a)
    (hs : t.sounds .fobSwap (.slot x)) :
    p.swapped t x u k ∧ t.chute = p.chute ∧ t.book.ring = p.book.ring ∧ t.alarmStands a (.slot x) := by
  have hrec : t.record x = { p.record x with custody := k } := by
    rw [hrow.steady.1, Part.unreadNow, Part.record_setCustody, h.record]
  have hfleet : t.fleet = q.fleet := hrow.fleet
  exact ⟨⟨hrec, hrow.supply.trans h.supply, hs.2, (hrow.sound .forcedRemoval _ nofun (h.removed.of_alarm rfl)).2,
    hfleet ▸ h.stray⟩, hrow.chute.trans h.chute, (congrArg _ hrow.book).trans h.ring, hrow.sounds.2⟩

theorem Part.strayed.swap_stranger {tag kind : Nat} (hk : kind ≠ 1 ∨ p.findTag tag = none) :
    let t := (q.swapIn x tag kind).readSettled c i
    p.swapped t x u (.foreign tag (if kind = 1 then .unknown else .wrongKind) p.minute) ∧ t.chute = p.chute ∧
    t.book.ring = p.book.ring := by
  intro t
  obtain ⟨hi, hs⟩ := h.swapIn_settled hl c i tag kind
  rw [h.minute] at hi
  obtain ⟨hw, hc, hr, -⟩ := h.swapped_of_row (hi.stranger (hk.imp_right h.findTag_none)) hs
  exact ⟨hw, hc, hr⟩

theorem Part.strayed.swap_duplicate {tag : Nat} {v : Vehicle} {y : SlotId} (ht : p.findTag tag = some v)
    (hv : v.unit ≠ u) (hy : v.status = .inSlot y) :
    let t := (q.swapIn x tag 1).readSettled c i
    p.swapped t x u (.foreign tag .duplicate p.minute) ∧ t.chute = p.chute ∧ t.book.ring = p.book.ring ∧
    t.alarmStands .fobDuplicate (.slot x) := by
  intro t
  obtain ⟨hi, hs⟩ := h.swapIn_settled hl c i tag 1
  obtain ⟨w, hw, -, -, hstatus⟩ := h.findTag_some ht hv
  rw [h.minute] at hi
  exact h.swapped_of_row (hi.duplicate w y rfl hw (hstatus.trans hy)) hs

theorem Part.strayed.swap_bound {tag : Nat} {v : Vehicle} (ht : p.findTag tag = some v)
    (hv : v.unit ≠ u) (hy : ∀ y, v.status ≠ .inSlot y) :
    let t := (q.swapIn x tag 1).readSettled c i
    p.swapped t x u (.held tag v.unit p.minute false) ∧ ∀ w ∈ t.fleet, w.unit = v.unit → w.status = .inSlot x := by
  intro t
  obtain ⟨hi, hs⟩ := h.swapIn_settled hl c i tag 1
  obtain ⟨w, hw, hwt, hwu, hstatus⟩ := h.findTag_some ht hv
  rw [h.minute] at hi
  have hrow := hi.bound w rfl hw (by rwa [hstatus])
  have hrec : t.record x = { p.record x with custody := .held tag v.unit p.minute false } := by
    rw [hrow.steady.1, Part.unreadNow, Part.record_setCustody, h.record, hwt, hwu]
  have hu : u ≠ w.unit := hwu ▸ hv.symm
  exact ⟨⟨hrec, hrow.supply.trans h.supply, hs.2, (hrow.sound u hu (h.removed.of_alarm rfl)).2,
    hrow.others u _ hu h.stray⟩, hwu ▸ hrow.bound⟩

end swapped

/-! ## The outcomes of a HELD slot -/

section held

variable {s : State} {c : ColId} {rd : Read} {bytes : List Byte} {tag unit : Nat} {m : Minute} {f : Bool}

theorem Part.readOutcome_held {p : Part} {x : SlotId} (h : p.custody x = .held tag unit m f) (b : Bool) :
    p.readOutcome x b .unreadable = p.confirmHeld x tag unit m .unreadable := by
  simp only [Part.readOutcome, h]

theorem Part.readOutcome_held_good {p : Part} {x : SlotId} (h : p.custody x = .held tag unit m f) (b : Bool) (g kind : Nat) :
    p.readOutcome x b (.good g kind) = (p.endCondition .fobUnread (.slot x)).confirmHeld x tag unit m (.good g kind) := by
  have hc : (p.endCondition .fobUnread (.slot x)).custody x = .held tag unit m f :=
    (Part.custody_of_slot (Part.slot_congr (by simp) x)).trans h
  simp only [Part.readOutcome, hc]

variable (hh : s.part.halted = false) (hr : (s.part.column c).reader = some rd)
  (hx : s.part.custody ⟨c, rd.pos⟩ = .held tag unit m f)
include hh hr hx

theorem exec_held_good (h : classify bytes = .good tag 1) : exec (.readAttemptEnd c bytes) s = .next
    { s with part := ((s.part.goodRead c rd bytes).setCustody ⟨c, rd.pos⟩ (.held tag unit m false)).readSettled c rd.pos } := by
  rw [exec_read_good hh hr h, Part.readOutcome_held_good ((Part.ending_custody ..).trans hx), Part.confirmHeld, if_pos ⟨rfl, rfl⟩]
  rfl

theorem exec_held_unreadable (h : ∀ g kind, classify bytes ≠ .good g kind) (ha : 3 ≤ rd.attempt) :
    exec (.readAttemptEnd c bytes) s = .next
      { s with part := (((s.part.ending c rd bytes).setCustody ⟨c, rd.pos⟩ (.held tag unit m true)).raise .fobUnread
          (.slot ⟨c, rd.pos⟩)).readSettled c rd.pos } := by
  rw [exec_read_unreadable hh hr h ha, Part.readOutcome_held ((Part.ending_custody ..).trans hx)]
  rfl

theorem exec_held_swap {g kind : Nat} (h : classify bytes = .good g kind) (hg : g ≠ tag ∨ kind ≠ 1) :
    exec (.readAttemptEnd c bytes) s = .next
      { s with part := (((s.part.goodRead c rd bytes).strayVehicle unit).swapIn ⟨c, rd.pos⟩ g kind).readSettled c rd.pos } := by
  have hc : (s.part.goodRead c rd bytes).custody ⟨c, rd.pos⟩ = .held tag unit m f := (Part.goodRead_custody ..).trans hx
  have hne : ¬(g = tag ∧ kind = 1) := fun e => hg.elim (fun hg => hg e.1) fun hk => hk e.2
  rw [exec_read_good hh hr h, Part.readOutcome_held_good ((Part.ending_custody ..).trans hx), Part.confirmHeld, if_neg hne,
    ← Part.goodRead, Part.swap_of_binds ⟨tag, m, f, .inl hc⟩]

end held

/-- The vehicle of the record STRAY, in the part of a GOOD read of its slot. -/
theorem Part.goodRead_strayed {p : Part} {c : ColId} {rd : Read} {bytes : List Byte} {g kind : Nat}
    (h : classify bytes = .good g kind) (hd : p.alarmsDistinct) (hl : p.alarm.list.length ≤ 45)
    (hn : p.noneOn ⟨c, rd.pos⟩) (u : Nat) :
    p.strayed ((p.goodRead c rd bytes).strayVehicle u) ⟨c, rd.pos⟩ u := by
  have hlen := p.goodRead_length c rd bytes
  have hs := Part.strayVehicle_strayed (hn.of_requests (Part.goodRead_requests p c rd bytes))
    (Part.goodRead_silent c rd bytes hd).1 (by omega) u
  exact hs.of_before (Part.goodRead_record ..) (by simp) (by simp) (by simp) (Part.goodRead_minute c rd h).2
    (fun k _ => Part.known_congr (by simp) k) hlen

end Sys2Proof.Machine
end

section
/-! PROOFS. Reads of FOREIGN slots (R35). -/

namespace Sys2Proof.Machine

/-! ## Alarms that a read leaves alone -/

/-- The end of a condition changes no record of another kind. -/
theorem Part.endCondition_mem {p : Part} (hd : p.alarmsDistinct) (k : AlarmKind) (x : Subject) {a : Alarm}
    (ha : a.kind ≠ k) : a ∈ (p.endCondition k x).alarm.list ↔ a ∈ p.alarm.list := by
  unfold Part.endCondition
  split
  · rfl
  next b hb =>
    obtain ⟨hm, hk, -⟩ := Part.findAlarm_some hb
    have hn : ∀ d ∈ p.alarm.list, d.kind ≠ k → d.number ≠ b.number :=
      fun d hdm hdk e => hdk (hd.eq_of_number hdm hm e ▸ hk)
    split
    · simp only [Part.notice_frame, Part.updAlarm_list, List.mem_map]
      constructor
      · rintro ⟨d, hdm, rfl⟩
        by_cases he : d.number = b.number
        · obtain rfl := hd.eq_of_number hdm hm he
          exact absurd (by simpa using hk) ha
        · rwa [if_neg he]
      · exact fun h => ⟨a, h, if_neg (hn a h ha)⟩
    · simp only [Part.notice_frame, Part.removeAlarm_list, List.mem_filter]
      exact ⟨fun h => h.1, fun h => ⟨h, by simpa using hn a h ha⟩⟩
    · rfl

/-- A settling changes no record but of COLUMN_LOST (R19). -/
theorem Part.settle_mem {p : Part} (hd : p.alarmsDistinct) {a : Alarm} (ha : a.kind ≠ .columnLost) :
    a ∈ p.settle.alarm.list ↔ a ∈ p.alarm.list := by
  refine (Part.settle_induct (P := fun q => q.alarmsDistinct ∧ (a ∈ q.alarm.list ↔ a ∈ p.alarm.list)) ?_ ?_ ?_ ?_
    ⟨hd, Iff.rfl⟩).2
  · rintro q c ⟨hq, hm⟩ -
    have hr : ((q.updColumn c fun col => { col with engine := .running }).followAudit c).alarm = q.alarm := by simp
    have hq' := hq.of_list (congrArg _ hr)
    exact ⟨hq'.endCondition, (Part.endCondition_mem hq' _ _ ha).trans (by rw [hr]; exact hm)⟩
  · exact fun q r hq _ => ⟨hq.1.of_list (by simp), by simpa using hq.2⟩
  · exact fun q c hq => ⟨hq.1.of_list (by simp), by simpa using hq.2⟩
  · exact fun q hq => hq

/-! ## Outcomes of a FOREIGN slot -/

theorem Read.servedRecheck_of_recheck {rd : Read} (h : rd.purpose = .recheck ∨ .recheck ∈ rd.also) :
    rd.servedRecheck = true := by
  rw [Read.servedRecheck, List.any_eq_true]
  rcases h with h | h
  · exact ⟨.recheck, by simp [h], rfl⟩
  · exact ⟨.recheck, List.mem_cons_of_mem _ h, rfl⟩

theorem Read.servedRecheck_of_audit {rd : Read} (h : rd.purpose = .audit ∧ ∀ p ∈ rd.also, p = .audit) :
    rd.servedRecheck = false := by
  rw [Read.servedRecheck, List.any_eq_false]
  intro p hp
  have : p = .audit := by
    rcases List.mem_cons.mp hp with rfl | hp
    · exact h.1
    · exact h.2 p hp
  rw [this]
  decide

section foreign

variable {s : State} {c : ColId} {rd : Read} {bytes : List Byte} {tag : Nat} {m : Minute} {reason : ForeignReason}

theorem Part.readOutcome_foreign {p : Part} {x : SlotId} (h : p.custody x = .foreign tag reason m) (b : Bool) :
    p.readOutcome x b .unreadable = p.confirmForeign x tag reason m b .unreadable := by
  simp only [Part.readOutcome, h]

theorem Part.readOutcome_foreign_good {p : Part} {x : SlotId} (h : p.custody x = .foreign tag reason m) (b : Bool)
    (g kind : Nat) : p.readOutcome x b (.good g kind) =
      (p.endCondition .fobUnread (.slot x)).confirmForeign x tag reason m b (.good g kind) := by
  have hc : (p.endCondition .fobUnread (.slot x)).custody x = .foreign tag reason m :=
    (Part.custody_of_slot (Part.slot_congr (by simp) x)).trans h
  simp only [Part.readOutcome, hc]

variable (hh : s.part.halted = false) (hr : (s.part.column c).reader = some rd)
  (hx : s.part.custody ⟨c, rd.pos⟩ = .foreign tag reason m)
include hh hr hx

theorem exec_foreign_good {g kind : Nat} (h : classify bytes = .good g kind) : exec (.readAttemptEnd c bytes) s = .next
    { s with part := ((s.part.goodRead c rd bytes).confirmForeign ⟨c, rd.pos⟩ tag reason m rd.servedRecheck
        (.good g kind)).readSettled c rd.pos } := by
  rw [exec_read_good hh hr h, Part.readOutcome_foreign_good ((Part.ending_custody ..).trans hx)]
  rfl

/-- A read that served RECHECK, or AUDIT of a tag that is enrolled now, identifies the tag again (R35). -/
theorem exec_foreign_again {kind : Nat} (h : classify bytes = .good tag kind)
    (ha : rd.servedRecheck = true ∨ ((reason = .unknown ∨ reason = .retired) ∧ kind = 1 ∧ s.part.findTag tag ≠ none)) :
    exec (.readAttemptEnd c bytes) s = .next
      { s with part := ((s.part.goodRead c rd bytes).identify ⟨c, rd.pos⟩ m (.good tag kind)).readSettled c rd.pos } := by
  rw [exec_foreign_good hh hr hx h]
  cases hs : rd.servedRecheck with
  | true => simp [Part.confirmForeign]
  | false =>
    obtain ⟨hreason, hk, ht⟩ := ha.resolve_left (by simp [hs])
    have ht' : ((s.part.goodRead c rd bytes).findTag tag).isSome = true := by
      rw [Part.findTag_congr (Part.goodRead_frame ..).1]
      exact Option.isSome_iff_ne_none.mpr ht
    simp [Part.confirmForeign, hreason, hk, ht']

/-- A read that served AUDIT alone changes nothing else (R35). -/
theorem exec_foreign_audit {kind : Nat} (h : classify bytes = .good tag kind) (hs : rd.servedRecheck = false)
    (ha : ¬((reason = .unknown ∨ reason = .retired) ∧ kind = 1 ∧ s.part.findTag tag ≠ none)) :
    exec (.readAttemptEnd c bytes) s = .next
      { s with part := (s.part.goodRead c rd bytes).readSettled c rd.pos } := by
  have hno : ((reason == .unknown || reason == .retired) && kind == 1 &&
      ((s.part.goodRead c rd bytes).findTag tag).isSome) = false := by
    rw [Part.findTag_congr (Part.goodRead_frame ..).1, Bool.eq_false_iff]
    simpa [Option.isSome_iff_ne_none, and_assoc] using ha
  rw [exec_foreign_good hh hr hx h]
  simp [Part.confirmForeign, hs, hno]

theorem exec_foreign_swap {g kind : Nat} (h : classify bytes = .good g kind) (hg : g ≠ tag) :
    exec (.readAttemptEnd c bytes) s = .next
      { s with part := (((s.part.goodRead c rd bytes).endForeignConditions ⟨c, rd.pos⟩).swapIn ⟨c, rd.pos⟩ g
          kind).readSettled c rd.pos } := by
  rw [exec_foreign_good hh hr hx h, ← Part.swap_of_foreign ((Part.goodRead_custody ..).trans hx)]
  simp [Part.confirmForeign, hg]

theorem exec_foreign_recheck_unreadable (h : ∀ g kind, classify bytes ≠ .good g kind) (ha : 3 ≤ rd.attempt)
    (hs : rd.servedRecheck = true) : exec (.readAttemptEnd c bytes) s = .next
      { s with part := ((((s.part.ending c rd bytes).endForeignConditions ⟨c, rd.pos⟩).setCustody ⟨c, rd.pos⟩
          (.unread m)).raise .fobUnread (.slot ⟨c, rd.pos⟩)).readSettled c rd.pos } := by
  have hc := (s.part.ending_custody c rd bytes ⟨c, rd.pos⟩).trans hx
  rw [exec_read_unreadable hh hr h ha, Part.readOutcome_foreign hc, ← Part.unforeign_of_foreign hc,
    ← Part.identify_unreadable]
  simp [Part.confirmForeign, hs]

theorem exec_foreign_audit_unreadable (h : ∀ g kind, classify bytes ≠ .good g kind) (ha : 3 ≤ rd.attempt)
    (hs : rd.servedRecheck = false) : exec (.readAttemptEnd c bytes) s = .next
      { s with part := (s.part.ending c rd bytes).readSettled c rd.pos } := by
  rw [exec_read_unreadable hh hr h ha, Part.readOutcome_foreign ((Part.ending_custody ..).trans hx)]
  simp [Part.confirmForeign, hs]

end foreign

/-! ## The rows after the conditions of the FOREIGN record are over -/

/-- A part in which a FOREIGN slot is identified: the tables as they were, the conditions of the record over. -/
structure Part.foreignOver (p b : Part) (x : SlotId) : Prop where
  record : ∀ k, { b.record x with custody := k } = { p.record x with custody := k }
  fleet : b.fleet = p.fleet
  book : b.book = p.book
  chute : b.chute = p.chute
  supply : b.supply = p.supply
  unknown : b.silent .fobUnknown (.slot x)
  duplicate : b.silent .fobDuplicate (.slot x)

/-- What a read leaves where it binds no vehicle. -/
structure Part.reads (p t : Part) (x : SlotId) (k : Custody) : Prop where
  record : t.record x = { p.record x with custody := k }
  supply : t.supply = p.supply
  chute : t.chute = p.chute
  fleet : t.fleet = p.fleet
  book : t.book = p.book

section rows

variable {p b t : Part} {x : SlotId} (hb : p.foreignOver b x)
include hb

theorem Part.foreignOver.reads_of_row {k : Custody} {a : AlarmKind} (h : b.foreignRow t x k a) : p.reads t x k where
  record := h.steady.1.trans (hb.record k)
  supply := h.supply.trans hb.supply
  chute := h.chute.trans hb.chute
  fleet := h.fleet.trans hb.fleet
  book := h.book.trans hb.book

variable {g kind : Nat} {m : Minute} (hi : b.identified t x g kind m)
include hi

theorem Part.foreignOver.stranger (hk : kind ≠ 1 ∨ p.findTag g = none) :
    p.reads t x (.foreign g (if kind = 1 then .unknown else .wrongKind) m) ∧ t.alarmStands .fobUnknown (.slot x) ∧
    t.alarmOver .fobDuplicate (.slot x) := by
  rw [← Part.findTag_congr hb.fleet] at hk
  have h := hi.stranger hk
  exact ⟨hb.reads_of_row h, h.sounds.2, (h.silence .fobDuplicate _ nofun nofun hb.duplicate).2⟩

theorem Part.foreignOver.inOther {v : Vehicle} {y : SlotId} (hk : kind = 1) (hv : p.findTag g = some v)
    (hy : v.status = .inSlot y) : p.reads t x (.foreign g .duplicate m) ∧ t.alarmStands .fobDuplicate (.slot x) ∧
    t.alarmOver .fobUnknown (.slot x) := by
  rw [← Part.findTag_congr hb.fleet] at hv
  have h := hi.duplicate v y hk hv hy
  exact ⟨hb.reads_of_row h, h.sounds.2, (h.silence .fobUnknown _ nofun nofun hb.unknown).2⟩

theorem Part.foreignOver.bound {v : Vehicle} (hk : kind = 1) (hv : p.findTag g = some v)
    (hy : ∀ y, v.status ≠ .inSlot y) : t.supply = p.supply ∧
    t.record x = { p.record x with custody := .held g v.unit m false } ∧
    (t.alarmOver .fobUnknown (.slot x) ∧ t.alarmOver .fobDuplicate (.slot x)) ∧ t.liveOn x = [] ∧
    ∀ w ∈ t.fleet, w.unit = v.unit → w.status = .inSlot x := by
  rw [← Part.findTag_congr hb.fleet] at hv
  have h := hi.bound v hk hv hy
  refine ⟨h.supply.trans hb.supply, ?_, ⟨h.unknown.2, (h.silence .fobDuplicate _ nofun nofun hb.duplicate).2⟩,
    (Part.noneOn_iff ..).mp h.noneOn, h.bound⟩
  rw [h.steady.1, hb.record, Part.findTag_tag hv]

end rows

section ended

variable {p : Part} {x : SlotId}

theorem Part.endForeignConditions_silent (h : p.alarmsDistinct) :
    (p.endForeignConditions x).silent .fobUnknown (.slot x) ∧ (p.endForeignConditions x).silent .fobDuplicate (.slot x) := by
  have hu : (p.endCondition .fobUnknown (.slot x)).silent .fobUnknown (.slot x) := Part.silent_endCondition h ..
  exact ⟨hu.endCondition .fobDuplicate (.slot x), Part.silent_endCondition hu.1 ..⟩

theorem Part.endForeignConditions_length (p : Part) (x : SlotId) :
    (p.endForeignConditions x).alarm.list.length ≤ p.alarm.list.length :=
  (Part.endCondition_length (p.endCondition .fobUnknown (.slot x)) _ _).trans (Part.endCondition_length ..)

theorem Part.silent.endForeignConditions {k : AlarmKind} {y : Subject} (h : p.silent k y) (x : SlotId) :
    (p.endForeignConditions x).silent k y := (h.endCondition .fobUnknown (.slot x)).endCondition .fobDuplicate (.slot x)

end ended

section goodRead

variable {p : Part} {c : ColId} {rd : Read} {bytes : List Byte} (hd : p.alarmsDistinct)
include hd

/-- The part of a GOOD read of a FOREIGN slot, the conditions of its record over. -/
theorem Part.goodRead_foreignOver : p.foreignOver ((p.goodRead c rd bytes).endForeignConditions ⟨c, rd.pos⟩) ⟨c, rd.pos⟩ where
  record := fun k => by
    rw [Part.record_of_slot (Part.slot_congr (Part.endForeignConditions_frame ..).2.1 _), Part.goodRead_record]
  fleet := by simp
  book := by simp
  chute := by simp
  supply := by simp
  unknown := (Part.endForeignConditions_silent (Part.goodRead_silent c rd bytes hd).1).1
  duplicate := (Part.endForeignConditions_silent (Part.goodRead_silent c rd bytes hd).1).2

end goodRead

theorem Part.foreignOver.unreadNow {p b : Part} {x : SlotId} (h : p.foreignOver b x) : p.foreignOver (b.unreadNow x) x where
  record := fun k => by
    rw [Part.unreadNow, Part.record_setCustody, ← h.record k]
  fleet := h.fleet
  book := h.book
  chute := h.chute
  supply := h.supply
  unknown := h.unknown.of_alarm rfl
  duplicate := h.duplicate.of_alarm rfl

end Sys2Proof.Machine
end

section
/-! PROOFS. Reads of RELEASING slots: the verification of a release (R36, R66 to R69, R75). -/

namespace Sys2Proof.Machine

theorem Part.verifyingOn_some {p : Part} {x : SlotId} {r : Release} (h : p.verifyingOn x = some r) :
    r ∈ p.sched.queue ∧ r.slot = x ∧ ∃ t, r.phase = .verifying t := by
  have hr := List.find?_some h
  simp only [Bool.and_eq_true, beq_iff_eq] at hr
  refine ⟨List.mem_of_find?_eq_some h, hr.2, ?_⟩
  cases hp : r.phase with
  | verifying t => exact ⟨t, rfl⟩
  | _ => simp [Release.isVerifying, hp] at hr

theorem Part.verifyingOn_congr {p q : Part} (h : q.sched.queue = p.sched.queue) (x : SlotId) :
    q.verifyingOn x = p.verifyingOn x := by
  rw [Part.verifyingOn, Part.verifyingOn, h]

/-! ## A release that is not waiting -/

/-- A release in flight under its number, which no other live request has: no selection is made of it (R60). -/
def Part.flies (p : Part) (r : Release) : Prop :=
  p.findRelease r.number = some r ∧ r.isWaiting = false ∧ p.liveNumbers.Nodup

section flies

variable {p q : Part} {r : Release}

theorem Part.flies.of_queue (h : p.flies r) (hq : q.sched.queue = p.sched.queue) : q.flies r := by
  rwa [Part.flies, Part.findRelease, Part.liveNumbers, hq]

theorem Part.findRelease_updRelease {f : Release → Release} (hf : ∀ r, (f r).number = r.number) (n k : Nat) :
    (p.updRelease k f).findRelease n = (p.findRelease n).map fun r => if r.number = k then f r else r := by
  rw [Part.findRelease, Part.updRelease_queue, List.find?_map, Part.findRelease]
  have : (fun r : Release => r.number == n) ∘ (fun r => if r.number = k then f r else r) = fun r => r.number == n := by
    funext r
    simp only [Function.comp_apply]
    split <;> simp [hf]
  rw [this]

theorem Part.findRelease_of_mem (hn : p.liveNumbers.Nodup) (hr : r ∈ p.sched.queue) : p.findRelease r.number = some r := by
  obtain ⟨a, ha⟩ : ∃ a, p.findRelease r.number = some a :=
    Option.isSome_iff_exists.mp (List.find?_isSome.mpr ⟨r, hr, by simp⟩)
  have hnum : a.number = r.number := by simpa using List.find?_some ha
  rw [ha, List.inj_on_of_nodup_map hn (List.mem_of_find?_eq_some ha) hr hnum]

theorem Part.flies.updRelease (h : p.flies r) {f : Release → Release} (hf : ∀ r, (f r).number = r.number) {k : Nat}
    (hk : r.number ≠ k) : (p.updRelease k f).flies r := by
  refine ⟨?_, h.2.1, ?_⟩
  · rw [Part.findRelease_updRelease hf, h.1]
    simp [hk]
  · have : (p.updRelease k f).liveNumbers = p.liveNumbers := by
      simp only [Part.liveNumbers, Part.updRelease_queue, List.map_map]
      refine List.map_congr_left fun r _ => ?_
      simp only [Function.comp_apply]
      split <;> simp [hf]
    rw [this]
    exact h.2.2

theorem Part.flies.selectOne (h : p.flies r) {w : Release} (hw : p.winner = some w) : (p.selectOne w).flies r := by
  obtain ⟨hm, he⟩ := Part.winner_mem hw
  have hne : r.number ≠ w.number := fun e => by
    have hwait : w.isWaiting = true := by simp_all [Part.eligible]
    have : some r = some w := by rw [← h.1, e, Part.findRelease_of_mem h.2.2 hm]
    rw [← Option.some.inj this, h.2.1] at hwait
    cases hwait
  have hc : (p.charged w).flies r := by
    unfold Part.charged
    refine Part.flies.updRelease ?_ ?_ hne
    · exact h.of_queue rfl
    · exact fun _ => rfl
  cases hk : w.target.vehicleKind with
  | some kind =>
    rw [Part.selectOne_vehicle p hk]
    exact hc.of_queue rfl
  | none =>
    rw [Part.selectOne_staffSlot p hk]
    unfold Part.openRelease
    refine Part.flies.updRelease ?_ ?_ hne
    · exact hc.of_queue rfl
    · exact fun _ => rfl

theorem Part.flies.settle (h : p.flies r) : p.settle.flies r := by
  refine Part.settle_induct (P := fun q => q.flies r) ?_ (fun q w hq hw => hq.selectOne hw) ?_ ?_ h
  · exact fun q c hq _ => hq.of_queue (by simp)
  · exact fun q c hq => hq.of_queue (by simp)
  · exact fun q hq => hq.of_queue rfl

end flies

/-! ## A latch that a strike leaves alone -/

section latch

variable {p : Part} {x : SlotId} {l : Latch} (hl : ∀ now, l.struck now = l)
include hl

/-- A latch that no strike changes is changed by no selection. -/
theorem Part.selectOne_latch (h : (p.engine x).latch = some l) (r : Release) :
    ((p.selectOne r).engine x).latch = some l := by
  rcases eq_or_ne r.slot x with rfl | hx
  · cases hk : r.target.vehicleKind with
    | some kind =>
      rw [Part.selectOne_vehicle p hk, Part.engine, Part.placeRead_slot, Part.setCustody, Part.updRecord,
        Part.slot_updSlot_self]
      exact h
    | none =>
      have hq : ((p.charged r).requeueRead r.slot).engine r.slot = p.engine r.slot :=
        Part.engine_of_slot (Part.requeueRead_slot ..)
      rw [Part.selectOne_staffSlot p hk]
      show ((((p.charged r).requeueRead r.slot).strike r.slot).engine r.slot).latch = _
      rw [Part.strike, Part.updLatch, Part.engine_updEngine_self, hq, h, Option.map_some, hl]
  · rw [Part.engine_of_slot (Part.selectOne_slot_of_ne p hx), h]

theorem Part.settle_latch (h : (p.engine x).latch = some l) : (p.settle.engine x).latch = some l := by
  refine Part.settle_induct (P := fun q => (q.engine x).latch = some l) ?_ ?_ ?_ ?_ h
  · exact fun q c hq _ => by rwa [Part.engine_of_slot (Part.runColumn_slot q c x)]
  · exact fun q r hq _ => Part.selectOne_latch hl hq r
  · exact fun q c hq => by rwa [Part.engine_of_slot (Part.startReader_slot q c x)]
  · exact fun q hq => hq

end latch

/-! ## The outcomes of a RELEASING slot -/

section releasing

variable {s : State} {c : ColId} {rd : Read} {bytes : List Byte} {tag unit : Nat} {m : Minute} {k : VehicleKind}
  {f : Bool} {r : Release}

theorem Part.readOutcome_releasing {p : Part} {x : SlotId} (h : p.custody x = .releasing tag unit m k f)
    (hv : p.verifyingOn x = some r) (b : Bool) :
    p.readOutcome x b .unreadable = p.verify x r tag unit m k .unreadable := by
  simp only [Part.readOutcome, h, hv]

theorem Part.readOutcome_releasing_good {p : Part} {x : SlotId} (h : p.custody x = .releasing tag unit m k f)
    (hv : p.verifyingOn x = some r) (b : Bool) (g kind : Nat) : p.readOutcome x b (.good g kind) =
      (p.endCondition .fobUnread (.slot x)).verify x r tag unit m k (.good g kind) := by
  have hc : (p.endCondition .fobUnread (.slot x)).custody x = .releasing tag unit m k f :=
    (Part.custody_of_slot (Part.slot_congr (by simp) x)).trans h
  have hw : (p.endCondition .fobUnread (.slot x)).verifyingOn x = some r :=
    (Part.verifyingOn_congr (by simp) x).trans hv
  simp only [Part.readOutcome, hc, hw]

variable (hh : s.part.halted = false) (hr : (s.part.column c).reader = some rd)
  (hx : s.part.custody ⟨c, rd.pos⟩ = .releasing tag unit m k f) (hv : s.part.verifyingOn ⟨c, rd.pos⟩ = some r)
include hh hr hx hv

theorem exec_releasing_good {g kind : Nat} (h : classify bytes = .good g kind) : exec (.readAttemptEnd c bytes) s = .next
    { s with part := ((s.part.goodRead c rd bytes).verify ⟨c, rd.pos⟩ r tag unit m k
        (.good g kind)).readSettled c rd.pos } := by
  rw [exec_read_good hh hr h, Part.readOutcome_releasing_good ((Part.ending_custody ..).trans hx)
    ((Part.verifyingOn_congr (by simp) _).trans hv)]
  rfl

theorem exec_releasing_unreadable (h : ∀ g kind, classify bytes ≠ .good g kind) (ha : 3 ≤ rd.attempt) :
    exec (.readAttemptEnd c bytes) s = .next
      { s with part := ((s.part.ending c rd bytes).verify ⟨c, rd.pos⟩ r tag unit m k
          .unreadable).readSettled c rd.pos } := by
  rw [exec_read_unreadable hh hr h ha, Part.readOutcome_releasing ((Part.ending_custody ..).trans hx)
    ((Part.verifyingOn_congr (by simp) _).trans hv)]

end releasing

/-! ## The release opens -/

section opening

variable {p : Part} {x : SlotId} {r : Release} {selected : Ms}

theorem Part.openRelease_flies (hm : r ∈ p.sched.queue) (hn : p.liveNumbers.Nodup) (hp : r.phase = .verifying selected) :
    (p.openRelease r).flies
      { r with phase := .opened selected p.uptime (p.uptime + p.late.settings.window * 1000) false } := by
  refine ⟨?_, rfl, ?_⟩
  · have hf : p.findRelease r.number = some r := Part.findRelease_of_mem hn hm
    unfold Part.openRelease
    dsimp only
    rw [Part.findRelease_updRelease (by exact fun _ => rfl)]
    show Option.map _ (p.findRelease r.number) = _
    rw [hf]
    simp [hp]
  · rwa [Part.liveNumbers_of_requests (Part.openRelease_sched ..).1]

theorem Part.openRelease_latch {since : Option Ms} (h : (p.engine r.slot).latch = some (.closed since)) :
    ((p.openRelease r).engine r.slot).latch = some (.striking p.uptime) := by
  show ((p.strike r.slot).engine r.slot).latch = _
  rw [Part.strike, Part.updLatch, Part.engine_updEngine_self, h]
  rfl

end opening

/-! ## The release ends -/

section ending

variable {p : Part} {x : SlotId} {r : Release}

theorem Part.requests_of_liveOn (h : p.liveOn x = [r]) : ∀ q ∈ p.requests, q.slot = x → q.number = r.number := by
  intro q hq hx
  obtain ⟨a, ha, rfl⟩ := List.mem_map.mp hq
  have : a ∈ p.liveOn x := List.mem_filter.mpr ⟨ha, by simpa [Release.bare] using hx⟩
  rw [h, List.mem_singleton] at this
  rw [this]
  rfl

/-- The ending of the one request on a slot leaves none there. -/
theorem Part.leave_noneOn (h : ∀ q ∈ p.requests, q.slot = x → q.number = r.number) (o : ReleaseOutcome) :
    (p.leave r o).noneOn x := by
  intro q hq hx
  rw [Part.leave_requests, List.mem_filter] at hq
  simp [h q hq.1 hx] at hq

/-- The record of a VERIFYING release that ends UNVERIFIED is HELD again; one that ends MISMATCH keeps its record (R10). -/
theorem Part.leave_record {t : Ms} (hp : r.phase = .verifying t) (ht : r.target ≠ .staffSlot) (o : ReleaseOutcome) :
    (p.leave r o).record r.slot = if o.returnsRecord then { p.record r.slot with custody := (p.custody r.slot).returned }
      else p.record r.slot := by
  have hk : r.target.vehicleKind.isSome = true := by cases hr : r.target <;> simp_all [Target.vehicleKind]
  have hdrop : ((p.leaveQueue r o).dropVerify r.slot).record r.slot = p.record r.slot :=
    (Part.record_of_slot (Part.dropVerify_slot ..)).trans rfl
  have hf : r.inFlight = true := by simp [Release.inFlight, hp]
  rw [Part.record_of_slot (Part.slot_congr (Part.leave_columns ..) _), Part.leaveSlot]
  simp only [hp, hk, hf, Bool.true_and]
  split
  · rw [Part.record_setCustody, Part.custody, hdrop]
    rfl
  · exact hdrop

end ending

end Sys2Proof.Machine
end

section
/-! PROOFS. What the verification of a release leaves (R66 to R69, R75). -/

namespace Sys2Proof.Machine

/-! ## The fob recorded: the release opens -/

section opened

variable {p : Part} {c : ColId} {rd : Read} {bytes : List Byte} {tag unit : Nat} {m : Minute} {k : VehicleKind} {r : Release}

/-- The part in which a verified release has opened, settled. -/
def Part.verified (p : Part) (c : ColId) (rd : Read) (bytes : List Byte) (k : Custody) (r : Release) : Part :=
  (((p.goodRead c rd bytes).setCustody ⟨c, rd.pos⟩ k).openRelease r).readSettled c rd.pos

theorem Part.verified_tables (p : Part) (c : ColId) (rd : Read) (bytes : List Byte) (k : Custody) (r : Release) :
    (p.verified c rd bytes k r).fleet = p.fleet ∧ (p.verified c rd bytes k r).book = p.book ∧
    (p.verified c rd bytes k r).chute = p.chute ∧ (p.verified c rd bytes k r).supply = p.supply ∧
    (p.verified c rd bytes k r).liveNumbers = p.liveNumbers := by
  have hreq : (p.verified c rd bytes k r).requests = p.requests := by
    rw [Part.verified, (Part.readSettled_requests ..).1, (Part.openRelease_sched ..).1]
    exact Part.goodRead_requests ..
  refine ⟨?_, ?_, ?_, ?_, Part.liveNumbers_of_requests hreq⟩ <;> simp [Part.verified]

theorem Part.verified_record :
    (p.verified c rd bytes (.releasing tag unit m k false) r).record ⟨c, rd.pos⟩ =
      { p.record ⟨c, rd.pos⟩ with custody := .releasing tag unit m k false } := by
  have hs : (((p.goodRead c rd bytes).setCustody ⟨c, rd.pos⟩ (.releasing tag unit m k false)).openRelease r).steady
      ⟨c, rd.pos⟩ { p.record ⟨c, rd.pos⟩ with custody := .releasing tag unit m k false } := by
    refine ⟨?_, .inl nofun⟩
    rw [Part.record_openRelease, Part.record_setCustody, Part.goodRead_record]
  exact hs.readSettled.1

theorem Part.verified_silent (h : p.alarmsDistinct) (j : Custody) :
    (p.verified c rd bytes j r).silent .fobUnread (.slot ⟨c, rd.pos⟩) := by
  have hs : (((p.goodRead c rd bytes).setCustody ⟨c, rd.pos⟩ j).openRelease r).silent .fobUnread (.slot ⟨c, rd.pos⟩) :=
    (Part.goodRead_silent c rd bytes h).of_alarm (by simp)
  exact hs.readSettled

/-- The release is OPEN with its latch struck and its deadline a take window away (R66, R69). -/
theorem Part.verified_opened {selected : Ms} (hm : r ∈ p.sched.queue)
    (hn : p.liveNumbers.Nodup) (hp : r.phase = .verifying selected) (j : Custody) :
    let t := p.verified c rd bytes j r
    t.findRelease r.number = some
      { r with phase := .opened selected t.uptime (t.uptime + p.late.settings.window * 1000) false } ∧
    ∀ since, r.slot = ⟨c, rd.pos⟩ → (p.engine ⟨c, rd.pos⟩).latch = some (.closed since) →
      (t.engine ⟨c, rd.pos⟩).latch = some (.striking t.uptime) := by
  intro t
  let q := (p.goodRead c rd bytes).setCustody ⟨c, rd.pos⟩ j
  have hu : t.uptime = q.uptime := by simp [t, q, Part.verified]
  have hw : q.late.settings.window = p.late.settings.window := by simp [q]
  have hq : q.sched.queue = p.sched.queue := by simp [q]
  have hl : q.liveNumbers = p.liveNumbers := by rw [Part.liveNumbers, hq, Part.liveNumbers]
  have hf := Part.openRelease_flies (p := q) (hq ▸ hm) (hl ▸ hn) hp
  rw [hu, ← hw]
  refine ⟨((hf.of_queue (q := Part.updColumn _ c _) rfl).settle).1, fun since hslot hlatch => ?_⟩
  have hc : (q.engine r.slot).latch = some (.closed since) := by
    show (((p.goodRead c rd bytes).setCustody ⟨c, rd.pos⟩ j).engine r.slot).latch = _
    rw [hslot, Part.engine, Part.setCustody, Part.updRecord, Part.slot_updSlot_self, Part.goodRead_slot]
    exact hlatch
  have ho := Part.openRelease_latch hc
  rw [hslot] at ho
  refine Part.settle_latch (l := .striking q.uptime) (fun _ => rfl) ?_
  rw [Part.engine_of_slot (Part.slot_updColumn rfl _)]
  exact ho

end opened

/-! ## The read UNREADABLE: the release ends UNVERIFIED -/

section unverified

variable {p : Part} {r : Release} {o : ReleaseOutcome}

/-- The ending of a release deletes its contract where that is PENDING (R75). -/
theorem Part.endRelease_pending {u n : Nat} {d : Contract} (ht : r.target = .contract u n) (ho : o ≠ .taken)
    (hd : p.findContract n = some d) (hs : d.isActive = false) : ∀ e ∈ (p.endRelease r o).book.contracts, e.number ≠ n := by
  let q := ((p.leaveQueue r o).leaveSlot r o).updVehicle u fun v => { v with request := none }
  have hq : q.book = p.book := ((p.leaveQueue r o).leaveSlot_frame r o).2.2.2.1
  have hdel : q.deleteContract n = (q.dropContract n).dropContractLink d.unit := by
    rw [Part.deleteContract, (Part.findContract_congr hq n).trans hd]
    simp [hs]
  have hb : (p.endRelease r o).book = (q.deleteContract n).book := by
    simp [Part.endRelease, Part.leaveLinks, ht, Target.unit, Target.contractNumber, ho, q]
  intro e he
  rw [hb, hdel] at he
  simpa using (List.mem_filter.mp he).2

end unverified

section unverified

variable {p : Part} {c : ColId} {rd : Read} {bytes : List Byte} {tag unit : Nat} {m : Minute} {k : VehicleKind} {r : Release}

/-- The part in which a release has ended UNVERIFIED, settled. -/
def Part.unverified (p : Part) (c : ColId) (rd : Read) (bytes : List Byte) (k : Custody) (r : Release) : Part :=
  ((((p.ending c rd bytes).setCustody ⟨c, rd.pos⟩ k).raise .fobUnread (.slot ⟨c, rd.pos⟩)).endRelease r
    .unverified).readSettled c rd.pos

theorem Part.unverified_tables (p : Part) (c : ColId) (rd : Read) (bytes : List Byte) (k : Custody) (r : Release) :
    let t := p.unverified c rd bytes k r
    t.supply = p.supply ∧ t.chute = p.chute ∧ t.book.ring = p.book.ring ∧ t.statuses = p.statuses ∧
    t.liveNumbers = p.liveNumbers.filter (fun n => n != r.number) ∧
    (r.number, ReleaseOutcome.unverified) ∈ t.sched.ended := by
  intro t
  have hset := Part.readSettled_requests ((((p.ending c rd bytes).setCustody ⟨c, rd.pos⟩ k).raise .fobUnread
    (.slot ⟨c, rd.pos⟩)).endRelease r .unverified) c rd.pos
  refine ⟨by simp [t, Part.unverified], by simp [t, Part.unverified], by simp [t, Part.unverified], ?_, ?_, ?_⟩
  · refine (Part.statuses_congr (Part.readSettled_frame ..).2.1).trans ((Part.endRelease_tables ..).1.trans ?_)
    exact Part.statuses_congr (by simp)
  · refine (Part.liveNumbers_of_requests hset.1).trans ((Part.endRelease_liveNumbers ..).trans ?_)
    simp [Part.liveNumbers]
  · exact hset.2.symm ▸ Part.endRelease_ended ..

/-- The record is HELD again with the audit-failed mark, and FOB_UNREAD stands (R10, R33). -/
theorem Part.unverified_record (hd : p.alarmsDistinct) (hl : p.alarm.list.length ≤ 45)
    (hone : p.liveOn ⟨c, rd.pos⟩ = [r]) {t : Ms} (hp : r.phase = .verifying t) (ht : r.target ≠ .staffSlot)
    (hx : r.slot = ⟨c, rd.pos⟩) :
    let t := p.unverified c rd bytes (.releasing tag unit m k true) r
    t.record ⟨c, rd.pos⟩ = { p.record ⟨c, rd.pos⟩ with custody := .held tag unit m true } ∧
    t.alarmStands .fobUnread (.slot ⟨c, rd.pos⟩) := by
  intro t
  let q := ((p.ending c rd bytes).setCustody ⟨c, rd.pos⟩ (.releasing tag unit m k true)).raise .fobUnread
    (.slot ⟨c, rd.pos⟩)
  have hq : q.requests = p.requests := Part.requests_congr (by simp [q])
  have hrec : q.record ⟨c, rd.pos⟩ = { p.record ⟨c, rd.pos⟩ with custody := .releasing tag unit m k true } := by
    rw [Part.record_of_slot (Part.slot_congr (Part.raise_frame ..).2.1 _), Part.record_setCustody, Part.ending_record]
  have hnone : (q.leave r .unverified).noneOn ⟨c, rd.pos⟩ :=
    Part.leave_noneOn (fun a ha => Part.requests_of_liveOn hone a (hq ▸ ha)) _
  have hleave : (q.leave r .unverified).record ⟨c, rd.pos⟩ =
      { p.record ⟨c, rd.pos⟩ with custody := .held tag unit m true } := by
    have := Part.leave_record (p := q) hp ht .unverified
    rw [hx, hrec] at this
    simpa [ReleaseOutcome.returnsRecord, Part.custody, hrec, Custody.returned] using this
  have hsounds : q.sounds .fobUnread (.slot ⟨c, rd.pos⟩) :=
    Part.sounds_raise (p := (p.ending c rd bytes).setCustody ⟨c, rd.pos⟩ _) (hd.of_list (by simp)) (by simp; omega)
  have hend : (q.endRelease r .unverified).sounds .fobUnread (.slot ⟨c, rd.pos⟩) := hsounds.of_alarm (by simp)
  exact ⟨(Part.steady.readSettled (Part.steady.selection ⟨hleave, .inr hnone.staffOnly⟩)).1, (hend.readSettled nofun).2⟩

theorem Part.unverified_pending {u n : Nat} {d : Contract} (j : Custody) (ht : r.target = .contract u n)
    (hd : p.findContract n = some d) (hs : d.isActive = false) :
    ∀ e ∈ (p.unverified c rd bytes j r).book.contracts, e.number ≠ n := by
  rw [Part.unverified, (Part.readSettled_frame ..).2.2.1]
  exact Part.endRelease_pending ht nofun ((Part.findContract_congr (by simp) n).trans hd) hs

end unverified

/-! ## Another fob: the release ends MISMATCH -/

section mismatch

variable {p : Part} {c : ColId} {rd : Read} {bytes : List Byte} {u : Nat} {r : Release}

/-- Where no live request is for a vehicle, its becoming STRAY ends none. -/
theorem Part.strayVehicle_sched (h : ∀ a ∈ p.requests, a.target.unit ≠ some u) : (p.strayVehicle u).sched = p.sched := by
  let q := (p.setStatus u .stray).raise .forcedRemoval (.vehicle u)
  have hq : q.sched = p.sched := by simp [q]
  have hnone : q.liveOf u = [] := by
    rw [Part.liveOf, hq, List.filter_eq_nil_iff]
    intro a ha
    simpa [Release.bare] using h a.bare (Part.mem_requests_of_queue ha)
  show (q.endAll (q.liveOf u) .vehicleGone).sched = _
  rw [hnone, Part.endAll_nil, hq]

/-- The part in which the release has ended MISMATCH and the vehicle of its record is STRAY (R34, R67). -/
def Part.mismatched (p : Part) (c : ColId) (rd : Read) (bytes : List Byte) (r : Release) (u : Nat) : Part :=
  ((p.goodRead c rd bytes).endRelease r .mismatch).strayVehicle u

variable {t : Ms} (hp : r.phase = .verifying t) (ht : r.target ≠ .staffSlot) (hx : r.slot = ⟨c, rd.pos⟩)
  (hone : p.liveOn ⟨c, rd.pos⟩ = [r])
include hp ht hx hone

/-- The slot of a release that ends MISMATCH keeps its record, and no request is live on it. -/
theorem Part.endRelease_mismatch :
    ((p.goodRead c rd bytes).endRelease r .mismatch).record ⟨c, rd.pos⟩ = p.record ⟨c, rd.pos⟩ ∧
    ((p.goodRead c rd bytes).endRelease r .mismatch).noneOn ⟨c, rd.pos⟩ := by
  let q := p.goodRead c rd bytes
  have hnone : (q.leave r .mismatch).noneOn ⟨c, rd.pos⟩ :=
    Part.leave_noneOn (fun a ha => Part.requests_of_liveOn hone a (Part.goodRead_requests p c rd bytes ▸ ha)) _
  have hleave : (q.leave r .mismatch).record ⟨c, rd.pos⟩ = p.record ⟨c, rd.pos⟩ := by
    have := Part.leave_record (p := q) hp ht .mismatch
    rw [hx, Part.goodRead_record] at this
    simpa [ReleaseOutcome.returnsRecord] using this
  have hidle : ((q.leave r .mismatch).selection).idleSlot ⟨c, rd.pos⟩ _ := Part.idleSlot.selection ⟨rfl, hnone⟩
  exact ⟨(Part.record_of_slot hidle.1).trans hleave, hidle.2⟩

theorem Part.mismatched_strayed {g kind : Nat} (h : classify bytes = .good g kind) (hd : p.alarmsDistinct)
    (hl : p.alarm.list.length ≤ 45) (u : Nat) : p.strayed (p.mismatched c rd bytes r u) ⟨c, rd.pos⟩ u := by
  obtain ⟨hrec, hnone⟩ := Part.endRelease_mismatch (bytes := bytes) hp ht hx hone
  have halarm : ((p.goodRead c rd bytes).endRelease r .mismatch).alarm = (p.goodRead c rd bytes).alarm := by simp
  have hlen : ((p.goodRead c rd bytes).endRelease r .mismatch).alarm.list.length ≤ p.alarm.list.length :=
    halarm ▸ p.goodRead_length c rd bytes
  have hs := Part.strayVehicle_strayed hnone ((Part.goodRead_silent c rd bytes hd).1.of_list (by rw [halarm])) (by omega) u
  refine hs.of_before hrec (by simp) (by simp) (by simp) ?_ (fun k hk => ?_) hlen
  · have hm : ((p.goodRead c rd bytes).endRelease r .mismatch).minute = (p.goodRead c rd bytes).minute := by
      simp [Part.minute]
    exact hm.trans (Part.goodRead_minute c rd h).2
  · rw [Part.known_endRelease hk]
    exact Part.known_congr (by simp) k

/-- The release has ended MISMATCH after the swap. -/
theorem Part.mismatched_ended (hof : ∀ a ∈ p.liveOf u, a = r) (g kind : Nat) :
    let t := ((p.mismatched c rd bytes r u).swapIn ⟨c, rd.pos⟩ g kind).readSettled c rd.pos
    r.number ∉ t.liveNumbers ∧ (r.number, ReleaseOutcome.mismatch) ∈ t.sched.ended := by
  intro t
  let q := (p.goodRead c rd bytes).endRelease r .mismatch
  have hreq : q.requests = p.requests.filter fun a => a.number != r.number := by
    rw [Part.endRelease_requests, Part.goodRead_requests]
  have hfree : ∀ a ∈ q.requests, a.target.unit ≠ some u := by
    intro a ha hu
    rw [hreq, List.mem_filter] at ha
    obtain ⟨b, hb, rfl⟩ := List.mem_map.mp ha.1
    obtain rfl := hof b (List.mem_filter.mpr ⟨hb, by simpa [Release.bare] using hu⟩)
    simp [Release.bare] at ha
  have hsched : (p.mismatched c rd bytes r u).sched = q.sched := Part.strayVehicle_sched hfree
  have hnone : (p.mismatched c rd bytes r u).noneOn ⟨c, rd.pos⟩ :=
    (Part.endRelease_mismatch (bytes := bytes) hp ht hx hone).2.of_requests (Part.requests_congr (congrArg _ hsched))
  have hswap : ((p.mismatched c rd bytes r u).swapIn ⟨c, rd.pos⟩ g kind).sched = q.sched :=
    (Part.swapIn_sched hnone g kind).trans hsched
  obtain ⟨hr, he⟩ := Part.readSettled_requests ((p.mismatched c rd bytes r u).swapIn ⟨c, rd.pos⟩ g kind) c rd.pos
  refine ⟨?_, ?_⟩
  · rw [Part.liveNumbers_of_requests (hr.trans (Part.requests_congr (congrArg _ hswap))), Part.endRelease_liveNumbers]
    simp
  · rw [he, hswap]
    exact Part.endRelease_ended ..

end mismatch

/-- Another fob than the one recorded, at the slot of a VERIFYING release: the release ends, and the swap is handled
(R34, R67). -/
theorem exec_releasing_swap {s : State} {c : ColId} {rd : Read} {bytes : List Byte} {tag unit g kind : Nat} {m : Minute}
    {k : VehicleKind} {f : Bool} {r : Release} {t : Ms} (hh : s.part.halted = false)
    (hr : (s.part.column c).reader = some rd) (hc : s.part.custody ⟨c, rd.pos⟩ = .releasing tag unit m k f)
    (hv : s.part.verifyingOn ⟨c, rd.pos⟩ = some r) (hp : r.phase = .verifying t) (ht : r.target ≠ .staffSlot)
    (hx : r.slot = ⟨c, rd.pos⟩) (hone : s.part.liveOn ⟨c, rd.pos⟩ = [r]) (h : classify bytes = .good g kind)
    (hg : g ≠ tag ∨ kind ≠ 1) : exec (.readAttemptEnd c bytes) s = .next
      { s with part := ((s.part.mismatched c rd bytes r unit).swapIn ⟨c, rd.pos⟩ g kind).readSettled c rd.pos } := by
  have hne : ¬(g = tag ∧ kind = 1) := fun e => hg.elim (fun hg => hg e.1) fun hk => hk e.2
  have hrec := (Part.endRelease_mismatch (bytes := bytes) hp ht hx hone).1
  have hcust : ((s.part.goodRead c rd bytes).endRelease r .mismatch).custody ⟨c, rd.pos⟩ = .releasing tag unit m k f :=
    (congrArg SlotRecord.custody hrec).trans hc
  rw [exec_releasing_good hh hr hc hv h, Part.verify, if_neg hne, Part.swap_of_binds ⟨tag, m, f, .inr ⟨k, hcust⟩⟩]
  rfl

end Sys2Proof.Machine
end

section
/-! PROOFS. The reads of HELD, RELEASING and FOREIGN slots, put together (R33 to R36, R66 to R69). -/

namespace Sys2Proof.Machine

/-! ## What becomes of the slot -/

section

variable (s : State) (c : ColId) (rd : Read) (bytes : List Byte) (unit : Nat)

/-- The read leaves the record with a custody, and the supply, the chute and the ring as they were. -/
def State.readLeaves (k : Custody) (t : State) : Prop :=
  exec (.readAttemptEnd c bytes) s = .next t ∧ t.pending = s.pending ∧
  t.part.record ⟨c, rd.pos⟩ = { s.part.record ⟨c, rd.pos⟩ with custody := k } ∧ t.part.supply = s.part.supply ∧
  t.part.chute = s.part.chute ∧ t.part.book.ring = s.part.book.ring

/-- The alarms of a swap stand, and the vehicle recorded is STRAY (R34). -/
def State.afterSwap (t : State) : Prop :=
  t.part.alarmStands .fobSwap (.slot ⟨c, rd.pos⟩) ∧ t.part.alarmStands .forcedRemoval (.vehicle unit) ∧
  ∀ w ∈ t.part.fleet, w.unit = unit → w.status = .stray

/-- The vehicle of the fob is bound to the slot. -/
def State.readBinds (g other : Nat) (t : State) : Prop :=
  exec (.readAttemptEnd c bytes) s = .next t ∧ t.pending = s.pending ∧ t.part.supply = s.part.supply ∧
  t.part.record ⟨c, rd.pos⟩ = { s.part.record ⟨c, rd.pos⟩ with custody := .held g other s.part.minute false } ∧
  ∀ w ∈ t.part.fleet, w.unit = other → w.status = .inSlot ⟨c, rd.pos⟩

end

section

variable {s : State} {c : ColId} {rd : Read} {bytes : List Byte} {unit : Nat} {q : Part}
  (h : s.part.strayed q ⟨c, rd.pos⟩ unit) (hl : s.part.alarm.list.length ≤ 45)
include h hl

theorem Part.strayed.leaves_stranger {g kind : Nat} (hk : kind ≠ 1 ∨ s.part.findTag g = none)
    (he : exec (.readAttemptEnd c bytes) s = .next
      { s with part := (q.swapIn ⟨c, rd.pos⟩ g kind).readSettled c rd.pos }) :
    ∃ t, t.part = (q.swapIn ⟨c, rd.pos⟩ g kind).readSettled c rd.pos ∧
    s.readLeaves c rd bytes (.foreign g (if kind = 1 then .unknown else .wrongKind) s.part.minute) t ∧
    State.afterSwap c rd unit t := by
  obtain ⟨hsw, hch, hring⟩ := h.swap_stranger hl c rd.pos hk
  exact ⟨_, rfl, ⟨he, rfl, hsw.record, hsw.supply, hch, hring⟩, hsw.swap, hsw.removed, hsw.stray⟩

theorem Part.strayed.leaves_duplicate {g : Nat} {v : Vehicle} (hv : s.part.findTag g = some v) (hu : v.unit ≠ unit)
    (hy : ∃ y, v.status = .inSlot y) (he : exec (.readAttemptEnd c bytes) s = .next
      { s with part := (q.swapIn ⟨c, rd.pos⟩ g 1).readSettled c rd.pos }) :
    ∃ t, t.part = (q.swapIn ⟨c, rd.pos⟩ g 1).readSettled c rd.pos ∧
    s.readLeaves c rd bytes (.foreign g .duplicate s.part.minute) t ∧ State.afterSwap c rd unit t ∧
    t.part.alarmStands .fobDuplicate (.slot ⟨c, rd.pos⟩) := by
  obtain ⟨y, hy⟩ := hy
  obtain ⟨hsw, hch, hring, hdup⟩ := h.swap_duplicate hl c rd.pos hv hu hy
  exact ⟨_, rfl, ⟨he, rfl, hsw.record, hsw.supply, hch, hring⟩, ⟨hsw.swap, hsw.removed, hsw.stray⟩, hdup⟩

theorem Part.strayed.leaves_bound {g : Nat} {v : Vehicle} (hv : s.part.findTag g = some v) (hu : v.unit ≠ unit)
    (hy : ∀ y, v.status ≠ .inSlot y) (he : exec (.readAttemptEnd c bytes) s = .next
      { s with part := (q.swapIn ⟨c, rd.pos⟩ g 1).readSettled c rd.pos }) :
    ∃ t, t.part = (q.swapIn ⟨c, rd.pos⟩ g 1).readSettled c rd.pos ∧ s.readBinds c rd bytes g v.unit t ∧
    State.afterSwap c rd unit t := by
  obtain ⟨hsw, hin⟩ := h.swap_bound hl c rd.pos hv hu hy
  exact ⟨_, rfl, ⟨he, rfl, hsw.supply, hsw.record, hin⟩, hsw.swap, hsw.removed, hsw.stray⟩

end

section held

variable {s : State} {c : ColId} {rd : Read} {bytes : List Byte} {tag unit : Nat} {m : Minute} {f : Bool}
  (hh : s.part.halted = false) (hd : s.part.alarmsDistinct) (hl : s.part.alarm.list.length ≤ 45)
  (hread : (s.part.column c).reader = some rd) (hx : s.part.custody ⟨c, rd.pos⟩ = .held tag unit m f)
  (hnone : s.part.noneOn ⟨c, rd.pos⟩)
include hh hd hl hread hx hnone

omit hl in
/-- The fob recorded clears the audit-failed mark (R33). -/
theorem held_confirmed (hc : classify bytes = .good tag 1) : ∃ t, s.readLeaves c rd bytes (.held tag unit m false) t ∧
    t.part.alarmOver .fobUnread (.slot ⟨c, rd.pos⟩) ∧ t.part.fleet = s.part.fleet ∧ t.part.book = s.part.book := by
  let q := (s.part.goodRead c rd bytes).setCustody ⟨c, rd.pos⟩ (.held tag unit m false)
  have hsteady : q.steady ⟨c, rd.pos⟩ { s.part.record ⟨c, rd.pos⟩ with custody := .held tag unit m false } := by
    refine ⟨?_, .inr (hnone.of_requests (Part.goodRead_requests s.part c rd bytes)).staffOnly⟩
    rw [Part.record_setCustody, Part.goodRead_record]
  have hs : q.silent .fobUnread (.slot ⟨c, rd.pos⟩) := (s.part.goodRead_silent c rd bytes hd).of_alarm rfl
  refine ⟨_, ⟨exec_held_good hh hread hx hc, rfl, hsteady.readSettled.1, ?_, ?_, ?_⟩, hs.readSettled.2, ?_, ?_⟩ <;> simp

/-- An end UNREADABLE sets the mark and raises FOB_UNREAD (R33). -/
theorem held_unreadable (hno : ∀ g kind, classify bytes ≠ .good g kind) (h3 : 3 ≤ rd.attempt) :
    ∃ t, s.readLeaves c rd bytes (.held tag unit m true) t ∧ t.part.alarmStands .fobUnread (.slot ⟨c, rd.pos⟩) ∧
    t.part.fleet = s.part.fleet ∧ t.part.book = s.part.book := by
  have hraise := Part.marked_raise (p := s.part.ending c rd bytes) (hd.of_list (by simp)) (by simp; omega)
    (x := ⟨c, rd.pos⟩) (k := .held tag unit m true)
    (.inr (hnone.of_requests (Part.ending_requests s.part c rd bytes)).staffOnly) .fobUnread
  have hend := (hraise.readSettled nofun c rd.pos).of_tables (p' := s.part) (Part.ending_record ..) (by simp) (by simp)
    (by simp) (by simp)
  exact ⟨_, ⟨exec_held_unreadable hh hread hx hno h3, rfl, hend.steady.1, hend.supply, hend.chute,
    congrArg _ hend.book⟩, hend.sounds.2, hend.fleet, hend.book⟩

/-- Another fob is a swap (R34). -/
theorem held_swaps :
    (∀ g kind, classify bytes = .good g kind → (g ≠ tag ∨ kind ≠ 1) → kind ≠ 1 ∨ s.part.findTag g = none → ∃ t,
      s.readLeaves c rd bytes (.foreign g (if kind = 1 then .unknown else .wrongKind) s.part.minute) t ∧
      State.afterSwap c rd unit t) ∧
    (∀ g v, classify bytes = .good g 1 → g ≠ tag → s.part.findTag g = some v → v.tag = g → v.unit ≠ unit →
      ((∃ y, v.status = .inSlot y) → ∃ t, s.readLeaves c rd bytes (.foreign g .duplicate s.part.minute) t ∧
        State.afterSwap c rd unit t ∧ t.part.alarmStands .fobDuplicate (.slot ⟨c, rd.pos⟩)) ∧
      ((∀ y, v.status ≠ .inSlot y) → ∃ t, s.readBinds c rd bytes g v.unit t ∧ State.afterSwap c rd unit t)) := by
  refine ⟨fun g kind hc hg hk => ?_, fun g v hc hg hv _ hu => ?_⟩
  · have hstray := Part.goodRead_strayed hc hd hl hnone unit
    obtain ⟨t, -, ht⟩ := hstray.leaves_stranger hl hk (exec_held_swap hh hread hx hc hg)
    exact ⟨t, ht⟩
  · have hstray := Part.goodRead_strayed hc hd hl hnone unit
    have hexec := exec_held_swap hh hread hx hc (.inl hg)
    refine ⟨fun hy => ?_, fun hy => ?_⟩
    · obtain ⟨t, -, ht⟩ := hstray.leaves_duplicate hl hv hu hy hexec
      exact ⟨t, ht⟩
    · obtain ⟨t, -, ht⟩ := hstray.leaves_bound hl hv hu hy hexec
      exact ⟨t, ht⟩

end held

section releasing

variable {s : State} {c : ColId} {rd : Read} {bytes : List Byte} {tag unit : Nat} {m : Minute} {k : VehicleKind}
  {f : Bool} {r : Release} (hh : s.part.halted = false) (hd : s.part.alarmsDistinct)
  (hl : s.part.alarm.list.length ≤ 45) (hread : (s.part.column c).reader = some rd)
  (hx : s.part.custody ⟨c, rd.pos⟩ = .releasing tag unit m k f) (hv : s.part.verifyingOn ⟨c, rd.pos⟩ = some r)
include hh hd hread hx hv

/-- The fob recorded opens the release (R66, R69). -/
theorem releasing_verified (hnodup : s.part.liveNumbers.Nodup) (selected : Ms) (hp : r.phase = .verifying selected)
    (hc : classify bytes = .good tag 1) : ∃ t, s.readLeaves c rd bytes (.releasing tag unit m k false) t ∧
    t.part.alarmOver .fobUnread (.slot ⟨c, rd.pos⟩) ∧
    (∀ deadline, deadline = t.part.uptime + s.part.late.settings.window * 1000 →
      t.part.findRelease r.number = some { r with phase := .opened selected t.part.uptime deadline false }) ∧
    (∀ since, (s.part.engine ⟨c, rd.pos⟩).latch = some (.closed since) →
      (t.part.engine ⟨c, rd.pos⟩).latch = some (.striking t.part.uptime)) ∧
    t.part.liveNumbers = s.part.liveNumbers ∧ t.part.fleet = s.part.fleet ∧ t.part.book = s.part.book := by
  obtain ⟨hmem, hslot, -⟩ := Part.verifyingOn_some hv
  have hexec : exec (.readAttemptEnd c bytes) s = .next
      { s with part := s.part.verified c rd bytes (.releasing tag unit m k false) r } := by
    rw [exec_releasing_good hh hread hx hv hc, Part.verify, if_pos ⟨rfl, rfl⟩]
    rfl
  obtain ⟨hfleet, hbook, hch, hsup, hlive⟩ := s.part.verified_tables c rd bytes (.releasing tag unit m k false) r
  obtain ⟨hfind, hlatch⟩ := Part.verified_opened (c := c) (rd := rd) (bytes := bytes) hmem hnodup hp
    (.releasing tag unit m k false)
  exact ⟨_, ⟨hexec, rfl, Part.verified_record, hsup, hch, congrArg _ hbook⟩, (Part.verified_silent hd _).2,
    fun _ e => e ▸ hfind, fun since => hlatch since hslot, hlive, hfleet, hbook⟩

variable (hverify : ∀ q ∈ s.part.sched.queue, q.isVerifying = true → q.target ≠ .staffSlot)
  (hone : s.part.liveOn ⟨c, rd.pos⟩ = [r])
include hl hverify hone

/-- An end UNREADABLE ends the release UNVERIFIED (R68, R75). -/
theorem releasing_unverified (hno : ∀ g kind, classify bytes ≠ .good g kind) (h3 : 3 ≤ rd.attempt) :
    ∃ t, s.readLeaves c rd bytes (.held tag unit m true) t ∧ t.part.alarmStands .fobUnread (.slot ⟨c, rd.pos⟩) ∧
    t.part.liveNumbers = s.part.liveNumbers.filter (fun n => n != r.number) ∧
    (r.number, ReleaseOutcome.unverified) ∈ t.part.sched.ended ∧
    (∀ u n d q, r.target = .contract u n → s.part.findContract n = some d → d.state = .pending q →
      ∀ e ∈ t.part.book.contracts, e.number ≠ n) ∧
    t.part.fleet.map (·.status) = s.part.fleet.map (·.status) := by
  obtain ⟨hmem, hslot, t, hphase⟩ := Part.verifyingOn_some hv
  have ht : r.target ≠ .staffSlot := hverify r hmem (by simp [Release.isVerifying, hphase])
  have hexec : exec (.readAttemptEnd c bytes) s = .next
      { s with part := s.part.unverified c rd bytes (.releasing tag unit m k true) r } :=
    exec_releasing_unreadable hh hread hx hv hno h3
  obtain ⟨hsup, hch, hring, hstatus, hlive, hended⟩ :=
    s.part.unverified_tables c rd bytes (.releasing tag unit m k true) r
  obtain ⟨hrec, hstands⟩ := Part.unverified_record (bytes := bytes) hd hl hone hphase ht hslot
  refine ⟨_, ⟨hexec, rfl, hrec, hsup, hch, hring⟩, hstands, hlive, hended, fun u n d q htarget hfind hs => ?_,
    Part.map_status_of_statuses hstatus⟩
  exact Part.unverified_pending _ htarget hfind (by simp [Contract.isActive, hs])

/-- Another fob ends the release MISMATCH and is a swap (R34, R67). -/
theorem releasing_mismatch (hof : ∀ q ∈ s.part.liveOf unit, q = r) :
    (∀ g kind, classify bytes = .good g kind → (g ≠ tag ∨ kind ≠ 1) → kind ≠ 1 ∨ s.part.findTag g = none → ∃ t,
      s.readLeaves c rd bytes (.foreign g (if kind = 1 then .unknown else .wrongKind) s.part.minute) t ∧
      State.afterSwap c rd unit t ∧
      r.number ∉ t.part.liveNumbers ∧ (r.number, ReleaseOutcome.mismatch) ∈ t.part.sched.ended) ∧
    (∀ g v, classify bytes = .good g 1 → g ≠ tag → s.part.findTag g = some v → v.tag = g → v.unit ≠ unit →
      ((∃ y, v.status = .inSlot y) → ∃ t, s.readLeaves c rd bytes (.foreign g .duplicate s.part.minute) t ∧
        State.afterSwap c rd unit t ∧
        (r.number ∉ t.part.liveNumbers ∧ (r.number, ReleaseOutcome.mismatch) ∈ t.part.sched.ended) ∧
        t.part.alarmStands .fobDuplicate (.slot ⟨c, rd.pos⟩)) ∧
      ((∀ y, v.status ≠ .inSlot y) → ∃ t, s.readBinds c rd bytes g v.unit t ∧ State.afterSwap c rd unit t ∧
        r.number ∉ t.part.liveNumbers ∧ (r.number, ReleaseOutcome.mismatch) ∈ t.part.sched.ended)) := by
  obtain ⟨hmem, hslot, t, hphase⟩ := Part.verifyingOn_some hv
  have ht : r.target ≠ .staffSlot := hverify r hmem (by simp [Release.isVerifying, hphase])
  have hended := Part.mismatched_ended (bytes := bytes) hphase ht hslot hone hof
  refine ⟨fun g kind hc hg hk => ?_, fun g v hc hg hfind _ hu => ?_⟩
  · have hexec := exec_releasing_swap hh hread hx hv hphase ht hslot hone hc hg
    have hstray := Part.mismatched_strayed hphase ht hslot hone hc hd hl unit
    obtain ⟨t, ht, hleaves, hswap⟩ := hstray.leaves_stranger hl hk hexec
    exact ⟨t, hleaves, hswap, ht ▸ hended g kind⟩
  · have hexec := exec_releasing_swap hh hread hx hv hphase ht hslot hone hc (.inl hg)
    have hstray := Part.mismatched_strayed hphase ht hslot hone hc hd hl unit
    refine ⟨fun hy => ?_, fun hy => ?_⟩
    · obtain ⟨t, ht, hleaves, hswap, hdup⟩ := hstray.leaves_duplicate hl hfind hu hy hexec
      exact ⟨t, hleaves, hswap, ht ▸ hended g 1, hdup⟩
    · obtain ⟨t, ht, hbinds, hswap⟩ := hstray.leaves_bound hl hfind hu hy hexec
      exact ⟨t, hbinds, hswap, ht ▸ hended g 1⟩

end releasing

section foreign

/-- The rows of R30 at a FOREIGN slot, the conditions of its record over (R35). -/
def State.identifies (s : State) (c : ColId) (rd : Read) (bytes : List Byte) (g kind : Nat) (arrived : Minute)
    (t : State) : Prop :=
  (kind ≠ 1 → s.readLeaves c rd bytes (.foreign g .wrongKind arrived) t ∧
    t.part.alarmStands .fobUnknown (.slot ⟨c, rd.pos⟩) ∧ t.part.alarmOver .fobDuplicate (.slot ⟨c, rd.pos⟩) ∧
    t.part.fleet = s.part.fleet ∧ t.part.book = s.part.book) ∧
  (kind = 1 → s.part.findTag g = none → s.readLeaves c rd bytes (.foreign g .unknown arrived) t ∧
    t.part.alarmStands .fobUnknown (.slot ⟨c, rd.pos⟩) ∧ t.part.alarmOver .fobDuplicate (.slot ⟨c, rd.pos⟩) ∧
    t.part.fleet = s.part.fleet ∧ t.part.book = s.part.book) ∧
  (∀ v y, kind = 1 → s.part.findTag g = some v → v.status = .inSlot y →
    s.readLeaves c rd bytes (.foreign g .duplicate arrived) t ∧
    t.part.alarmStands .fobDuplicate (.slot ⟨c, rd.pos⟩) ∧ t.part.alarmOver .fobUnknown (.slot ⟨c, rd.pos⟩) ∧
    t.part.fleet = s.part.fleet ∧ t.part.book = s.part.book) ∧
  (∀ v, kind = 1 → s.part.findTag g = some v → (∀ y, v.status ≠ .inSlot y) →
    exec (.readAttemptEnd c bytes) s = .next t ∧ t.pending = s.pending ∧ t.part.supply = s.part.supply ∧
    t.part.record ⟨c, rd.pos⟩ = { s.part.record ⟨c, rd.pos⟩ with custody := .held g v.unit arrived false } ∧
    (t.part.alarmOver .fobUnknown (.slot ⟨c, rd.pos⟩) ∧ t.part.alarmOver .fobDuplicate (.slot ⟨c, rd.pos⟩)) ∧
    t.part.liveOn ⟨c, rd.pos⟩ = [] ∧ ∀ w ∈ t.part.fleet, w.unit = v.unit → w.status = .inSlot ⟨c, rd.pos⟩)

variable {s : State} {c : ColId} {rd : Read} {bytes : List Byte}

theorem Part.reads.leaves {t : Part} {k : Custody} (h : s.part.reads t ⟨c, rd.pos⟩ k)
    (he : exec (.readAttemptEnd c bytes) s = .next { s with part := t }) :
    s.readLeaves c rd bytes k { s with part := t } :=
  ⟨he, rfl, h.record, h.supply, h.chute, congrArg _ h.book⟩

theorem Part.foreignOver.identifies {b q : Part} {g kind : Nat} {arrived : Minute}
    (hb : s.part.foreignOver b ⟨c, rd.pos⟩) (hi : b.identified q ⟨c, rd.pos⟩ g kind arrived)
    (he : exec (.readAttemptEnd c bytes) s = .next { s with part := q }) :
    ∃ t, t.part = q ∧ s.identifies c rd bytes g kind arrived t := by
  refine ⟨{ s with part := q }, rfl, fun hk => ?_, fun hk hv => ?_, fun v y hk hv hy => ?_, fun v hk hv hy => ?_⟩
  · obtain ⟨hr, hstands, hover⟩ := hb.stranger hi (.inl hk)
    rw [if_neg hk] at hr
    exact ⟨hr.leaves he, hstands, hover, hr.fleet, hr.book⟩
  · obtain ⟨hr, hstands, hover⟩ := hb.stranger hi (.inr hv)
    rw [if_pos hk] at hr
    exact ⟨hr.leaves he, hstands, hover, hr.fleet, hr.book⟩
  · obtain ⟨hr, hstands, hover⟩ := hb.inOther hi hk hv hy
    exact ⟨hr.leaves he, hstands, hover, hr.fleet, hr.book⟩
  · exact ⟨he, rfl, hb.bound hi hk hv hy⟩

variable {tag : Nat} {m : Minute} {reason : ForeignReason} (hh : s.part.halted = false) (hd : s.part.alarmsDistinct)
  (hl : s.part.alarm.list.length ≤ 45) (hread : (s.part.column c).reader = some rd)
  (hx : s.part.custody ⟨c, rd.pos⟩ = .foreign tag reason m)
include hh hd hl hread hx

/-- The tag is identified again with its arrival minute (R35). -/
theorem foreign_again (hstaff : s.part.staffOnly ⟨c, rd.pos⟩) {kind : Nat} (hc : classify bytes = .good tag kind)
    (ha : rd.servedRecheck = true ∨ ((reason = .unknown ∨ reason = .retired) ∧ kind = 1 ∧ s.part.findTag tag ≠ none)) :
    ∃ t, s.identifies c rd bytes tag kind m t ∧ t.part.alarmOver .fobUnread (.slot ⟨c, rd.pos⟩) := by
  let g := s.part.goodRead c rd bytes
  have hu : g.unforeign ⟨c, rd.pos⟩ = g.endForeignConditions ⟨c, rd.pos⟩ :=
    Part.unforeign_of_foreign ((Part.goodRead_custody ..).trans hx)
  have hs : (g.unforeign ⟨c, rd.pos⟩).silent .fobUnread (.slot ⟨c, rd.pos⟩) :=
    hu ▸ (s.part.goodRead_silent c rd bytes hd).endForeignConditions _
  have hlen : (g.unforeign ⟨c, rd.pos⟩).alarm.list.length < 48 := by
    have := (g.endForeignConditions_length ⟨c, rd.pos⟩).trans (s.part.goodRead_length c rd bytes)
    rw [hu]
    omega
  have hi := Part.identify_identified hs.1 hlen
    (hstaff.of_requests fun r hr => Part.goodRead_requests s.part c rd bytes ▸ hr) tag kind m
  have hb : s.part.foreignOver (g.unforeign ⟨c, rd.pos⟩) ⟨c, rd.pos⟩ := hu ▸ Part.goodRead_foreignOver hd
  obtain ⟨t, ht, hid⟩ := hb.identifies (hi.readSettled c rd.pos) (exec_foreign_again hh hread hx hc ha)
  exact ⟨t, hid, ht ▸ (hs.identify tag kind m).readSettled.2⟩

/-- Another tag is a swap, handled as a new arrival (R34, R35). -/
theorem foreign_swap (hstaff : s.part.staffOnly ⟨c, rd.pos⟩) {g kind : Nat} (hc : classify bytes = .good g kind)
    (hg : g ≠ tag) : ∃ t, s.identifies c rd bytes g kind s.part.minute t ∧
      t.part.alarmStands .fobSwap (.slot ⟨c, rd.pos⟩) := by
  let b := (s.part.goodRead c rd bytes).endForeignConditions ⟨c, rd.pos⟩
  have hb : s.part.foreignOver b ⟨c, rd.pos⟩ := Part.goodRead_foreignOver hd
  have hlen : b.alarm.list.length ≤ 45 :=
    (Part.endForeignConditions_length ..).trans ((s.part.goodRead_length c rd bytes).trans hl)
  have hreq : b.requests = s.part.requests :=
    (Part.requests_congr (by simp [b])).trans (Part.goodRead_requests s.part c rd bytes)
  have hminute : b.minute = s.part.minute :=
    (by simp [b, Part.minute] : b.minute = (s.part.goodRead c rd bytes).minute).trans (Part.goodRead_minute c rd hc).2
  obtain ⟨hi, hs⟩ := Part.swapIn_identified hb.unknown.1 (by omega)
    (hstaff.of_requests fun r hr => hreq ▸ hr) g kind
  rw [hminute] at hi
  obtain ⟨t, ht, hid⟩ :=
    hb.unreadNow.identifies (hi.readSettled c rd.pos) (exec_foreign_swap hh hread hx hc hg)
  exact ⟨t, hid, ht ▸ (hs.readSettled nofun).2⟩

omit hl hread hh hd in
/-- A read of a FOREIGN slot whose outcome is not handled changes no alarm but FOB_UNREAD (R35). -/
theorem foreign_unchanged {q : Part} (hq : q.columns = (s.part.ending c rd bytes).columns)
    (hf : q.fleet = s.part.fleet) (hb : q.book = s.part.book) (hc : q.chute = s.part.chute)
    (hs : q.supply = s.part.supply) (hdq : q.alarmsDistinct)
    (hm : ∀ a, a.kind ≠ .fobUnread → (a ∈ q.alarm.list ↔ a ∈ s.part.alarm.list))
    (he : exec (.readAttemptEnd c bytes) s = .next { s with part := q.readSettled c rd.pos }) :
    ∃ t, t.part = q.readSettled c rd.pos ∧ s.readLeaves c rd bytes (.foreign tag reason m) t ∧
    t.part.fleet = s.part.fleet ∧ t.part.book = s.part.book ∧
    ∀ a, a.kind ≠ .fobUnread → a.kind ≠ .columnLost → (a ∈ t.part.alarm.list ↔ a ∈ s.part.alarm.list) := by
  have hrec : q.record ⟨c, rd.pos⟩ = { s.part.record ⟨c, rd.pos⟩ with custody := .foreign tag reason m } := by
    rw [Part.record_of_slot (Part.slot_congr hq _), Part.ending_record, ← hx]
    rfl
  have hsteady : q.steady ⟨c, rd.pos⟩ { s.part.record ⟨c, rd.pos⟩ with custody := .foreign tag reason m } :=
    ⟨hrec, .inl nofun⟩
  have hreads : s.part.reads (q.readSettled c rd.pos) ⟨c, rd.pos⟩ (.foreign tag reason m) :=
    ⟨hsteady.readSettled.1, by simpa using hs, by simpa using hc, by simpa using hf, by simpa using hb⟩
  refine ⟨{ s with part := q.readSettled c rd.pos }, rfl, hreads.leaves he, hreads.fleet, hreads.book, fun a hk hlost => ?_⟩
  exact (Part.settle_mem (p := q.updColumn c _) (hdq.of_list rfl) hlost).trans (hm a hk)

omit hl in
/-- A read of the tag recorded that served AUDIT alone (R35). -/
theorem foreign_audited {kind : Nat} (hc : classify bytes = .good tag kind) (hs : rd.servedRecheck = false)
    (ha : ¬((reason = .unknown ∨ reason = .retired) ∧ kind = 1 ∧ s.part.findTag tag ≠ none)) :
    ∃ t, (s.readLeaves c rd bytes (.foreign tag reason m) t ∧ t.part.fleet = s.part.fleet ∧ t.part.book = s.part.book ∧
      ∀ a, a.kind ≠ .fobUnread → a.kind ≠ .columnLost → (a ∈ t.part.alarm.list ↔ a ∈ s.part.alarm.list)) ∧
    t.part.alarmOver .fobUnread (.slot ⟨c, rd.pos⟩) := by
  have hgood := s.part.goodRead_silent c rd bytes hd
  have hmem : ∀ a : Alarm, a.kind ≠ .fobUnread →
      (a ∈ (s.part.goodRead c rd bytes).alarm.list ↔ a ∈ s.part.alarm.list) := fun a hk =>
    (Part.endCondition_mem (p := s.part.ending c rd bytes) (hd.of_list (by simp)) _ _ hk).trans (by simp)
  obtain ⟨t, ht, hun⟩ := foreign_unchanged hx (Part.endCondition_frame ..).2.1 (by simp) (by simp) (by simp) (by simp)
    hgood.1 hmem (exec_foreign_audit hh hread hx hc hs ha)
  exact ⟨t, hun, ht ▸ hgood.readSettled.2⟩

omit hl in
/-- A read UNREADABLE that served AUDIT alone (R35). -/
theorem foreign_audit_unreadable (hno : ∀ g kind, classify bytes ≠ .good g kind) (h3 : 3 ≤ rd.attempt)
    (hs : rd.servedRecheck = false) :
    ∃ t, s.readLeaves c rd bytes (.foreign tag reason m) t ∧ t.part.fleet = s.part.fleet ∧ t.part.book = s.part.book ∧
    ∀ a, a.kind ≠ .fobUnread → a.kind ≠ .columnLost → (a ∈ t.part.alarm.list ↔ a ∈ s.part.alarm.list) := by
  obtain ⟨t, -, hun⟩ := foreign_unchanged hx rfl (by simp) (by simp) (by simp) (by simp)
    (hd.of_list (by simp)) (by simp) (exec_foreign_audit_unreadable hh hread hx hno h3 hs)
  exact ⟨t, hun⟩

/-- A read UNREADABLE that served RECHECK leaves the slot UNREAD, the conditions of its record over (R30, R35). -/
theorem foreign_recheck_unreadable (hno : ∀ g kind, classify bytes ≠ .good g kind) (h3 : 3 ≤ rd.attempt)
    (hs : rd.servedRecheck = true) : ∃ t, s.readLeaves c rd bytes (.unread m) t ∧
    (t.part.alarmOver .fobUnknown (.slot ⟨c, rd.pos⟩) ∧ t.part.alarmOver .fobDuplicate (.slot ⟨c, rd.pos⟩)) ∧
    t.part.alarmStands .fobUnread (.slot ⟨c, rd.pos⟩) ∧ t.part.fleet = s.part.fleet ∧ t.part.book = s.part.book := by
  let b := (s.part.ending c rd bytes).endForeignConditions ⟨c, rd.pos⟩
  obtain ⟨hunk, hdup⟩ := Part.endForeignConditions_silent (p := s.part.ending c rd bytes) (x := ⟨c, rd.pos⟩)
    (hd.of_list (by simp))
  have hlen : b.alarm.list.length ≤ 45 :=
    ((s.part.ending c rd bytes).endForeignConditions_length ⟨c, rd.pos⟩).trans (by simpa using hl)
  have hover : ∀ k, k ≠ .fobUnread → b.silent k (.slot ⟨c, rd.pos⟩) →
      (((b.setCustody ⟨c, rd.pos⟩ (.unread m)).raise .fobUnread (.slot ⟨c, rd.pos⟩)).readSettled c rd.pos).alarmOver k
        (.slot ⟨c, rd.pos⟩) := fun k hk h =>
    (Part.silent.raise (p := b.setCustody ⟨c, rd.pos⟩ (.unread m)) (h.of_alarm rfl) (.inl hk.symm)).readSettled.2
  have hraise := Part.marked_raise hunk.1 (by omega : b.alarm.list.length < 48) (x := ⟨c, rd.pos⟩) (k := .unread m)
    (.inl nofun) .fobUnread
  have hend := (hraise.readSettled nofun c rd.pos).of_tables (p' := s.part)
    ((Part.record_of_slot (Part.slot_congr (Part.endForeignConditions_frame ..).2.1 _)).trans (Part.ending_record ..))
    (by simp) (by simp) (by simp) (by simp)
  have hexec := exec_foreign_recheck_unreadable hh hread hx hno h3 hs
  refine ⟨{ s with part := _ }, ⟨hexec, rfl, hend.steady.1, hend.supply, hend.chute, congrArg _ hend.book⟩, ⟨?_, ?_⟩,
    hend.sounds.2, hend.fleet, hend.book⟩
  · exact hover _ nofun hunk
  · exact hover _ nofun hdup

end foreign

/-- Settles O45, by the state of the record and the outcome of the read: a HELD slot (R33, R34), a RELEASING slot whose
release is VERIFYING (R66 to R69), a FOREIGN slot (R35). -/
theorem heldAndReleasingReads : Obligations.HeldAndReleasingReads := by
  intro c rd bytes tag unit m f s hh hd hl hread hverify x becomes foreign swapped bound
  refine ⟨fun hx hlive => ?_, fun k r hx hv hnodup => ?_, fun reason hx hstaff hnodup => ?_⟩
  · have hnone := (Part.noneOn_iff ..).mpr hlive
    exact ⟨held_confirmed hh hd hread hx hnone, held_unreadable hh hd hl hread hx hnone,
      held_swaps hh hd hl hread hx hnone⟩
  · refine ⟨releasing_verified hh hd hread hx hv hnodup,
      fun hone => releasing_unverified hh hd hl hread hx hv hverify hone, fun g kind hone hof => ?_,
      fun g v hone hof => ?_⟩
    · exact (releasing_mismatch hh hd hl hread hx hv hverify hone hof).1 g kind
    · exact (releasing_mismatch hh hd hl hread hx hv hverify hone hof).2 g v
  · have hstaffOnly := (Part.staffOnly_iff ..).mpr hstaff
    intro cleared ended identified recheck auditOnly unchanged
    refine ⟨fun kind hc => ⟨fun h => ?_, fun haudit hno => ?_⟩, fun hno h3 => ⟨fun h => ?_, fun h => ?_⟩,
      fun g kind hc hg _ => foreign_swap hh hd hl hread hx hstaffOnly hc hg⟩
    · exact foreign_again hh hd hl hread hx hstaffOnly hc (h.imp Read.servedRecheck_of_recheck And.right)
    · exact foreign_audited hh hd hread hx hc (Read.servedRecheck_of_audit haudit) hno
    · exact foreign_recheck_unreadable hh hd hl hread hx hno h3 (Read.servedRecheck_of_recheck h)
    · exact foreign_audit_unreadable hh hd hread hx hno h3 (Read.servedRecheck_of_audit h)

end Sys2Proof.Machine
end

section
/-! PROOFS. The limits that every step keeps (LimitsKept): the capacities of the collections, the order of the release
queue, the hold limit and the bounds of the chute. One lemma for each operation, in the order of the definitions; the
statement follows command by command.
The proofs elaborate one after another: the stacks of proofs that wait for each other stand against the memory limit of
the check. -/

namespace Sys2Proof.Machine

set_option Elab.async false

/-! ## The release queue in order -/

/-- The live requests carry different numbers (R57), at most one to a column is VERIFYING or OPEN (R61), a VERIFYING one
is for a vehicle (R65, R69), and every STAFF_SLOT request is of the class STAFF (R55). -/
structure QueueOrderly (l : List Release) : Prop where
  numbers : (l.map (·.number)).Nodup
  oneToColumn : ∀ r ∈ l, ∀ q ∈ l, r.inFlight = true → q.inFlight = true → r.slot.col = q.slot.col → r.number = q.number
  verifying : ∀ r ∈ l, r.isVerifying = true → r.target ≠ .staffSlot
  staff : ∀ r ∈ l, r.target = .staffSlot → r.cls = .staff

theorem queueOrderly_nil : QueueOrderly [] := ⟨List.nodup_nil, by simp, by simp, by simp⟩

/-- A request that is not waiting is VERIFYING or OPEN. -/
theorem Release.inFlight_of_isVerifying {r : Release} (h : r.isVerifying = true) : r.inFlight = true := by
  unfold Release.isVerifying at h
  unfold Release.inFlight
  split at h <;> simp_all

/-- A request that gets another phase; the others stay. -/
def Release.startIn (n : Nat) (ph : ReleasePhase) (q : Release) : Release :=
  if q.number = n then { q with phase := ph } else q

theorem Release.startIn_of_ne {n : Nat} {ph : ReleasePhase} {q : Release} (h : q.number ≠ n) : q.startIn n ph = q :=
  if_neg h

/-- Another phase leaves the rest of a request alone. -/
@[simp] theorem Release.startIn_frame (n : Nat) (ph : ReleasePhase) (q : Release) :
    (q.startIn n ph).number = q.number ∧ (q.startIn n ph).target = q.target ∧ (q.startIn n ph).cls = q.cls ∧
    (q.startIn n ph).slot = q.slot := by
  unfold Release.startIn
  split <;> simp

namespace QueueOrderly

variable {l l' : List Release} (h : QueueOrderly l)
include h

theorem sublist (hs : l'.Sublist l) : QueueOrderly l' :=
  ⟨h.numbers.sublist (hs.map _), fun r hr q hq => h.oneToColumn r (hs.subset hr) q (hs.subset hq),
    fun r hr => h.verifying r (hs.subset hr), fun r hr => h.staff r (hs.subset hr)⟩

theorem eq_of_number {r q : Release} (hr : r ∈ l) (hq : q ∈ l) (e : q.number = r.number) : q = r :=
  List.inj_on_of_nodup_map h.numbers hq hr e

/-- A change of requests that leaves number, target, slot and class alone and is no change between WAITING, VERIFYING and
OPEN. -/
theorem map {f : Release → Release} (hf : ∀ r, (f r).number = r.number ∧ (f r).target = r.target ∧
    (f r).slot = r.slot ∧ (f r).cls = r.cls ∧ (f r).inFlight = r.inFlight ∧ (f r).isVerifying = r.isVerifying) :
    QueueOrderly (l.map f) := by
  obtain ⟨h1, h2, h3, h4⟩ := h
  refine ⟨?_, ?_, ?_, ?_⟩
  · simpa [Function.comp_def, hf] using h1
  all_goals simpa only [List.forall_mem_map, hf]

/-- A WAITING request joins the queue with a number that no other carries. -/
theorem append {r : Release} (hn : r.number ∉ l.map (·.number)) (hp : r.phase = .waiting)
    (hs : r.target = .staffSlot → r.cls = .staff) : QueueOrderly (l ++ [r]) := by
  have hf : r.inFlight = false := by rw [Release.inFlight, hp]
  have hv : r.isVerifying = false := by rw [Release.isVerifying, hp]
  obtain ⟨h1, h2, h3, h4⟩ := h
  refine ⟨?_, ?_, ?_, ?_⟩
  · rw [List.map_append]
    exact h1.append (List.nodup_singleton _) (by simpa using hn)
  · simpa only [List.forall_mem_append, List.forall_mem_singleton, hf, Bool.false_eq_true, false_imp_iff, imp_true_iff,
      and_true]
  · simpa only [List.forall_mem_append, List.forall_mem_singleton, hv, Bool.false_eq_true, false_imp_iff, and_true]
  · simpa only [List.forall_mem_append, List.forall_mem_singleton] using ⟨h4, hs⟩

/-- A request of the queue whose column is free of others becomes VERIFYING, where it is for a vehicle, or OPEN. -/
theorem start {r : Release} (hr : r ∈ l)
    (hfree : ∀ q ∈ l, q.inFlight = true → q.slot.col = r.slot.col → q.number = r.number) {ph : ReleasePhase}
    (hph : ∀ t, ph = .verifying t → r.target ≠ .staffSlot) : QueueOrderly (l.map (Release.startIn r.number ph)) := by
  have hin : ∀ q ∈ l, q.number ≠ r.number → (q.startIn r.number ph).inFlight = true → q.inFlight = true := by
    intro q _ hne hq
    rwa [Release.startIn_of_ne hne] at hq
  have hcol : ∀ q ∈ l, q.number = r.number → q.slot.col = r.slot.col := fun q hq e => by rw [h.eq_of_number hr hq e]
  refine ⟨?_, ?_, ?_, ?_⟩
  · simpa [Function.comp_def] using h.numbers
  · simp only [List.forall_mem_map, Release.startIn_frame]
    intro a ha b hb hfa hfb hc
    by_cases ea : a.number = r.number
    · by_cases eb : b.number = r.number
      · exact ea.trans eb.symm
      · exact ea.trans (hfree b hb (hin b hb eb hfb) (hc.symm.trans (hcol a ha ea))).symm
    · have hfa := hin a ha ea hfa
      by_cases eb : b.number = r.number
      · exact (hfree a ha hfa (hc.trans (hcol b hb eb))).trans eb.symm
      · exact h.oneToColumn a ha b hb hfa (hin b hb eb hfb) hc
  · simp only [List.forall_mem_map, Release.startIn_frame]
    intro q hq hv
    by_cases e : q.number = r.number
    · rw [h.eq_of_number hr hq e]
      rw [Release.startIn, if_pos e] at hv
      cases ph with
      | verifying t => exact hph t rfl
      | waiting => simp [Release.isVerifying] at hv
      | opened a b c d => simp [Release.isVerifying] at hv
    · rw [Release.startIn_of_ne e] at hv
      exact h.verifying q hq hv
  · simpa only [List.forall_mem_map, Release.startIn_frame] using h.staff

/-- Another phase for one request makes at most one more of them VERIFYING or OPEN, and none more where it was already. -/
theorem start_count {r : Release} (hr : r ∈ l) (ph : ReleasePhase) :
    (l.map (Release.startIn r.number ph)).countP Release.inFlight ≤
      l.countP Release.inFlight + if r.inFlight then 0 else 1 := by
  have hsame : ∀ q ∈ l.erase r, q.startIn r.number ph = q := by
    intro q hq
    have hnd : l.Nodup := h.numbers.of_map
    obtain ⟨hne, hq⟩ := hnd.mem_erase_iff.mp hq
    exact Release.startIn_of_ne fun e => hne (h.eq_of_number hr hq e)
  have hp := List.perm_cons_erase hr
  rw [(hp.map _).countP_eq, hp.countP_eq, List.map_cons, (List.map_congr_left hsame).trans (List.map_id _),
    List.countP_cons, List.countP_cons]
  cases r.inFlight <;> split <;> simp

end QueueOrderly

/-! ## The limits -/

/-- The limits of a part: the capacities, the order of the queue, the hold limit of the mode in force, or, while a mode
change is being followed, the number `n` of releases that were in flight before it, and the bounds of the chute where `b`
says that they hold. -/
structure Part.limited (b : Prop) (n : Nat) (p : Part) : Prop where
  capacities : p.withinCapacities
  queue : QueueOrderly p.sched.queue
  flight : p.sched.queue.countP Release.inFlight ≤ max n p.supply.mode.holdLimit
  chute : b → p.chuteWithin

theorem Scheduler.inFlight_eq (d : Scheduler) : d.inFlight = d.queue.countP Release.inFlight :=
  List.countP_eq_length_filter.symm

/-- The limits outside a mode change are those of the statement. -/
theorem Part.limited_zero_iff (b : Prop) (p : Part) :
    p.limited b 0 ↔ p.withinCapacities ∧ p.withinBudget ∧ (b → p.chuteWithin) := by
  refine ⟨fun ⟨hc, hq, hf, hx⟩ => ⟨hc, ?_, hx⟩, fun ⟨hc, hb, hx⟩ => ?_⟩
  · exact ⟨by rw [Scheduler.inFlight_eq]; simpa using hf, hq.numbers, hc.2.2.2.1, hq.oneToColumn, hq.verifying, hq.staff⟩
  · obtain ⟨hf, hn, -, ho, hv, hs⟩ := hb
    exact ⟨hc, ⟨hn, ho, hv, hs⟩, by rw [Scheduler.inFlight_eq] at hf; simpa using hf, hx⟩

/-- A chute whose log and counts do not grow and whose drop stays within its bounds (R104, R110). -/
theorem Part.chuteWithin.of_log {p q : Part} (h : p.chuteWithin) (hl : q.chute.log.length ≤ p.chute.log.length)
    (hi : (q.chute.log.filter fun e => e.place == .inChute).length ≤
      (p.chute.log.filter fun e => e.place == .inChute).length) (hd : q.chute.drop = p.chute.drop) : q.chuteWithin := by
  obtain ⟨h1, h2, h3⟩ := h
  refine ⟨hl.trans h1, hi.trans h2, fun d x hdrop hx => ?_⟩
  obtain ⟨h4, h5⟩ := h3 d x (hd ▸ hdrop) hx
  exact ⟨hl.trans_lt h4, hi.trans_lt h5⟩

section limits

variable {b : Prop} {n : Nat} {p q : Part} (h : p.limited b n)
include h

/-- What lets no table grow and leaves the queue, the mode and the chute alone. -/
theorem Part.limited.of_same (hf : q.fleet.length ≤ p.fleet.length := by simp)
    (hc : q.book.contracts.length ≤ p.book.contracts.length := by simp)
    (hr : q.book.ring.length ≤ p.book.ring.length := by simp) (hq : q.sched.queue = p.sched.queue := by simp)
    (he : q.sched.ended.length ≤ p.sched.ended.length := by simp)
    (ha : q.alarm.list.length ≤ p.alarm.list.length := by simp)
    (hn : q.lines.notices.length ≤ p.lines.notices.length := by simp)
    (hm : q.supply.mode = p.supply.mode := by simp) (hl : q.chute.log = p.chute.log := by simp)
    (hd : q.chute.drop = p.chute.drop := by simp) : q.limited b n := by
  obtain ⟨⟨h1, h2, h3, h4, h5, h6, h7⟩, ho, hi, hx⟩ := h
  exact ⟨⟨hf.trans h1, hc.trans h2, hr.trans h3, hq ▸ h4, he.trans h5, ha.trans h6, hn.trans h7⟩, hq ▸ ho,
    hq ▸ hm ▸ hi, fun hb => (hx hb).of_log (by rw [hl]) (by rw [hl]) hd⟩

/-- A change of the alarm list and of the notices within their capacities (R134, R166). -/
theorem Part.limited.of_signals (ha : q.alarm.list.length ≤ 48) (hn : q.lines.notices.length ≤ 32)
    (hf : q.fleet = p.fleet := by simp) (hk : q.book = p.book := by simp) (hs : q.sched = p.sched := by simp)
    (hy : q.supply = p.supply := by simp) (hc : q.chute = p.chute := by simp) : q.limited b n := by
  obtain ⟨⟨h1, h2, h3, h4, h5, -, -⟩, ho, hi, hx⟩ := h
  refine ⟨⟨hf ▸ h1, hk ▸ h2, hk ▸ h3, hs ▸ h4, hs ▸ h5, ha, hn⟩, hs ▸ ho, hs ▸ hy ▸ hi, fun hb => (hx hb).of_log ?_ ?_ ?_⟩
  all_goals rw [hc]

/-- A change of the queue that keeps it in order, with at most 16 requests and no more in flight than the mode allows. -/
theorem Part.limited.of_queue (ho : QueueOrderly q.sched.queue) (hl : q.sched.queue.length ≤ 16)
    (hi : q.sched.queue.countP Release.inFlight ≤ max n p.supply.mode.holdLimit)
    (he : q.sched.ended.length ≤ 16) (hf : q.fleet.length ≤ p.fleet.length := by simp)
    (hk : q.book = p.book := by simp) (ha : q.alarm = p.alarm := by simp) (hn : q.lines = p.lines := by simp)
    (hy : q.supply = p.supply := by simp) (hc : q.chute = p.chute := by simp) : q.limited b n := by
  obtain ⟨⟨h1, h2, h3, -, -, h6, h7⟩, -, -, hx⟩ := h
  refine ⟨⟨hf.trans h1, hk ▸ h2, hk ▸ h3, hl, he, ha ▸ h6, hn ▸ h7⟩, ho, hy ▸ hi, fun hb => (hx hb).of_log ?_ ?_ ?_⟩
  all_goals rw [hc]

/-- A change of the chute alone that keeps its bounds. -/
theorem Part.limited.setChute {c : Chute} (hc : b → ({ p with chute := c } : Part).chuteWithin) :
    ({ p with chute := c } : Part).limited b n :=
  ⟨h.capacities, h.queue, h.flight, hc⟩

/-! ## Alarms and notices -/

theorem Part.limited.notice {w : NoticeBody} : (p.notice w).limited b n := by
  obtain ⟨-, -, -, -, -, h6, h7⟩ := h.capacities
  refine h.of_signals (by simpa using h6) ?_
  unfold Part.notice
  split
  next hl =>
    have hl : p.lines.notices.length < 32 := hl
    simpa using hl
  next => exact h7

theorem Part.limited.setFlags {f : Flags → Flags} : (p.setFlags f).limited b n := h.of_same

theorem Part.limited.decideDrives : p.decideDrives.limited b n := h.of_same

theorem Part.limited.announceRaise {m : Nat} {k : AlarmKind} {x : Subject} : (p.announceRaise m k x).limited b n := by
  unfold Part.announceRaise
  exact h.notice.setFlags

theorem Part.limited.setAlarm {a : AlarmUnit} (ha : a.list.length ≤ 48) : ({ p with alarm := a } : Part).limited b n :=
  h.of_signals ha h.capacities.2.2.2.2.2.2

theorem Part.limited.updAlarm {m : Nat} {f : Alarm → Alarm} : (p.updAlarm m f).limited b n := h.of_same

theorem Part.limited.removeAlarm {m : Nat} : (p.removeAlarm m).limited b n :=
  h.of_same (ha := List.length_filter_le ..)

/-- A new record is made where the list has room for it. -/
theorem Part.limited.makeAlarm {k : AlarmKind} {x : Subject} (hl : p.alarm.list.length < 48) :
    (p.makeAlarm k x).limited b n := by
  unfold Part.makeAlarm
  exact Part.limited.announceRaise (h.setAlarm (by simpa using hl))

theorem Part.limited.raise {k : AlarmKind} {x : Subject} : (p.raise k x).limited b n := by
  unfold Part.raise
  split
  · split
    · exact h
    · exact h
    · exact h.updAlarm.announceRaise
  · split
    next hl => exact h.makeAlarm hl
    next =>
      split
      next old ho =>
        have hlt : (p.removeAlarm old.number).alarm.list.length < p.alarm.list.length := by
          rw [Part.removeAlarm_list]
          exact List.length_filter_lt_length_iff_exists.mpr ⟨old, List.mem_of_find?_eq_some ho, by simp⟩
        exact h.removeAlarm.makeAlarm (hlt.trans_le h.capacities.2.2.2.2.2.1)
      next => exact Part.limited.setFlags h.of_same

theorem Part.limited.endCondition {k : AlarmKind} {x : Subject} : (p.endCondition k x).limited b n := by
  unfold Part.endCondition
  split
  · exact h
  · split
    · exact h.updAlarm.notice
    · exact h.removeAlarm.notice
    · exact h

theorem Part.limited.ackAlarm {a : Alarm} : (p.ackAlarm a).limited b n := by
  unfold Part.ackAlarm
  split
  · exact h.removeAlarm
  · exact h.updAlarm

theorem Part.limited.endForeignConditions {x : SlotId} : (p.endForeignConditions x).limited b n :=
  h.endCondition.endCondition

/-! ## Updates that let nothing grow -/

theorem Part.limited.updColumn {c : ColId} {f : Column → Column} : (p.updColumn c f).limited b n := h.of_same

theorem Part.limited.setCustody {x : SlotId} {k : Custody} : (p.setCustody x k).limited b n := h.of_same

theorem Part.limited.updEngine {x : SlotId} {f : SlotEngine → SlotEngine} : (p.updEngine x f).limited b n := h.of_same

theorem Part.limited.updVehicle {u : Nat} {f : Vehicle → Vehicle} : (p.updVehicle u f).limited b n := h.of_same

theorem Part.limited.setStatus {u : Nat} {st : VehicleStatus} : (p.setStatus u st).limited b n := h.updVehicle

theorem Part.limited.updContract {m : Nat} {f : Contract → Contract} : (p.updContract m f).limited b n := h.of_same

theorem Part.limited.dropContract {m : Nat} : (p.dropContract m).limited b n :=
  h.of_same (hc := List.length_filter_le ..)

theorem Part.limited.setLate {l : Lateness} : ({ p with late := l } : Part).limited b n := h.of_same

theorem Part.limited.advanceTo {t : Ms} : (p.advanceTo t).limited b n := h.of_same

/-- What every step of a fold keeps within the limits, the fold keeps. -/
theorem Part.limited.foldl {β : Type} {f : Part → β → Part} {l : List β}
    (hf : ∀ (p : Part) (x : β), p.limited b n → (f p x).limited b n) : (l.foldl f p).limited b n :=
  foldl_induct (P := Part.limited b n) l hf h

end limits

/-! ## Contracts -/

/-- The operations of a level change keep the limits (R127). -/
theorem Part.limited_levelStable (b : Prop) (n : Nat) : Part.LevelStable (Part.limited b n) where
  notice _ _ h := h.notice
  raise _ _ _ _ h := h.raise
  ends _ _ _ _ h := h.endCondition
  escalate _ _ h := h.updVehicle

/-- The closed-contract ring keeps at most 64 records (R92). -/
theorem pushRing_length {ring : List ClosingRecord} (h : ring.length ≤ 64) (r : ClosingRecord) :
    (pushRing ring r).length ≤ 64 := by
  simp only [pushRing, List.length_drop, List.length_append, List.length_singleton, Config.ringCapacity]
  omega

section operations

variable {b : Prop} {n : Nat} {p : Part} (h : p.limited b n)
include h

theorem Part.limited.activateContract {m : Nat} {take : Minute} : (p.activateContract m take).limited b n :=
  (Part.limited_levelStable b n).activateContract m take (fun _ _ _ _ => h.updContract) h

theorem Part.limited.examine {m : Nat} {now : Minute} : (p.examine m now).limited b n := by
  unfold Part.examine
  split
  · exact h
  · split
    · exact h
    · dsimp only
      split
      · exact h.updContract
      · exact (Part.limited_levelStable b n).levelChange _ _ _ _ h.updContract

theorem Part.limited.deleteContract {m : Nat} : (p.deleteContract m).limited b n := by
  unfold Part.deleteContract Part.dropContractLink
  split
  · exact h
  · split
    · exact h
    · exact h.dropContract.updVehicle

theorem Part.limited.pushRing {r : ClosingRecord} {m : Nat} :
    ({ p with book := { p.book with closingSeq := m, ring := pushRing p.book.ring r } } : Part).limited b n := by
  obtain ⟨⟨h1, h2, h3, h4⟩, hq, hf, hx⟩ := h
  exact ⟨⟨h1, h2, pushRing_length h3 r, h4⟩, hq, hf, hx⟩

theorem Part.limited.closeContract {m : Nat} {returned : Minute} {w : ClosePath} :
    (p.closeContract m returned w).limited b n := by
  unfold Part.closeContract Part.dropContractLink
  split
  · exact h
  · split
    · exact h
    · exact h.pushRing.dropContract.updVehicle.endCondition.endCondition.notice

/-! ## The sweep -/

theorem Part.limited.endSweep : p.endSweep.limited b n := by
  unfold Part.endSweep Part.beginSweep
  split
  · exact h.setLate
  · exact h.setLate

theorem Part.limited.boundary : p.boundary.limited b n := by
  unfold Part.boundary Part.beginSweep
  dsimp only
  split
  · split <;> exact h.of_same
  · exact h.of_same

/-! ## The chute -/

theorem Part.limited.decideFlap : p.decideFlap.limited b n := by
  unfold Part.decideFlap
  split
  · exact Part.limited.raise h.of_same
  · exact Part.limited.endCondition h.of_same
  · exact h
  · exact h

theorem Part.limited.checkFlap : p.checkFlap.limited b n := by
  unfold Part.checkFlap
  dsimp only
  split
  · exact Part.limited.raise h.of_same
  · exact Part.limited.endCondition h.of_same

/-- The log of the chute loses entries or has entries marked, and the drop stays (R104, R110). -/
theorem Part.limited.setLog {l : List ChuteEntry} (hl : l.length ≤ p.chute.log.length)
    (hi : (l.filter fun e => e.place == .inChute).length ≤ (p.chute.log.filter fun e => e.place == .inChute).length) :
    ({ p with chute := { p.chute with log := l } } : Part).limited b n :=
  h.setChute fun hb => (h.chute hb).of_log hl hi rfl

theorem Part.limited.filterLog {f : ChuteEntry → Bool} :
    ({ p with chute := { p.chute with log := p.chute.log.filter f } } : Part).limited b n :=
  h.setLog (List.length_filter_le ..) (List.Sublist.length_le (List.filter_sublist.filter _))

/-- Entries that are changed stay where they are in the log, and stay in the chute or leave it. -/
theorem Part.limited.mapLog {f : ChuteEntry → ChuteEntry} (hf : ∀ e, (f e).place = .inChute → e.place = .inChute) :
    ({ p with chute := { p.chute with log := p.chute.log.map f } } : Part).limited b n := by
  refine h.setLog (by simp) ?_
  rw [← List.countP_eq_length_filter, ← List.countP_eq_length_filter, List.countP_map]
  exact List.countP_mono_left fun e _ he => by simpa using hf e (by simpa using he)

theorem Part.limited.removeEntry {m : Nat} : (p.removeEntry m).limited b n := by
  unfold Part.removeEntry
  dsimp only
  split
  · exact h.filterLog.decideFlap
  · exact h.filterLog

theorem Part.limited.updEntry {m : Nat} {f : ChuteEntry → ChuteEntry} (hf : ∀ e, (f e).place = e.place) :
    (p.updEntry m f).limited b n :=
  h.mapLog fun e he => by
    split at he
    · exact hf e ▸ he
    · exact he

theorem Part.limited.emptyChute : p.emptyChute.limited b n := by
  unfold Part.emptyChute
  dsimp only
  refine Part.limited.decideFlap (Part.limited.endCondition (Part.limited.mapLog ?_ ?_))
  · refine h.filterLog.foldl fun q e hq => ?_
    unfold Part.endEntryCondition
    split
    · exact hq.endCondition
    · exact hq
    · exact hq
    · exact hq
  · exact nofun

theorem Part.limited.dropVehicle {u m : Nat} {detected : Minute} : (p.dropVehicle u m detected).limited b n := by
  unfold Part.dropVehicle
  split
  · exact h
  · dsimp only
    split
    case h_1 =>
      split
      · exact h.setStatus.closeContract
      · exact h.setStatus
    case h_2 => exact h.setStatus.endCondition
    all_goals exact h.setStatus

theorem Part.limited.raiseForEntry {m : Nat} {k : EntryKind} : (p.raiseForEntry m k).limited b n := by
  unfold Part.raiseForEntry
  split
  · exact h.raise
  · exact h.raise
  · exact h
  · exact h

end operations

/-- The bounds of the chute aside, a part within the limits. -/
theorem Part.limited.unbounded {b : Prop} {n : Nat} {p : Part} (h : p.limited b n) : p.limited False n :=
  ⟨h.capacities, h.queue, h.flight, False.elim⟩

theorem Part.limited.of_unbounded {b : Prop} {n : Nat} {p : Part} (h : p.limited False n) (hc : b → p.chuteWithin) :
    p.limited b n :=
  ⟨h.capacities, h.queue, h.flight, hc⟩

@[simp] theorem Part.decideFlap_log (p : Part) : p.decideFlap.chute.log = p.chute.log := by
  unfold Part.decideFlap
  split <;> simp

/-- A handled drop is one more entry at the end of the log, in the chute (R105, R109). -/
theorem Part.handleDrop_log (p : Part) (m : Minute) (o : ReadOutcome) :
    (p.handleDrop m o).chute.log = p.chute.log ++
      [⟨freeNumber 65535 (p.chute.log.map (·.number)) (p.chute.log.map (·.number)).length p.chute.lastEntry, m,
        p.entryKind o, .inChute⟩] := by
  unfold Part.handleDrop
  dsimp only
  simp only [Part.notice_frame, Part.decideFlap_log, Part.raiseForEntry_frame]
  split <;> simp

/-- The read of a handled drop is over (R106). -/
theorem Part.handleDrop_drop (p : Part) (m : Minute) (o : ReadOutcome) :
    (p.handleDrop m o).chute.drop = some ⟨m, none⟩ := rfl

/-- A drop that is handled while neither bound of the chute is reached (R109, R110). -/
theorem Part.limited.handleDrop {b : Prop} {n : Nat} {p : Part} (h : p.limited b n)
    (hb : b → p.chute.log.length < 96 ∧ (p.chute.log.filter fun e => e.place == .inChute).length < 64) {m : Minute}
    {o : ReadOutcome} : (p.handleDrop m o).limited b n := by
  refine Part.limited.of_unbounded ?_ fun hx => ?_
  · have hs (c : Chute) : ({ p with chute := c } : Part).limited False n := h.unbounded.setChute False.elim
    unfold Part.handleDrop
    dsimp only
    refine (Part.limited.decideFlap (Part.limited.raiseForEntry ?_)).notice.setChute False.elim
    split
    · exact (hs _).dropVehicle
    · exact hs _
    · exact hs _
    · exact hs _
  · obtain ⟨h1, h2⟩ := hb hx
    rw [Part.chuteWithin, Part.handleDrop_log, Part.handleDrop_drop]
    refine ⟨by simpa using h1, by simpa [List.filter_append] using h2, ?_⟩
    rintro d x hdrop hread
    obtain rfl := Option.some.inj hdrop
    cases hread

/-! ## The scheduler -/

theorem Release.startIn_startIn (m : Nat) (ph ph' : ReleasePhase) (l : List Release) :
    (l.map (Release.startIn m ph)).map (Release.startIn m ph') = l.map (Release.startIn m ph') := by
  rw [List.map_map]
  refine List.map_congr_left fun q _ => ?_
  by_cases e : q.number = m
  · simp [Release.startIn, e]
  · simp [Release.startIn, e]

theorem Target.vehicleKind_eq_none_iff (t : Target) : t.vehicleKind = none ↔ t = .staffSlot := by
  cases t <;> simp [Target.vehicleKind]

/-- An opening makes the request of its number OPEN, and changes no other. -/
theorem Part.openRelease_queue (p : Part) (r : Release) : ∃ a c d e,
    (p.openRelease r).sched.queue = p.sched.queue.map (Release.startIn r.number (.opened a c d e)) :=
  ⟨_, _, _, _, rfl⟩

/-- A selection makes its request VERIFYING, where it is for a vehicle, or OPEN, and changes no other (R65, R69). -/
theorem Part.selectOne_queue (p : Part) (r : Release) : ∃ ph, (∀ t, ph = .verifying t → r.target ≠ .staffSlot) ∧
    (p.selectOne r).sched.queue = p.sched.queue.map (Release.startIn r.number ph) := by
  cases hk : r.target.vehicleKind with
  | some kind =>
    rw [Part.selectOne_vehicle p hk]
    refine ⟨.verifying p.uptime, fun _ _ hs => ?_, rfl⟩
    simp [(Target.vehicleKind_eq_none_iff _).mpr hs] at hk
  | none =>
    rw [Part.selectOne_staffSlot p hk]
    obtain ⟨a, c, d, e, hq⟩ :=
      ((p.charged r).requeueRead r.slot).openRelease_queue { r with phase := .verifying p.uptime }
    refine ⟨.opened a c d e, nofun, hq.trans ?_⟩
    exact Release.startIn_startIn r.number (.verifying p.uptime) _ _

/-- The ended list keeps at most 16 entries (R57). -/
theorem pushEnded_length {l : List (Nat × ReleaseOutcome)} (h : l.length ≤ 16) (e : Nat × ReleaseOutcome) :
    (pushEnded l e).length ≤ 16 := by
  simp only [pushEnded, List.length_drop, List.length_append, List.length_singleton, Config.endedCapacity]
  omega

section scheduler

variable {b : Prop} {n : Nat} {p : Part} (h : p.limited b n)
include h

theorem Part.limited.selectOne {r : Release} (hw : p.winner = some r) : (p.selectOne r).limited b n := by
  obtain ⟨hr, he⟩ := Part.winner_mem hw
  simp only [Part.eligible, Part.columnFree, Bool.and_eq_true, Bool.not_eq_true', List.any_eq_false, beq_iff_eq,
    decide_eq_true_eq, Scheduler.inFlight_eq] at he
  obtain ⟨⟨⟨⟨⟨⟨-, ⟨-, hfree⟩, -⟩, hlimit⟩, -⟩, -⟩, -⟩, -⟩ := he
  obtain ⟨ph, hph, hq⟩ := p.selectOne_queue r
  refine h.of_queue ?_ ?_ ?_ ?_
  · rw [hq]
    exact h.queue.start hr (fun q hq hf hc => absurd ⟨hf, hc⟩ (hfree q hq)) hph
  · rw [hq, List.length_map]
    exact h.capacities.2.2.2.1
  · have := h.queue.start_count hr ph
    rw [hq]
    split at this <;> omega
  · simpa using h.capacities.2.2.2.2.1

theorem Part.limited.selection : p.selection.limited b n :=
  Part.selection_induct (fun _ _ hq hw => hq.selectOne hw) h

/-- A VERIFYING release becomes OPEN (R66). -/
theorem Part.limited.openRelease {r : Release} (hr : r ∈ p.sched.queue) (hv : r.isVerifying = true) :
    (p.openRelease r).limited b n := by
  have hf := Release.inFlight_of_isVerifying hv
  obtain ⟨a, c, d, e, hq⟩ := p.openRelease_queue r
  refine h.of_queue ?_ ?_ ?_ ?_
  · rw [hq]
    exact h.queue.start hr (fun q hq hqf hc => h.queue.oneToColumn q hq r hr hqf hf hc) nofun
  · rw [hq, List.length_map]
    exact h.capacities.2.2.2.1
  · have := h.queue.start_count hr (.opened a c d e)
    rw [hf] at this
    rw [hq]
    exact this.trans h.flight
  · simpa using h.capacities.2.2.2.2.1

/-- A change of requests that leaves all but their marks alone. -/
theorem Part.limited.mapQueue {f : Release → Release} (hf : ∀ r, (f r).number = r.number ∧ (f r).target = r.target ∧
    (f r).slot = r.slot ∧ (f r).cls = r.cls ∧ (f r).inFlight = r.inFlight ∧ (f r).isVerifying = r.isVerifying) :
    ({ p with sched := { p.sched with queue := p.sched.queue.map f } } : Part).limited b n := by
  refine h.of_queue (h.queue.map hf) ?_ ?_ h.capacities.2.2.2.2.1
  · simpa using h.capacities.2.2.2.1
  · simpa [List.countP_map, Function.comp_def, hf] using h.flight

theorem Part.limited.accept {t : Target} {x : SlotId} {c : ReleaseClass} {o : Line} (hl : p.sched.queue.length < 16)
    (hs : t = .staffSlot → c = .staff) : (p.accept t x c o).1.limited b n := by
  unfold Part.accept
  dsimp only
  have hq : ({ p with sched := { p.sched with
      queue := p.sched.queue ++ [⟨freeNumber 255 (p.sched.queue.map (·.number)) (p.sched.queue.map (·.number)).length
        p.sched.lastNumber, t, x, c, o, p.uptime, .waiting, false⟩]
      lastNumber := freeNumber 255 (p.sched.queue.map (·.number)) (p.sched.queue.map (·.number)).length p.sched.lastNumber
      ended := p.sched.ended.filter fun e => e.1 != freeNumber 255 (p.sched.queue.map (·.number))
        (p.sched.queue.map (·.number)).length p.sched.lastNumber } } : Part).limited b n := by
    refine h.of_queue (h.queue.append (freeNumber_not_mem ?_ _) rfl hs) ?_ ?_ ?_
    · simp; omega
    · simp; omega
    · simpa [List.countP_append, Release.inFlight] using h.flight
    · exact (List.length_filter_le ..).trans h.capacities.2.2.2.2.1
  split
  · exact hq.updVehicle
  · exact hq

theorem Part.limited.leaveQueue {r : Release} {o : ReleaseOutcome} : (p.leaveQueue r o).limited b n := by
  have hs : (p.leaveQueue r o).sched.queue.Sublist p.sched.queue := List.filter_sublist
  exact h.of_queue (h.queue.sublist hs) (hs.length_le.trans h.capacities.2.2.2.1) (hs.countP_le.trans h.flight)
    (pushEnded_length h.capacities.2.2.2.2.1 _)

theorem Part.limited.leaveSlot {r : Release} {o : ReleaseOutcome} : (p.leaveSlot r o).limited b n := h.of_same

theorem Part.limited.leaveLinks {r : Release} {o : ReleaseOutcome} : (p.leaveLinks r o).limited b n := by
  have hq : (match r.target.unit with
      | some u => p.updVehicle u fun v => { v with request := none }
      | none => p).limited b n := by
    split
    · exact h.updVehicle
    · exact h
  unfold Part.leaveLinks
  dsimp only
  split
  · split
    · exact hq
    · exact hq.deleteContract
  · exact hq

theorem Part.limited.endRelease {r : Release} {o : ReleaseOutcome} : (p.endRelease r o).limited b n :=
  h.leaveQueue.leaveSlot.leaveLinks.notice.selection

theorem Part.limited.endAll {l : List Release} {o : ReleaseOutcome} : (p.endAll l o).limited b n :=
  Part.endAll_induct (fun _ _ hq _ _ => hq.endRelease) h

/-! ## The custody manager -/

theorem Part.limited.strayVehicle {u : Nat} : (p.strayVehicle u).limited b n := h.setStatus.raise.endAll

theorem Part.limited.forcedRemoval {x : SlotId} : (p.forcedRemoval x).limited b n := by
  have hp : ((p.setCustody x .empty).cancelReads x).limited b n := h.setCustody.updColumn
  unfold Part.forcedRemoval
  dsimp only
  split
  · exact hp
  · exact hp.strayVehicle.endCondition
  · exact hp.strayVehicle.endCondition
  · exact hp.raise.endForeignConditions.endCondition.endAll
  · exact hp.raise.endCondition.endAll

end scheduler

theorem Part.countSettled_mode (p : Part) (taken : Bool) : (p.countSettled taken).supply.mode = p.supply.mode := by
  unfold Part.countSettled
  repeat' split
  all_goals rfl

/-- The operations of the comparison of a slot with its record keep the limits (R159, R160). -/
theorem Part.limited_compareStable (b : Prop) (n : Nat) (x : SlotId) : Part.CompareStable (Part.limited b n) x where
  custody _ _ h := h.setCustody
  recheck _ h := h.updColumn
  status _ _ _ h := h.setStatus
  stray _ _ h := h.raise
  ends _ _ _ h := h.endCondition
  delete _ _ h := h.deleteContract
  unlink _ _ h := h.updVehicle
  notice _ _ h := h.notice
  count q t h := h.of_same (hm := q.countSettled_mode t)
  activate _ _ _ h := h.activateContract

section custody

variable {b : Prop} {n : Nat} {p : Part} (h : p.limited b n)
include h

theorem Part.limited.take {x : SlotId} {r : Release} : (p.take x r).limited b n := by
  have hp : (((p.setCustody x .empty).cancelReads x).takeVehicle r.target p.minute).limited b n :=
    (Part.limited_compareStable b n x).takeVehicle h.setCustody.updColumn _ _
  unfold Part.take
  dsimp only
  split
  · exact hp.endForeignConditions.endCondition.endRelease
  all_goals exact hp.endCondition.endRelease

theorem Part.limited.removal {x : SlotId} : (p.removal x).limited b n := by
  unfold Part.removal
  split
  case h_1 => exact h.updColumn
  case h_2 | h_3 | h_4 => exact h.take
  all_goals exact h.forcedRemoval

theorem Part.limited.arrival {x : SlotId} : (p.arrival x).limited b n := by
  unfold Part.arrival Part.placeRead
  dsimp only
  split
  · exact h.setCustody.updColumn
  · exact h.forcedRemoval.setCustody.updColumn

theorem Part.limited.returnEffects {x : SlotId} {v : Vehicle} {m : Minute} : (p.returnEffects x v m).limited b n := by
  unfold Part.returnEffects
  split
  case h_1 =>
    split
    · exact h.closeContract
    · exact h
  case h_5 => exact h.endCondition
  case h_6 => exact h.removeEntry
  case h_7 => exact h
  all_goals exact h.notice

theorem Part.limited.misplacement {x : SlotId} {u : Nat} {m : Minute} : (p.misplacement x u m).limited b n := by
  unfold Part.misplacement
  split
  · exact h
  · split
    · exact h
    · split
      · exact h.notice
      all_goals exact h

theorem Part.limited.bind {x : SlotId} {v : Vehicle} {m : Minute} : (p.bind x v m).limited b n :=
  h.setCustody.setStatus.endCondition.returnEffects.misplacement.endAll

theorem Part.limited.makeForeign {x : SlotId} {t : Nat} {q : ForeignReason} {m : Minute} {k : AlarmKind} :
    (p.makeForeign x t q m k).limited b n :=
  h.setCustody.raise

theorem Part.limited.identify {x : SlotId} {m : Minute} {o : ReadOutcome} : (p.identify x m o).limited b n := by
  unfold Part.identify
  extract_lets q
  have hq : q.limited b n := by
    unfold q
    split
    · exact h.endForeignConditions
    all_goals exact h
  split
  · exact hq.setCustody.raise
  · split
    · exact hq.makeForeign
    · split
      · exact hq.makeForeign
      · split
        · exact hq.makeForeign
        all_goals exact hq.bind

theorem Part.limited.swap {x : SlotId} {t k : Nat} : (p.swap x t k).limited b n := by
  unfold Part.swap
  extract_lets q
  have hq : q.limited b n := by
    unfold q
    split
    · exact h.strayVehicle
    · exact h.strayVehicle
    · exact h.endForeignConditions
    all_goals exact h
  exact hq.setCustody.identify.raise

theorem Part.limited.confirmHeld {x : SlotId} {t u : Nat} {m : Minute} {o : ReadOutcome} :
    (p.confirmHeld x t u m o).limited b n := by
  unfold Part.confirmHeld
  split
  · exact h.setCustody.raise
  · split
    · exact h.setCustody
    · exact h.swap

theorem Part.limited.confirmForeign {x : SlotId} {t : Nat} {q : ForeignReason} {m : Minute} {c : Bool}
    {o : ReadOutcome} : (p.confirmForeign x t q m c o).limited b n := by
  unfold Part.confirmForeign
  split
  · split
    · exact h.identify
    · exact h
  · split
    · exact h.swap
    · split
      · exact h.identify
      · split
        · exact h.identify
        · exact h

theorem Part.limited.verify {x : SlotId} {r : Release} {t u : Nat} {m : Minute} {k : VehicleKind} {o : ReadOutcome}
    (hr : p.verifyingOn x = some r) : (p.verify x r t u m k o).limited b n := by
  have hv := List.find?_some hr
  rw [Bool.and_eq_true] at hv
  unfold Part.verify
  split
  · exact h.setCustody.raise.endRelease
  · split
    · exact h.setCustody.openRelease (List.mem_of_find?_eq_some hr) hv.1
    · exact h.endRelease.swap

theorem Part.limited.readOutcome {x : SlotId} {c : Bool} {o : ReadOutcome} : (p.readOutcome x c o).limited b n := by
  unfold Part.readOutcome
  extract_lets q
  have hq : q.limited b n := by
    unfold q
    split
    · exact h.endCondition
    · exact h
  split
  · exact hq
  · exact hq.identify
  · exact hq.confirmHeld
  · exact hq.confirmForeign
  · split
    · exact hq
    · exact hq.verify ‹_›

theorem Part.limited.updSlot {x : SlotId} {f : Slot → Slot} : (p.updSlot x f).limited b n := h.updColumn

theorem Part.limited.latchFault {x : SlotId} : (p.latchFault x).limited b n := by
  unfold Part.latchFault Part.cancelReads
  exact h.updSlot.updColumn.raise.endAll

/-! ## Reconciliation and settling -/

theorem Part.limited.compareReturned {x : SlotId} : (p.compareReturned x).limited b n := by
  have hs := Part.limited_compareStable b n x
  unfold Part.compareReturned Part.placeRead
  split
  case h_1 => exact h
  case h_2 => exact h.arrival
  case h_3 | h_4 | h_5 => exact h.updColumn
  case h_6 => exact hs.foundGone h _
  case h_7 | h_8 => exact hs.foundEmpty h
  case h_9 => exact h

theorem Part.limited.enterReconciling {c : ColId} : (p.enterReconciling c).limited b n :=
  Part.enterReconciling_keeps (fun i => Part.limited_compareStable b n ⟨c, i⟩) h.updColumn

theorem Part.limited.runColumn {c : ColId} : (p.runColumn c).limited b n := by
  have hr : (p.updColumn c fun col => { col with engine := .running }).limited b n := h.updColumn
  have ha : ((p.updColumn c fun col => { col with engine := .running }).followAudit c).limited b n := hr.of_same
  exact ha.endCondition

theorem Part.limited.settle : p.settle.limited b n :=
  Part.settle_induct (fun _ _ hq _ => hq.runColumn) (fun _ _ hq hw => hq.selectOne hw) (fun _ _ hq => hq.of_same)
    (fun _ hq => hq.decideDrives) h

theorem Part.limited.loseColumn {c : ColId} : (p.loseColumn c).limited b n := by
  unfold Part.loseColumn
  exact h.updColumn.endAll.raise

end custody

/-! ## Mode changes -/

/-- Of the latest release so far and one accepted after it, the one whose moment is later, the second among equals
(R76). -/
def latest (moment : Release → Option Ms) (best : Option (Ms × Release)) (r : Release) : Option (Ms × Release) :=
  match moment r with
  | none => best
  | some t => match best with
    | some (u, a) => if u ≤ t then some (t, r) else some (u, a)
    | none => some (t, r)

/-- The moment at which a VERIFYING release was selected. -/
def Release.selectedAt (r : Release) : Option Ms :=
  match r.phase with
  | .verifying t => some t
  | .waiting => none
  | .opened _ _ _ _ => none

/-- The moment at which the latch of an OPEN release was struck. -/
def Release.struckAt (r : Release) : Option Ms :=
  match r.phase with
  | .opened _ t _ _ => some t
  | .waiting => none
  | .verifying _ => none

theorem Part.latestVerifying_eq (p : Part) :
    p.latestVerifying = (p.sched.queue.foldl (latest Release.selectedAt) none).map (·.2) := by
  unfold Part.latestVerifying
  congr
  funext best r
  unfold latest Release.selectedAt
  cases r.phase <;> rfl

theorem Part.latestStruck_eq (p : Part) :
    p.latestStruck = (p.sched.queue.foldl (latest Release.struckAt) none).map (·.2) := by
  unfold Part.latestStruck
  congr
  funext best r
  unfold latest Release.struckAt
  cases r.phase <;> rfl

/-- The latest release is one of those that were looked at. -/
theorem foldl_latest_mem {moment : Release → Option Ms} {l : List Release} {t : Ms} {r : Release}
    (h : l.foldl (latest moment) none = some (t, r)) : r ∈ l := by
  have key : ∀ x : Ms × Release, l.foldl (latest moment) none = some x → x.2 ∈ l := by
    refine List.foldlRecOn (motive := fun best => ∀ x : Ms × Release, best = some x → x.2 ∈ l) l _
      (fun _ h => nomatch h) fun best ih r hr x hx => ?_
    unfold latest at hx
    split at hx
    · exact ih x hx
    · split at hx
      · split at hx
        · obtain rfl := Option.some.inj hx
          exact hr
        · exact ih x hx
      · obtain rfl := Option.some.inj hx
        exact hr
  exact key _ h

/-- Where no latest release is found, none has a moment. -/
theorem foldl_latest_eq_none {moment : Release → Option Ms} {l : List Release} {best : Option (Ms × Release)}
    (h : l.foldl (latest moment) best = none) : best = none ∧ ∀ r ∈ l, moment r = none := by
  induction l generalizing best with
  | nil => exact ⟨h, by simp⟩
  | cons r l ih =>
    obtain ⟨hb, hl⟩ := ih h
    unfold latest at hb
    split at hb
    next hr => exact ⟨hb, List.forall_mem_cons.mpr ⟨hr, hl⟩⟩
    next =>
      split at hb
      · split at hb <;> cases hb
      · cases hb

/-- The release that a smaller hold limit ends next is a live request. -/
theorem Part.shedNext_mem {p : Part} {r : Release} (h : p.latestVerifying.or p.latestStruck = some r) :
    r ∈ p.sched.queue := by
  rw [Part.latestVerifying_eq, Part.latestStruck_eq, Option.or_eq_some_iff] at h
  rcases h with h | ⟨-, h⟩
  all_goals
    obtain ⟨⟨t, r⟩, hf, rfl⟩ := Option.map_eq_some_iff.mp h
    exact foldl_latest_mem hf

/-- Where a hold limit finds no release to end, none is in flight (R76). -/
theorem Part.inFlight_of_shedNext {p : Part} (h : p.latestVerifying.or p.latestStruck = none) :
    p.sched.queue.countP Release.inFlight = 0 := by
  rw [Part.latestVerifying_eq, Part.latestStruck_eq, Option.or_eq_none_iff, Option.map_eq_none_iff,
    Option.map_eq_none_iff] at h
  rw [List.countP_eq_zero]
  intro r hr hf
  have hv := (foldl_latest_eq_none h.1).2 r hr
  have ho := (foldl_latest_eq_none h.2).2 r hr
  unfold Release.selectedAt at hv
  unfold Release.struckAt at ho
  unfold Release.inFlight at hf
  cases hp : r.phase <;> simp_all

theorem Part.queue_length_eq (p : Part) : p.sched.queue.length = p.requests.length := by simp [Part.requests]

/-- An ending leaves one live request less. -/
theorem Part.endRelease_length_lt {p : Part} {r : Release} (hr : r ∈ p.sched.queue) (o : ReleaseOutcome) :
    (p.endRelease r o).sched.queue.length < p.sched.queue.length := by
  rw [Part.queue_length_eq, Part.queue_length_eq, Part.endRelease_requests]
  exact List.length_filter_lt_length_iff_exists.mpr ⟨r.bare, Part.mem_requests_of_queue hr, by simp [Release.bare]⟩

theorem Part.limited.of_flight {b : Prop} {n : Nat} {p : Part} (h : p.limited b n)
    (hf : p.sched.queue.countP Release.inFlight ≤ p.supply.mode.holdLimit) : p.limited b 0 :=
  ⟨h.capacities, h.queue, by simpa using hf, h.chute⟩

/-- Releases end until the hold limit is kept (R76). -/
theorem Part.limited.shed {b : Prop} {n fuel : Nat} {p : Part} (h : p.limited b n) (hl : p.sched.queue.length ≤ fuel) :
    (shed fuel p).limited b 0 := by
  induction fuel generalizing p with
  | zero =>
    obtain hq := List.length_eq_zero_iff.mp (Nat.le_zero.mp hl)
    exact h.of_flight (by simp [hq])
  | succ fuel ih =>
    unfold Machine.shed
    split
    next hf => exact h.of_flight (Scheduler.inFlight_eq _ ▸ hf)
    next =>
      split
      next hn => exact h.of_flight (by rw [Part.inFlight_of_shedNext hn]; exact Nat.zero_le _)
      next r hr =>
        have hlt := Part.endRelease_length_lt (Part.shedNext_mem hr) .power
        exact ih h.endRelease (by omega)

theorem Part.limited.shedReleases {b : Prop} {n : Nat} {p : Part} (h : p.limited b n) :
    p.shedReleases.limited b 0 := by
  unfold Part.shedReleases
  extract_lets q
  have hq : q.limited b n := by
    unfold q
    split
    · exact h.endAll
    · exact h
  exact (hq.shed le_rfl).selection

section supply

variable {b : Prop} {n : Nat} {p : Part}

theorem Part.limited.supplyAlarms (h : p.limited b n) {old new : Mode} : (p.supplyAlarms old new).limited b n := by
  unfold Part.supplyAlarms
  extract_lets q
  have hq : q.limited b n := by
    unfold q
    split
    · exact h.endCondition
    · exact h
  split
  · exact hq.endCondition
  · split
    · exact hq.raise
    · exact hq
  · exact hq.raise

/-- A mode change keeps the limits: what is in flight at its beginning is shed to the hold limit of the new mode (R76,
R151). -/
theorem Part.limited.changeMode (h : p.limited b 0) {m : Mode} : (p.changeMode m).limited b 0 := by
  have hm : ({ p with supply := { p.supply with mode := m } } : Part).limited b
      (p.sched.queue.countP Release.inFlight) := ⟨h.capacities, h.queue, Nat.le_max_left .., h.chute⟩
  have ha : ({ p with supply := { p.supply with mode := m } } : Part).markCharges.followAudits.limited b
      (p.sched.queue.countP Release.inFlight) :=
    hm.of_same (hq := by rw [(Part.followAudits_frame _).2.2.1]; rfl)
      (he := by rw [(Part.followAudits_frame _).2.2.1]; exact le_rfl)
  exact ha.notice.setFlags.supplyAlarms.shedReleases

/-! ## The stop and start-up -/

/-- A chute whose log is within its bounds and whose drop is not being read. -/
theorem Part.chuteWithin.of_noDrop {q : Part} (h : p.chuteWithin) (hl : q.chute.log = p.chute.log)
    (hd : q.chute.drop = none) : q.chuteWithin := by
  obtain ⟨h1, h2, -⟩ := h
  refine ⟨hl ▸ h1, hl ▸ h2, fun d x hdrop => ?_⟩
  rw [hd] at hdrop
  cases hdrop

theorem Part.limited.halt (h : p.limited b n) : p.halt.limited b n := by
  unfold Part.halt
  rw [Part.mapColumns_eq]
  obtain ⟨h1, h2, h3, h4, h5, h6, h7⟩ := h.capacities
  refine Part.limited.decideDrives ⟨⟨h1, h2, h3, h4, h5, h6, h7⟩, h.queue, h.flight, fun hb => ?_⟩
  exact (h.chute hb).of_noDrop rfl rfl

/-- Start-up begins with an empty queue, no notice and no drop, whatever the mode of its first decision (R153, R154). -/
theorem Part.limited.volatileStart (h : p.limited b n) {cause : Cause} {i : StartInputs} :
    (p.volatileStart cause i).limited b 0 := by
  obtain ⟨h1, h2, h3, -, -, h6, -⟩ := h.capacities
  unfold Part.volatileStart
  rw [Part.mapColumns_eq]
  refine ⟨⟨h1, h2, h3, Nat.zero_le _, Nat.zero_le _, h6, Nat.zero_le _⟩, queueOrderly_nil, Nat.zero_le _, fun hb => ?_⟩
  exact (h.chute hb).of_noDrop rfl rfl

theorem Part.limited.probePort (h : p.limited b n) {i : StartInputs} {c : ColId} : (p.probePort i c).limited b n := by
  unfold Part.probePort
  split
  · exact h.updColumn
  · split
    · exact h.updColumn.raise
    · exact h.updColumn

theorem Part.limited.clockStopped (h : p.limited b n) {c : Bool} : (p.clockStopped c).limited b n := by
  unfold Part.clockStopped
  split
  · exact h.setLate
  · exact h

theorem Part.limited.clockCheck (h : p.limited b n) {c : Bool} : (p.clockCheck c).limited b n := by
  unfold Part.clockCheck
  dsimp only
  split
  · split
    · exact h.setLate
    · exact h.setLate.raise
  · exact h

theorem Part.limited.supplyAlarmsAtStart (h : p.limited b n) : p.supplyAlarmsAtStart.limited b n := by
  unfold Part.supplyAlarmsAtStart
  extract_lets q
  have hq : q.limited b n := by
    unfold q
    split
    · exact h.endCondition
    · exact h.raise
  split
  · exact hq.raise
  · exact hq.endCondition

theorem Part.limited.examinePending (h : p.limited b n) {c : Contract} : (p.examinePending c).limited b n := by
  unfold Part.examinePending
  dsimp only
  split
  · exact h
  · split
    · exact h
    · exact (Part.limited_compareStable b n ⟨0, 0⟩).count _ _ h.deleteContract.notice

theorem Part.limited.prepareTables (h : p.limited b n) : p.prepareTables.limited b n := by
  unfold Part.prepareTables
  refine Part.limited.foldl ?_ fun _ _ hq => hq.examinePending
  exact h.of_same

theorem Part.limited.startUp (h : p.limited b n) {cause : Cause} {i : StartInputs} {c : Bool} :
    (p.startUp cause i c).limited b 0 := by
  have h1 := (h.volatileStart (cause := cause) (i := i)).clockStopped (c := c)
  have h2 := h1.foldl (f := Part.probePort i) (l := allCols) fun _ _ hq => hq.probePort
  have h3 := (h2.clockCheck (c := c)).supplyAlarmsAtStart.prepareTables
  exact (h3.foldl (f := Part.enterReconciling) fun _ _ hq => hq.enterReconciling).settle

/-- FACTORY CLEAR empties the tables, the alarm list and the chute log (R161). -/
theorem Part.limited.factoryRecords (h : p.limited b n) : p.factoryRecords.limited b n := by
  obtain ⟨-, -, -, h4, h5, -, h7⟩ := h.capacities
  unfold Part.factoryRecords
  rw [Part.mapColumns_eq]
  refine ⟨⟨Nat.zero_le _, Nat.zero_le _, Nat.zero_le _, h4, h5, Nat.zero_le _, h7⟩, h.queue, h.flight, fun _ => ?_⟩
  exact ⟨Nat.zero_le _, Nat.zero_le _, fun _ _ _ _ => ⟨Nat.succ_pos _, Nat.succ_pos _⟩⟩

/-- Neither bound of the chute is reached (R110). -/
theorem Chute.bounded_eq_false_iff {c : Chute} :
    c.bounded = false ↔ c.log.length < 96 ∧ (c.log.filter fun e => e.place == .inChute).length < 64 := by
  rw [Chute.bounded, decide_eq_false_iff_not, not_or, not_le, not_le]
  rfl

/-- The chute check records a fob in the pocket that no entry names, where neither bound is reached (R115). -/
theorem Part.limited.chuteCheck (h : p.limited b n) (hb : b → ¬ p.unrecordedAtBound) (hs : p.inStartUp = true)
    {l : List (List Byte)} : (p.chuteCheck l).limited b n := by
  unfold Part.chuteCheck
  dsimp only
  refine Part.limited.checkFlap ?_
  split
  · exact h.of_same
  next hfob =>
    split
    · exact h.of_same
    next hrec =>
      refine h.handleDrop fun hx => ?_
      have hbound : p.chute.bounded = false := by
        by_contra hne
        refine hb hx ⟨hs, by simpa using hne, by simpa using hfob, fun e he hp => hrec ?_⟩
        rw [hp]
        simpa using ⟨e, he, rfl⟩
      exact Chute.bounded_eq_false_iff.mp hbound

theorem Part.limited.completeStart (h : p.limited b n) (hb : b → ¬ p.unrecordedAtBound) (hs : p.inStartUp = true)
    {cause : Cause} {l : List (List Byte)} : (p.completeStart cause l).limited b n := by
  unfold Part.completeStart
  have hc := (h.chuteCheck hb hs (l := l)).notice (w := .reconciled cause (p.chuteCheck l).supply.mode
    (p.chuteCheck l).late.clock (p.chuteCheck l).fittedSet (p.chuteCheck l).lostSet
    (p.chuteCheck l).supply.settledTaken (p.chuteCheck l).supply.settledPower)
  have hf : ((p.chuteCheck l).notice (.reconciled cause (p.chuteCheck l).supply.mode
    (p.chuteCheck l).late.clock (p.chuteCheck l).fittedSet (p.chuteCheck l).lostSet
    (p.chuteCheck l).supply.settledTaken (p.chuteCheck l).supply.settledPower)).flagReconciled.limited b n := hc.setFlags
  exact hf.of_same

end supply

/-- A vehicle request that no row refuses finds room in the queue (R57). -/
theorem Part.queue_of_vehicleRows {p : Part} {v : Vehicle} {second reserved : Bool}
    (hr : firstRefusal (p.vehicleRows v second reserved) = none) : p.sched.queue.length < 16 := by
  simpa [Part.queueRow, Config.queueCapacity] using firstRefusal_eq_none.mp hr p.queueRow (by simp [Part.vehicleRows])

/-- A STAFF_SLOT request that no row refuses finds room in the queue (R57). -/
theorem Part.queue_of_staffSlotRows {p : Part} {x : SlotId} (hr : firstRefusal (p.staffSlotRows x) = none) :
    p.sched.queue.length < 16 := by
  simpa [Part.queueRow, Config.queueCapacity] using firstRefusal_eq_none.mp hr p.queueRow (by simp [Part.staffSlotRows])

/-- The mark of a deadline that has passed leaves an OPEN release OPEN. -/
theorem Release.passDeadline_flight (r : Release) :
    ({ r with phase := r.phase.passDeadline } : Release).inFlight = r.inFlight ∧
    ({ r with phase := r.phase.passDeadline } : Release).isVerifying = r.isVerifying := by
  unfold Release.inFlight Release.isVerifying ReleasePhase.passDeadline
  cases r.phase <;> exact ⟨rfl, rfl⟩

section requests

variable {b : Prop} {p : Part} (h : p.limited b 0)
include h

/-! ## Lines -/

theorem Part.limited.setHoldUntil {o : Option Ms} :
    ({ p with lines := { p.lines with holdUntil := o } } : Part).limited b 0 := h.of_same

theorem Part.limited.setSupply {u : Supply} (hm : u.mode = p.supply.mode := by rfl) :
    ({ p with supply := u } : Part).limited b 0 := h.of_same (hm := hm)

theorem Part.limited.updLine {l : Line} {f : LineState → LineState} : (p.updLine l f).limited b 0 := h.of_same

theorem Part.limited.restartHold {l : Line} : (p.restartHold l).limited b 0 := by
  unfold Part.restartHold
  split
  · exact h.of_same
  · exact h
  · exact h

theorem Part.limited.hear {l : Line} : (p.hear l).limited b 0 := by
  unfold Part.hear Part.hunt
  exact h.updLine.restartHold

theorem Part.limited.reply {l : Line} {r : SentReply} : (p.reply l r).limited b 0 := by
  unfold Part.reply Part.choiceMade
  exact h.of_same

/-- A request keeps the limits where its body does. -/
theorem Part.limited.request {k : KindRow} {c : Instr} {d : ReqHdr} {body : Part → Part × Reply}
    (hb : ∀ q : Part, q.limited b 0 → (body q).1.limited b 0) : (p.request k c d body).limited b 0 := by
  unfold Part.request
  split
  · exact h
  · split
    · unfold Part.broadcast Part.hunt
      dsimp only
      split
      · exact h.updLine
      · split
        · exact h.updLine.setFlags
        · exact hb _ h.updLine
    · unfold Part.unicast Part.buffered
      dsimp only
      split
      · exact h.hear.setFlags
      · refine Part.limited.reply ?_
        unfold Part.dispatch
        split
        · dsimp only
          exact h.hear.updLine
        · split
          · dsimp only
            exact h.hear.updLine
          · exact hb _ h.hear.updLine

/-- A checked request keeps the limits where its effect does when no row refuses it. -/
theorem Part.limited.checked {rows : List (Bool × Reply)} {effect : Part → Part × Reply}
    (he : firstRefusal rows = none → (effect p).1.limited b 0) : (p.checked rows effect).1.limited b 0 := by
  rcases p.checked_cases rows effect with ⟨r, -, e⟩ | ⟨hr, e⟩
  · rw [e]; exact h
  · rw [e]; exact he hr

theorem Part.limited.withVehicle {u : BitVec 24} {effect : Vehicle → Part × Reply}
    (he : ∀ v, p.findUnit u.toNat = some v → (effect v).1.limited b 0) : (p.withVehicle u effect).1.limited b 0 := by
  unfold Part.withVehicle
  split
  · exact h
  · exact he _ ‹_›

theorem Part.limited.withContract {n : BitVec 32} {effect : Contract → Part × Reply}
    (he : ∀ c, (effect c).1.limited b 0) : (p.withContract n effect).1.limited b 0 := by
  unfold Part.withContract
  split
  · exact h
  · exact he _

/-! ## Requests on the clock, the settings and the fleet table -/

theorem Part.limited.setClock {m : BitVec 32} : (p.setClock m).limited b 0 := by
  unfold Part.setClock
  exact Part.limited.setLate (Part.limited.endCondition h.setLate)

theorem Part.limited.followAudits : p.followAudits.limited b 0 := h.of_same

theorem Part.limited.markAged : p.markAged.limited b 0 :=
  h.mapQueue fun _ => ⟨rfl, rfl, rfl, rfl, rfl, rfl⟩

theorem Part.limited.updRelease {m : Nat} {f : Release → Release} (hf : ∀ r, (f r).number = r.number ∧
    (f r).target = r.target ∧ (f r).slot = r.slot ∧ (f r).cls = r.cls ∧ (f r).inFlight = r.inFlight ∧
    (f r).isVerifying = r.isVerifying) : (p.updRelease m f).limited b 0 :=
  h.mapQueue fun r => by
    split
    · exact hf r
    · exact ⟨rfl, rfl, rfl, rfl, rfl, rfl⟩

theorem Part.limited.configure {st : Settings} : (p.configure st).limited b 0 := by
  have hp (l : Lateness) : ({ p with late := l } : Part).followAudits.limited b 0 :=
    Part.limited.followAudits h.setLate
  unfold Part.configure
  dsimp only
  split
  · exact hp _
  · exact (hp _).markAged.selection

/-- A vehicle joins the fleet table where it has room for it (R40). -/
theorem Part.limited.addVehicle {v : Vehicle} (hl : p.fleet.length < 512) :
    ({ p with fleet := p.fleet ++ [v] } : Part).limited b 0 := by
  obtain ⟨⟨-, h2⟩, hq, hf, hx⟩ := h
  exact ⟨⟨by simpa using hl, h2⟩, hq, hf, hx⟩

theorem Part.limited.makeConflict {t n : Nat} : (p.makeConflict t n).limited b 0 :=
  have he : (p.updEntry n fun e => { e with kind := .conflict t }).limited b 0 := h.updEntry fun _ => rfl
  he.raise

theorem Part.limited.makeDuplicate {x : SlotId} : (p.makeDuplicate x).limited b 0 :=
  h.setCustody.endCondition.raise

theorem Part.limited.adoptSlot {u t : Nat} {x : SlotId} {l : List SlotId} :
    (p.adoptSlot u t x l).limited b 0 := by
  unfold Part.adoptSlot
  have h1 := (h.setCustody (x := x) (k := (p.custody x).adopted u)).setStatus (u := u) (st := .inSlot x)
  have h2 := (h1.endCondition (k := .fobUnknown) (x := .slot x)).foldl (f := Part.makeDuplicate) (l := l)
    fun _ _ h => h.makeDuplicate
  exact (h2.foldl fun _ _ h => h.makeConflict).decideFlap.endAll

theorem Part.limited.adoptEntry {u t n : Nat} {l : List Nat} : (p.adoptEntry u t n l).limited b 0 := by
  unfold Part.adoptEntry
  have he : (p.updEntry n fun e => { e with kind := .named t u }).limited b 0 := h.updEntry fun _ => rfl
  exact (he.setStatus.foldl fun _ _ h => h.makeConflict).decideFlap

theorem Part.limited.enrol {u t : Nat} {home : Option SlotId}
    (hr : firstRefusal (p.enrolRows u t home) = none) : (p.enrol u t home).limited b 0 := by
  have hl : p.fleet.length < 512 := by
    simpa [Config.fleetCapacity] using firstRefusal_eq_none.mp hr
      (decide (Config.fleetCapacity ≤ p.fleet.length), .tableFull) (by simp [Part.enrolRows])
  unfold Part.enrol
  dsimp only
  split
  · exact (h.addVehicle hl).adoptSlot
  · split
    · exact (h.addVehicle hl).adoptEntry
    · exact h.addVehicle hl

theorem Part.limited.filterFleet {f : Vehicle → Bool} :
    ({ p with fleet := p.fleet.filter f } : Part).limited b 0 :=
  h.of_same (hf := List.length_filter_le ..)

theorem Part.limited.retire {v : Vehicle} : (p.retire v).limited b 0 := by
  have hp : (match v.slot with
      | some s => p.setCustody s (p.custody s).retired
      | none => p).limited b 0 := by
    split
    · exact h.setCustody
    · exact h
  unfold Part.retire
  dsimp only
  exact hp.filterFleet

end requests

/-! ## Contracts, releases and the staff -/

section requests

variable {b : Prop} {p : Part} (h : p.limited b 0)
include h

/-- A contract joins the table where it has room for it (R80). -/
theorem Part.limited.addContract {c : Contract} (hl : p.book.contracts.length < 384) :
    ({ p with book := { p.book with contracts := p.book.contracts ++ [c] } } : Part).limited b 0 := by
  obtain ⟨⟨h1, -, h3⟩, hq, hf, hx⟩ := h
  exact ⟨⟨h1, by simpa using hl, h3⟩, hq, hf, hx⟩

theorem Part.limited.acceptVehicle {v : Vehicle} {t : Target} {c : ReleaseClass} {o : Line}
    (hl : p.sched.queue.length < 16) (ht : t ≠ .staffSlot) : (p.acceptVehicle v t c o).1.limited b 0 := by
  unfold Part.acceptVehicle
  split
  · exact h.accept hl fun e => absurd e ht
  · exact h

theorem Part.limited.openContract {v : Vehicle} {t : Terms} {o : Line} (hc : p.book.contracts.length < 384)
    (hl : p.sched.queue.length < 16) : (p.openContract v t o).1.limited b 0 := by
  have hp := h.addContract (c := t.record v.unit p.minute) hc
  have ha := hp.acceptVehicle (v := v) (t := .contract v.unit t.number) (c := t.cls.releaseClass) (o := o) hl nofun
  exact ha.updContract.updVehicle.selection

theorem Part.limited.submitVehicle {u : BitVec 24} {t : Target} {c : ReleaseClass} {o : Line} {r : Bool}
    (ht : t ≠ .staffSlot) : (p.submitVehicle u t c o r).1.limited b 0 := by
  unfold Part.submitVehicle
  split
  · exact h
  · exact h.checked fun hr => (h.acceptVehicle (Part.queue_of_vehicleRows hr) ht).selection.settle

theorem Part.limited.submitSlot {x : BitVec 16} {o : Line} : (p.submitSlot x o).1.limited b 0 := by
  unfold Part.submitSlot
  split
  · exact h
  · exact h.checked fun hr => (h.accept (Part.queue_of_staffSlotRows hr) fun _ => rfl).selection.settle

theorem Part.limited.cancelRelease {n : Nat} : (p.cancelRelease n).1.limited b 0 := by
  unfold Part.cancelRelease
  split
  · exact h.endRelease.settle
  · split <;> exact h

theorem Part.limited.extend {m : Nat} {due : Minute} : (p.extend m due).limited b 0 := by
  unfold Part.extend
  exact Part.limited.examine h.updContract

theorem Part.limited.closeByHand {c : Contract} {r : ManualReason} : (p.closeByHand c r).limited b 0 :=
  h.closeContract.setStatus

theorem Part.limited.holdVehicle {u : Nat} : (p.holdVehicle u).limited b 0 := by
  unfold Part.holdVehicle
  refine Part.limited.foldl h.updVehicle fun q r hq => ?_
  unfold Part.endHeld
  split
  · exact hq
  · exact hq.endRelease

theorem Part.limited.unholdVehicle {u : Nat} : (p.unholdVehicle u).limited b 0 := by
  unfold Part.unholdVehicle
  exact Part.limited.selection h.updVehicle

theorem Part.limited.account {v : Vehicle} : (p.account v).limited b 0 := by
  unfold Part.account
  dsimp only
  split
  · exact h.setStatus.endCondition
  · exact h.setStatus

theorem Part.limited.locate {x : Option SlotId} : (p.locate x).1.limited b 0 := by
  unfold Part.locate
  split
  · exact h
  · dsimp only
    exact h.updEngine

theorem Part.limited.takeOutOfService {x : SlotId} : (p.takeOutOfService x).limited b 0 := by
  unfold Part.takeOutOfService
  split
  · exact h
  · unfold Part.cancelReads
    exact h.updSlot.updColumn

theorem Part.limited.returnToService {x : SlotId} : (p.returnToService x).limited b 0 := by
  have hr : (p.updSlot x (Slot.returned p.uptime)).limited b 0 := h.updSlot
  unfold Part.returnToService
  dsimp only
  split
  · exact hr.endCondition.compareReturned.selection
  · exact hr.compareReturned.selection

theorem Part.limited.slotService {x : SlotId} {o : Bool} : (p.slotService x o).1.limited b 0 := by
  unfold Part.slotService
  split
  · split
    · exact h.checked fun _ => h.returnToService.settle
    · exact h
  · exact h.checked fun _ => h.takeOutOfService.settle

theorem Part.limited.slotServiceBody {d : ReqHdr} {x : BitVec 16} {m : Byte} :
    (slotServiceBody d x m p).1.limited b 0 := by
  unfold Machine.slotServiceBody
  refine h.checked fun _ => ?_
  split
  · exact h
  · exact h.slotService

theorem Part.limited.ackBody {d : ReqHdr} {n : BitVec 16} {m : Byte} : (ackBody d n m p).1.limited b 0 := by
  unfold Machine.ackBody
  refine h.checked fun _ => ?_
  split
  · exact (Part.limited.foldl h fun _ _ h => h.ackAlarm).decideDrives
  · unfold Part.acknowledge
    split
    · exact h
    · exact h.ackAlarm.decideDrives

theorem Part.limited.endHold : p.endHold.limited b 0 := by
  unfold Part.endHold
  split
  · exact h
  · exact Part.limited.selection h.setHoldUntil

theorem Part.limited.serviceHoldBody {m : Byte} : (serviceHoldBody m p).1.limited b 0 := by
  unfold Machine.serviceHoldBody
  refine h.checked fun _ => ?_
  split
  · exact h.setHoldUntil
  · exact h.endHold.settle

/-! ## Events -/

theorem Part.limited.elapse {dt : Ms} : (p.elapse dt).limited b 0 := by
  unfold Part.elapse
  dsimp only
  split <;> exact h.of_same

theorem Part.limited.setDrive {t : Ms} {on : Bool} : (p.setDrive t on).limited b 0 :=
  h.setChute fun hx => (h.chute hx).of_log le_rfl le_rfl rfl

theorem Part.limited.pocketFilled : p.pocketFilled.limited b 0 :=
  h.setChute fun hx => (h.chute hx).of_log le_rfl le_rfl rfl

theorem Part.limited.pocketEmptied : ({ p with chute := p.chute.emptied } : Part).limited b 0 :=
  h.setChute fun hx => by
    unfold Chute.emptied
    split
    · exact (h.chute hx).of_noDrop rfl rfl
    · exact (h.chute hx).of_log le_rfl le_rfl rfl

/-- A drop begins where the flap passes a fob, and that is where neither bound is reached (R104, R106, R110). -/
theorem Part.limited.beginDrop (hf : b → p.flapFollows) (ho : (p.isReady && p.chute.open) = true) :
    p.beginDrop.limited b 0 := by
  refine h.setChute fun hx => ?_
  have hb : p.chute.bounded = false := by
    have hl := (hf hx).1
    simp_all [Chute.open]
  obtain ⟨h1, h2⟩ := Chute.bounded_eq_false_iff.mp hb
  exact ⟨h1.le, h2.le, fun _ _ _ _ => ⟨h1, h2⟩⟩

theorem Part.limited.contactSeen {x : SlotId} {o : Bool} : (p.contactSeen x o).limited b 0 := by
  unfold Part.contactSeen
  dsimp only
  split
  · exact h.updEngine
  · split
    · split
      · exact h.updEngine.updEngine.endRelease.settle
      · exact h.updEngine.updEngine
    · exact h.updEngine.updEngine

theorem Part.limited.senseSeen {x : SlotId} {o : Bool} : (p.senseSeen x o).limited b 0 := by
  unfold Part.senseSeen
  dsimp only
  split
  · exact h.updEngine
  · split
    · exact h.updEngine.updEngine.selection.settle
    · exact h.updEngine.updEngine

theorem Part.limited.qualify {x : SlotId} : ∀ q ∈ p.qualify x, q.limited b 0 := by
  unfold Part.qualify
  split
  · dsimp only
    simp only [Option.mem_def, Option.some.injEq, forall_eq']
    split
    · exact h.advanceTo.updEngine.removal
    · exact h.advanceTo.updEngine.arrival
  · simp

theorem Part.limited.probe {c : ColId} {o : Bool} : ∀ q ∈ p.probe c o, q.limited b 0 := by
  unfold Part.probe
  split
  · dsimp only
    simp only [Option.mem_def, Option.some.injEq, forall_eq']
    split
    · exact h.advanceTo.enterReconciling
    · exact h.advanceTo.updColumn
  · simp

theorem Part.limited.attemptOver {t : Ms} {l : List Byte} : (p.attemptOver t l).limited b 0 := by
  unfold Part.attemptOver
  split
  · exact h.advanceTo
  · exact h

theorem Part.limited.endRead {c : ColId} {rd : Read} {o : ReadOutcome} : (p.endRead c rd o).limited b 0 := by
  unfold Part.endRead
  have hr : (p.updColumn c fun col => { col with reader := none }).limited b 0 := h.updColumn
  exact Part.limited.updColumn hr.readOutcome

theorem Part.limited.attemptEnd {c : ColId} {l : List Byte} : ∀ q ∈ p.attemptEnd c l, q.limited b 0 := by
  unfold Part.attemptEnd
  split
  · simp
  · dsimp only
    simp only [Option.mem_def, Option.some.injEq, forall_eq']
    split
    · exact h.attemptOver.endRead
    · split
      · exact h.attemptOver.updColumn
      · exact h.attemptOver.endRead

theorem Part.limited.tick {c : ColId} : ∀ q ∈ p.tick c, q.limited b 0 := by
  unfold Part.tick
  split
  · simp
  next t _ =>
    simp only [Option.mem_def, Option.some.injEq, forall_eq']
    have ht : ((p.advanceTo t).updColumn c fun col =>
        { col with auditNext := some (t + Config.auditPeriod) }).limited b 0 := h.advanceTo.updColumn
    unfold Part.auditStep
    split
    · exact ht
    · exact ht.updColumn

theorem Part.limited.expireCharge : ∀ q ∈ p.expireCharge, q.limited b 0 := by
  unfold Part.expireCharge
  split
  · simp
  · simp only [Option.mem_def, Option.some.injEq, forall_eq']
    exact Part.limited.selection (h.advanceTo.of_same (hq := rfl) (he := le_rfl))

theorem Part.limited.age {n : Nat} : ∀ q ∈ p.age n, q.limited b 0 := by
  unfold Part.age
  split
  · simp
  · split
    · simp only [Option.mem_def, Option.some.injEq, forall_eq']
      exact Part.limited.selection (h.advanceTo.updRelease fun _ => ⟨rfl, rfl, rfl, rfl, rfl, rfl⟩)
    · simp

theorem Part.limited.passDeadline {n : Nat} : ∀ q ∈ p.passDeadline n, q.limited b 0 := by
  intro q hq
  simp only [Part.passDeadline, Option.mem_def, Option.bind_eq_some_iff, Option.map_eq_some_iff] at hq
  obtain ⟨r, -, t, -, rfl⟩ := hq
  split
  · exact h.advanceTo.updRelease fun r => ⟨rfl, rfl, rfl, rfl, r.passDeadline_flight⟩
  · exact h.advanceTo.endRelease

theorem Part.limited.mouthAttempt {l : List Byte} : ∀ q ∈ p.mouthAttempt l, q.limited b 0 := by
  unfold Part.mouthAttempt
  split
  next detected m since hd =>
    have ha := h.attemptOver (t := since) (l := l)
    have hb : b → (p.attemptOver since l).chute.log.length < 96 ∧
        ((p.attemptOver since l).chute.log.filter fun e => e.place == .inChute).length < 64 := fun hx => by
      simpa using (h.chute hx).2.2 _ _ hd rfl
    dsimp only
    simp only [Option.mem_def, Option.some.injEq, forall_eq']
    split
    · exact ha.handleDrop hb
    · split
      · exact ha.setChute fun hx => ⟨(ha.chute hx).1, (ha.chute hx).2.1, fun _ _ _ _ => hb hx⟩
      · exact ha.handleDrop hb
  · simp

theorem Part.limited.sweepStep : ∀ q ∈ p.sweepStep, q.limited b 0 := by
  unfold Part.sweepStep
  split
  · simp
  · simp only [Option.mem_def, Option.some.injEq, forall_eq']
    split
    · exact h.endSweep
    · split
      · exact h.endSweep
      · exact h.examine

theorem Part.limited.mainsAbsent : ∀ q ∈ p.mainsAbsent, q.limited b 0 := by
  unfold Part.mainsAbsent Part.clearMainsTiming
  split
  · dsimp only
    simp only [Option.mem_def, Option.some.injEq, forall_eq']
    split
    · exact (Part.limited.setSupply h.advanceTo).changeMode.changeMode
    · exact (Part.limited.setSupply h.advanceTo).changeMode
  · simp

theorem Part.limited.mainsPresent : ∀ q ∈ p.mainsPresent, q.limited b 0 := by
  unfold Part.mainsPresent Part.clearMainsTiming
  split
  · simp
  · simp
  · simp only [Option.mem_def, Option.some.injEq, forall_eq']
    exact (Part.limited.setSupply h.advanceTo).changeMode

theorem Part.limited.batteryQualified : ∀ q ∈ p.batteryQualified, q.limited b 0 := by
  unfold Part.batteryQualified
  split
  · simp
  · dsimp only
    simp only [Option.mem_def, Option.some.injEq, forall_eq']
    split
    · exact (Part.limited.setSupply h.advanceTo).changeMode
    · exact Part.limited.setSupply h.advanceTo

theorem Part.limited.finishStart {l : List (List Byte)} (hb : b → ¬ p.unrecordedAtBound) :
    ∀ q ∈ p.finishStart l, q.limited b 0 := by
  unfold Part.finishStart
  split
  next hp =>
    split
    · simp
    · simp only [Option.mem_def, Option.some.injEq, forall_eq']
      exact h.completeStart hb (by simp [Part.inStartUp, Part.halted, Part.isReady, hp])
  · simp
  · simp

end requests

/-! ## Every command keeps the limits -/

theorem State.limited_onPart {b : Prop} {s t : State} {f : Part → Part} (hf : (f s.part).limited b 0)
    (e : s.onPart f = .next t) :
    t.part.limited b 0 := by
  obtain rfl := Host.Outcome.next.inj e
  exact hf

theorem Part.limited.fetch {b : Prop} {p : Part} (h : p.limited b 0) : p.fetch.1.limited b 0 := by
  unfold Part.fetch
  exact Part.limited.decideDrives (h.of_same (hn := by simp))

section commands

variable {b : Prop} {s t : State} (h : s.part.limited b 0)
include h

theorem State.limited_request {k : KindRow} {c : Instr} {d : ReqHdr} {body : Part → Part × Reply}
    (hb : ∀ q : Part, q.limited b 0 → (body q).1.limited b 0) (e : State.request k c d body s = .next t) :
    t.part.limited b 0 :=
  State.limited_onPart (h.request hb) e

theorem State.limited_event {f : Part → Option Part} (hf : ∀ q ∈ f s.part, q.limited b 0)
    (e : s.event f = .next t) : t.part.limited b 0 := by
  rcases State.event_next e with ⟨-, rfl⟩ | ⟨q, hq, rfl⟩
  · exact h
  · exact hf q hq

theorem State.limited_live {f : Part → Option Part} (hf : ∀ q ∈ f s.part, q.limited b 0)
    (e : s.live f = .next t) : t.part.limited b 0 := by
  refine State.limited_event h (fun q hq => ?_) e
  split at hq
  · simp at hq
  · exact hf q hq

theorem State.limited_heard {l : Line} {f : Part → Option Part} (hf : ∀ q ∈ f s.part, q.limited b 0)
    (e : s.heard l f = .next t) : t.part.limited b 0 := by
  refine State.limited_live h (fun q hq => ?_) e
  split at hq
  · simp at hq
  · exact hf q hq

theorem State.limited_liveDecide {f : Part → Option Part} (hf : ∀ q ∈ f s.part, q.limited b 0)
    (e : s.liveDecide f = .next t) : t.part.limited b 0 := by
  refine State.limited_live h (fun q hq => ?_) e
  obtain ⟨r, hr, rfl⟩ := Option.map_eq_some_iff.mp hq
  exact (hf r hr).decideDrives

theorem State.limited_liveHandle {f : Part → Option Part} (hf : ∀ q ∈ f s.part, q.limited b 0)
    (e : s.liveHandle f = .next t) : t.part.limited b 0 := by
  unfold State.liveHandle State.handle at e
  refine State.limited_event h (fun q hq => ?_) e
  obtain ⟨r, hr, rfl⟩ := Option.map_eq_some_iff.mp hq
  dsimp only at hr
  split at hr
  · simp at hr
  · exact (hf r hr).settle

/-- The requests keep the limits. -/
theorem exec_request_limited {c : Instr} {d : ReqHdr} {kind : Byte} {body : List Byte}
    (hc : encodeRequest c = some (d, kind, body)) (e : exec c s = .next t) : t.part.limited b 0 := by
  cases c with
  | identify d => exact State.limited_request h (fun q hq => hq) e
  | status d => exact State.limited_request h (fun q hq => hq.setFlags (f := fun _ => .clear)) e
  | fetchNotices d => exact State.limited_request h (fun q hq => hq.fetch) e
  | readSlot d first count => exact State.limited_request h (fun q hq => hq.checked fun _ => hq) e
  | readVehicle d unit tagId =>
    refine State.limited_request h (fun q hq => hq.checked fun _ => ?_) e
    split <;> exact hq
  | readContract d n =>
    refine State.limited_request h (fun q hq => hq.checked fun _ => ?_) e
    split <;> exact hq
  | listDue d start => exact State.limited_request h (fun q hq => hq.checked fun _ => hq) e
  | listClosed d n => exact State.limited_request h (fun q hq => hq) e
  | listChute d start => exact State.limited_request h (fun q hq => hq.checked fun _ => hq) e
  | listAlarms d start => exact State.limited_request h (fun q hq => hq) e
  | readSettings d => exact State.limited_request h (fun q hq => hq) e
  | setClock d n =>
    exact State.limited_request h (fun q hq => hq.checked fun _ => hq.setClock.decideDrives) e
  | configure d grace prewarn t2 t3 window aging audit =>
    exact State.limited_request h (fun q hq => hq.checked fun _ =>
      hq.configure.settle) e
  | enrolVehicle d unit tagId home =>
    refine State.limited_request h (fun q hq => hq.checked fun hr => ?_) e
    refine Part.limited.settle (hq.enrol ?_)
    rw [firstRefusal_eq_none] at hr ⊢
    exact fun x hx => hr x (List.mem_append_right _ hx)
  | retireVehicle d unit =>
    exact State.limited_request h (fun q hq => hq.checked fun _ => hq.withVehicle fun v _ =>
      hq.checked fun _ => hq.retire) e
  | setHomeSlot d unit slot =>
    refine State.limited_request h (fun q hq => hq.checked fun _ => hq.withVehicle fun v _ =>
      hq.checked fun _ => hq.updVehicle) e
  | holdVehicle d unit =>
    exact State.limited_request h (fun q hq => hq.checked fun _ => hq.withVehicle fun v _ =>
      hq.holdVehicle.settle) e
  | unholdVehicle d unit =>
    exact State.limited_request h (fun q hq => hq.checked fun _ => hq.withVehicle fun v _ =>
      hq.unholdVehicle.settle) e
  | accountVehicle d unit =>
    exact State.limited_request h (fun q hq => hq.checked fun _ => hq.withVehicle fun v _ =>
      hq.checked fun _ => hq.account.decideDrives) e
  | locate d unit slot =>
    refine State.limited_request h (fun q hq => hq.checked fun _ => ?_) e
    split
    · exact hq.locate
    · exact hq.withVehicle fun v _ => hq.locate
  | openContract d n unit cls due hourRate dayRate grace =>
    refine State.limited_request h (fun q hq => hq.checked fun hr => ?_) e
    split
    · exact hq
    · refine hq.checked fun hv => Part.limited.settle (hq.openContract ?_ (Part.queue_of_vehicleRows hv))
      simpa [Config.contractCapacity] using firstRefusal_eq_none.mp hr
        (decide (Config.contractCapacity ≤ q.book.contracts.length), .tableFull) (by simp [Part.openRows])
  | extendContract d n due =>
    exact State.limited_request h (fun q hq => hq.checked fun _ => hq.withContract fun c =>
      hq.checked fun _ => hq.extend.decideDrives) e
  | closeContract d n reason =>
    exact State.limited_request h (fun q hq => hq.checked fun _ => hq.withContract fun c =>
      hq.checked fun _ => hq.closeByHand.decideDrives) e
  | release d kind unit slot =>
    refine State.limited_request h (fun q hq => hq.checked fun _ => ?_) e
    split
    · exact hq.submitVehicle nofun
    · exact hq.submitVehicle nofun
    · exact hq.submitSlot
    · exact hq
  | cancelRelease d n =>
    exact State.limited_request h (fun q hq => hq.checked fun _ => hq.cancelRelease) e
  | slotServiceOff d slot setting => exact State.limited_request h (fun q hq => hq.slotServiceBody) e
  | slotServiceOn d slot => exact State.limited_request h (fun q hq => hq.slotServiceBody) e
  | chuteEmptied d =>
    exact State.limited_request h (fun q hq => hq.checked fun _ => hq.emptyChute.decideDrives) e
  | ackAlarm d n mark => exact State.limited_request h (fun q hq => hq.ackBody) e
  | ackAlarmAll d n => exact State.limited_request h (fun q hq => hq.ackBody) e
  | restart d i => exact State.limited_request h (fun q hq => hq.checked fun _ => hq.startUp) e
  | serviceHoldOn d => exact State.limited_request h (fun q hq => hq.serviceHoldBody) e
  | serviceHoldOff d setting => exact State.limited_request h (fun q hq => hq.serviceHoldBody) e
  | factoryClear d i =>
    exact State.limited_request h (fun q hq => hq.checked fun _ => hq.factoryRecords.startUp) e
  | _ => simp [encodeRequest] at hc

/-- Every command keeps the limits. -/
theorem exec_limited (hd : b → s.part.flapFollows) (hu : b → ¬ s.part.unrecordedAtBound) {c : Instr}
    (e : exec c s = .next t) : t.part.limited b 0 := by
  cases hc : encodeRequest c with
  | some x => exact exec_request_limited h hc e
  | none =>
  cases c with dsimp only [exec] at e
  | unknownKind d kind => exact State.limited_request h (fun q hq => hq) e
  | frameDiscarded l | frameIgnored l | frameLengthAbandoned l =>
    exact State.limited_heard h (by simpa [Part.passOver, Part.hunt] using h.updLine) e
  | frameGapTimeout l => exact State.limited_live h (by simpa [Part.passOver, Part.hunt] using h.updLine) e
  | syncByteBeginsFrame l => exact State.limited_heard h (by simpa using h.updLine) e
  | lineOverrun l =>
    refine State.limited_heard h (fun q hq => ?_) e
    split at hq
    · obtain rfl := Option.some.inj hq
      exact h.hear.setFlags
    · simp at hq
  | replySent l => exact State.limited_live h (by simpa using h.updLine) e
  | presenceContactChange x o => exact State.limited_onPart h.contactSeen e
  | candidateQualified x => exact State.limited_liveHandle h h.qualify e
  | latchSenseChange x o => exact State.limited_onPart h.senseSeen e
  | strikeConfirmTimeout x =>
    refine State.limited_liveHandle h (fun q hq => ?_) e
    split at hq
    · obtain rfl := Option.some.inj hq
      exact h.advanceTo.latchFault
    · simp at hq
  | heldOpenClosedTimeout x | uncommandedOpen x =>
    refine State.limited_liveHandle h (fun q hq => ?_) e
    split at hq
    · obtain rfl := Option.some.inj hq
      exact h.advanceTo.latchFault
    · simp at hq
  | closingConfirmTimeout x =>
    refine State.limited_liveHandle h (fun q hq => ?_) e
    split at hq
    · obtain rfl := Option.some.inj hq
      exact h.advanceTo.latchFault.selection
    · simp at hq
  | boardSilenceTimeout c =>
    refine State.limited_liveHandle h (fun q hq => ?_) e
    split at hq
    · obtain rfl := Option.some.inj hq
      exact h.loseColumn
    · simp at hq
  | columnProbe c o => exact State.limited_liveHandle h h.probe e
  | readAttemptEnd c l => exact State.limited_liveHandle h h.attemptEnd e
  | auditTick c => exact State.limited_liveHandle h h.tick e
  | strikeChargeExpiry => exact State.limited_liveHandle h h.expireCharge e
  | agingReached n => exact State.limited_liveHandle h h.age e
  | takeDeadline n => exact State.limited_liveHandle h h.passDeadline e
  | locateTimerExpiry x =>
    refine State.limited_live h (fun q hq => ?_) e
    obtain ⟨t, -, rfl⟩ := Option.map_eq_some_iff.mp hq
    exact h.advanceTo.updEngine
  | dropDetected =>
    refine State.limited_onPart ?_ e
    split
    next ho => exact h.beginDrop hd ho
    next => exact h.pocketFilled
  | chuteReadAttemptEnd l => exact State.limited_liveDecide h h.mouthAttempt e
  | pocketEmpty =>
    exact State.limited_onPart h.pocketEmptied e
  | pocketDriveTimeout =>
    refine State.limited_live h (fun q hq => ?_) e
    split at hq
    · obtain rfl := Option.some.inj hq
      exact h.advanceTo.setDrive
    · simp at hq
  | pocketRetry =>
    refine State.limited_live h (fun q hq => ?_) e
    split at hq
    · obtain rfl := Option.some.inj hq
      exact h.advanceTo.setDrive
    · simp at hq
  | minuteBoundary => exact State.limited_live h (by simpa using h.boundary) e
  | sweepExamination => exact State.limited_liveDecide h h.sweepStep e
  | mainsInputChange o => exact State.limited_onPart h.setSupply e
  | mainsAbsentQualified => exact State.limited_liveHandle h h.mainsAbsent e
  | mainsPresentQualified => exact State.limited_liveHandle h h.mainsPresent e
  | batterySenseChange mv => exact State.limited_onPart h.setSupply e
  | batteryStateQualified => exact State.limited_liveHandle h h.batteryQualified e
  | supplyStop => exact State.limited_live h (by simpa using h.halt) e
  | powerOn i c =>
    refine State.limited_event h (fun q hq => ?_) e
    split at hq
    · obtain rfl := Option.some.inj hq
      exact h.startUp
    · simp at hq
  | startupCompletion l => exact State.limited_liveDecide h (h.finishStart hu) e
  | serviceHoldTimeout =>
    refine State.limited_liveHandle h (fun q hq => ?_) e
    obtain ⟨t, -, rfl⟩ := Option.map_eq_some_iff.mp hq
    exact (Part.limited.setHoldUntil h.advanceTo).selection
  | _ => simp [encodeRequest] at hc

/-- The step on an empty queue moves the time or the queue alone. -/
theorem State.idle_limited : s.idle.part.limited b 0 := by
  unfold State.idle
  dsimp only
  split
  · dsimp only
    split
    · exact h
    · exact h.of_same
  · exact h.elapse

end commands

/-- Settles O57: what the statement calls limits is `Part.limited`, and every command keeps it. -/
theorem limitsKept : Obligations.LimitsKept := by
  intro s t hc hb e
  have h : s.part.limited (s.part.chuteWithin ∧ s.part.flapFollows ∧ ¬ s.part.unrecordedAtBound) 0 :=
    (Part.limited_zero_iff _ _).mpr ⟨hc, hb, And.left⟩
  have ht : t.part.limited (s.part.chuteWithin ∧ s.part.flapFollows ∧ ¬ s.part.unrecordedAtBound) 0 := by
    unfold step at e
    split at e
    · obtain rfl := Host.Outcome.next.inj e
      exact State.idle_limited h
    next c rest _ =>
      exact exec_limited (s := { s with pending := rest }) h (fun hx => hx.2.1) (fun hx => hx.2.2) e
  obtain ⟨htc, htb, htx⟩ := (Part.limited_zero_iff _ _).mp ht
  exact ⟨htc, htb, fun hw hf hu => htx ⟨hw, hf, hu⟩⟩

end Sys2Proof.Machine
end

section
/-! PROOFS. The timers of LOCATE and of the chute's pocket (LocateAndPocketTimers): each event against its premise. -/

namespace Sys2Proof.Machine

set_option Elab.async false

/-! ## LOCATE -/

theorem Part.slot_of_columns {p q : Part} (h : q.columns = p.columns) (x : SlotId) : q.slot x = p.slot x :=
  Part.slot_of_column (by rw [Part.column, Part.column, h])

@[simp] theorem Part.slot_advanceTo (p : Part) (t : Ms) (x : SlotId) : (p.advanceTo t).slot x = p.slot x :=
  Part.slot_of_columns (p.advanceTo_frame t).1 x

theorem exec_locateTimerExpiry {x : SlotId} {moment : Ms} {s : State} (hh : s.part.halted = false)
    (hm : (s.part.engine x).locateUntil = some moment) :
    exec (.locateTimerExpiry x) s = .next
      { s with part := (s.part.advanceTo moment).updEngine x fun e => { e with locateUntil := none } } := by
  change execLocateTimerExpiry x s = _
  unfold execLocateTimerExpiry
  exact State.live_some hh (by rw [hm]; rfl)

/-- The LOCATE timer of a slot runs out (R53). -/
theorem locateTimerExpiry_outcome (x : SlotId) (moment : Ms) (s : State) (hh : s.part.halted = false)
    (hm : (s.part.engine x).locateUntil = some moment) : ∃ t,
    exec (.locateTimerExpiry x) s = .next t ∧ t.pending = s.pending ∧ t.part.uptime = s.part.timeAt moment ∧
    t.part.engine x = { s.part.engine x with locateUntil := none } ∧ t.part.record x = s.part.record x ∧
    (∀ y, y ≠ x → t.part.slot y = s.part.slot y) ∧ t.part.fleet = s.part.fleet ∧ t.part.book = s.part.book ∧
    t.part.chute = s.part.chute ∧ t.part.sched.queue = s.part.sched.queue ∧ t.part.supply = s.part.supply ∧
    t.part.alarm = s.part.alarm := by
  have hr := Part.record_of_slot (Part.slot_advanceTo s.part moment x)
  have he : (s.part.advanceTo moment).engine x = s.part.engine x := by simp [Part.engine]
  refine ⟨_, exec_locateTimerExpiry hh hm, rfl, ?_, ?_, ?_, fun y hy => ?_, ?_⟩
  · simpa using Part.advanceTo_uptime hh moment
  · simp [he]
  · simpa using hr
  · simp [Part.slot_updEngine_of_ne _ _ hy.symm]
  · simp

/-! ## The pocket -/

/-- The report of the mouth sensor where the flap passes a fob, and where it does not (R106, R115). -/
theorem dropDetected_outcome (s : State) :
    let passes : Prop := s.part.isReady = true ∧ s.part.chute.flapLocked = false ∧ s.part.chute.drop = none ∧
      s.part.chute.drive = none
    (passes → exec .dropDetected s = .next { s with part := { s.part with chute := { s.part.chute with
      pocketFob := true, drop := some ⟨s.part.minute, some (1, s.part.uptime)⟩ } } }) ∧
    (¬ passes → exec .dropDetected s = .next { s with part := { s.part with chute :=
      { s.part.chute with pocketFob := true } } }) := by
  intro passes
  have hp : (s.part.isReady && s.part.chute.open) = true ↔ passes := by
    simp [passes, Chute.open, and_assoc]
  have he : exec .dropDetected s = .next { s with part :=
    if s.part.isReady && s.part.chute.open then s.part.beginDrop else s.part.pocketFilled } := rfl
  refine ⟨fun h => ?_, fun h => ?_⟩
  · rw [he, if_pos (hp.mpr h)]
    rfl
  · rw [he, if_neg (mt hp.mp h)]
    rfl

/-- The report of an empty pocket, during its drive and without one (R106). -/
theorem pocketEmpty_outcome (s : State) :
    (s.part.chute.drive ≠ none → exec .pocketEmpty s = .next { s with part := { s.part with chute :=
      { s.part.chute with pocketFob := false, drop := none, drive := none, pocketEntry := none } } }) ∧
    (s.part.chute.drive = none → exec .pocketEmpty s = .next { s with part := { s.part with chute :=
      { s.part.chute with pocketFob := false } } }) := by
  have he : exec .pocketEmpty s = .next { s with part := { s.part with chute := s.part.chute.emptied } } := rfl
  rw [he, Chute.emptied]
  refine ⟨fun h => ?_, fun h => ?_⟩
  · rw [if_pos (Option.isSome_iff_ne_none.mpr h)]
  · simp [h]

/-- What another drive of the pocket leaves alone. -/
@[simp] theorem Part.setDrive_frame (p : Part) (t : Ms) (on : Bool) :
    (p.setDrive t on).uptime = p.uptime ∧ (p.setDrive t on).columns = p.columns ∧ (p.setDrive t on).fleet = p.fleet ∧
    (p.setDrive t on).book = p.book ∧ (p.setDrive t on).sched = p.sched ∧ (p.setDrive t on).supply = p.supply ∧
    (p.setDrive t on).alarm = p.alarm ∧ (p.setDrive t on).chute = { p.chute with drive := some ⟨t, on⟩ } := by
  simp [Part.setDrive]

theorem exec_pocketDriveTimeout {began : Ms} {s : State} (hh : s.part.halted = false)
    (hd : s.part.chute.drive = some ⟨began, true⟩) :
    exec .pocketDriveTimeout s = .next { s with part := (s.part.advanceTo (began + 2000)).setDrive began false } := by
  change execPocketDriveTimeout s = _
  unfold execPocketDriveTimeout
  exact State.live_some hh (by rw [hd])

theorem exec_pocketRetry {began : Ms} {s : State} (hh : s.part.halted = false)
    (hd : s.part.chute.drive = some ⟨began, false⟩) :
    exec .pocketRetry s = .next { s with part :=
      (s.part.advanceTo (began + 5000)).setDrive (s.part.advanceTo (began + 5000)).uptime true } := by
  change execPocketRetry s = _
  unfold execPocketRetry
  exact State.live_some hh (by rw [hd])

/-- Settles O47, event by event. -/
theorem locateAndPocketTimers : Obligations.LocateAndPocketTimers := by
  refine ⟨locateTimerExpiry_outcome, dropDetected_outcome, pocketEmpty_outcome, fun began s hh =>
    ⟨fun hd => ⟨_, exec_pocketDriveTimeout hh hd, rfl, ?_⟩, fun hd => ⟨_, exec_pocketRetry hh hd, rfl, ?_⟩⟩⟩
  · simp [Part.advanceTo_uptime hh]
  · simp [Part.advanceTo_uptime hh]

end Sys2Proof.Machine
end

section
/-! PROOFS. A request that reaches its owning block, and READ VEHICLE (ReadVehicle). -/

namespace Sys2Proof.Machine

set_option Elab.async false

/-- A request of its kind's length, of a kind that both lines carry: its body meets the part with the request received,
and the reply that it gives stands on the line (R164, R165). -/
theorem State.request_takes {k : KindRow} {c : Instr} {h : ReqHdr} {body : Part → Part × Reply} {s : State}
    (ht : s.part.takes h k.length) (hs : k.serviceOnly = false) :
    s.request k c h body = .next
      { s with part := s.part.answered (body (s.part.received c h)).1 h k.code (body (s.part.received c h)).2 } := by
  rw [State.request, State.onPart, Part.request_takes ht (.inl hs)]

/-- The answer of READ VEHICLE to the vehicle that its selector finds (R54, R44). -/
def vehicleAnswer (v : Option Vehicle) : Reply := (v.map fun v => .done (.vehicle v)).getD .notFound

/-- READ VEHICLE with one selector, in its range, answers what the selector finds and changes nothing (R54). -/
theorem exec_readVehicle {h : ReqHdr} {unit : BitVec 24} {tag : BitVec 32} {s : State} (ht : s.part.takes h 7)
    (ho : oneSelector unit.toNat tag.toNat = true) (hu : unit.toNat ≤ 999999) (hg : tag.toNat ≠ 4294967295) :
    exec (.readVehicle h unit tag) s = .next (s.answering (.readVehicle h unit tag) h 0x05#8
      (vehicleAnswer (s.part.selectedVehicle unit tag))) := by
  change execReadVehicle h unit tag s = _
  have hsel : (s.part.received (.readVehicle h unit tag) h).selectedVehicle unit tag =
      s.part.selectedVehicle unit tag := by
    simp [Part.selectedVehicle]
  unfold execReadVehicle
  rw [State.request_takes ht rfl, Part.checked_taken (by simpa [ho, hg] using hu)]
  rw [hsel]
  cases s.part.selectedVehicle unit tag <;> rfl

/-- A unit number that no record has is not found. -/
theorem Part.findUnit_eq_none {p : Part} {u : Nat} (h : ∀ v ∈ p.fleet, v.unit ≠ u) : p.findUnit u = none := by
  simpa [Part.findUnit] using h

/-- A tag that no record has is not found. -/
theorem Part.findTag_eq_none {p : Part} {t : Nat} (h : ∀ v ∈ p.fleet, v.tag ≠ t) : p.findTag t = none := by
  simpa [Part.findTag] using h

/-- Settles O11, by the selector that is not 0. -/
theorem readVehicle : Obligations.ReadVehicle := by
  intro h unit tag s ht answer
  refine ⟨fun hu hu' htag => ?_, fun hu htag htag' => ?_⟩
  · have he := exec_readVehicle (unit := unit) (tag := tag) ht (by simp [oneSelector, htag]; omega) hu' (by omega)
    rw [Part.selectedVehicle, if_neg (by omega)] at he
    exact ⟨fun v hv => by rw [he, hv]; rfl, fun hn => by rw [he, Part.findUnit_eq_none hn]; rfl⟩
  · have he := exec_readVehicle (unit := unit) (tag := tag) ht (by simp [oneSelector, hu]; omega) (by omega) (by omega)
    rw [Part.selectedVehicle, if_pos hu] at he
    exact ⟨fun v hv => by rw [he, hv]; rfl, fun hn => by rw [he, Part.findTag_eq_none hn]; rfl⟩

end Sys2Proof.Machine
end

section
/-! PROOFS. The requests on one vehicle of the fleet table, and SET HOME SLOT and LOCATE (SetHomeAndLocate). -/

namespace Sys2Proof.Machine

set_option Elab.async false

/-! ## A vehicle by its unit number -/

theorem Part.unit_of_findUnit {p : Part} {u : Nat} {v : Vehicle} (h : p.findUnit u = some v) : v.unit = u := by
  simpa using List.find?_some h

/-- A request on a vehicle that the table holds acts on that vehicle (R44). -/
theorem Part.withVehicle_some {p : Part} {unit : BitVec 24} {v : Vehicle} (hv : p.findUnit unit.toNat = some v)
    (effect : Vehicle → Part × Reply) : p.withVehicle unit effect = effect v := by
  simp [Part.withVehicle, hv]

theorem validUnit_of_range {unit : BitVec 24} (h1 : 1 ≤ unit.toNat) (h2 : unit.toNat ≤ 999999) :
    validUnit unit = true := by
  simp [validUnit, h1, h2]

/-- A request that names one vehicle, of its length and while commands are taken, acts on that vehicle of the part as it
has received the request, and its reply stands on the line (R44, R165). -/
theorem State.request_vehicle {k : KindRow} {c : Instr} {h : ReqHdr} {unit : BitVec 24}
    {effect : Part → Vehicle → Part × Reply} {v : Vehicle} {s : State} (hc : s.part.commands h k.length)
    (hs : k.serviceOnly = false) (h1 : 1 ≤ unit.toNat) (h2 : unit.toNat ≤ 999999)
    (hv : s.part.findUnit unit.toNat = some v) :
    s.request k c h (fun p => p.checked (p.fleetRows h.line unit) fun p => p.withVehicle unit (effect p)) = .next
      { s with part := s.part.answered (effect (s.part.received c h) v).1 h k.code
                (effect (s.part.received c h) v).2 } := by
  have hrows : ∀ x ∈ (s.part.received c h).fleetRows h.line unit, x.1 = false := by
    simp [Part.fleetRows, Part.commandRows_of_commands hc, validUnit_of_range h1 h2]
  rw [State.request_takes hc.1 hs, Part.checked_taken hrows, Part.withVehicle_some (by simpa using hv)]

@[simp] theorem Part.received_slot (p : Part) (c : Instr) (h : ReqHdr) (x : SlotId) :
    (p.received c h).slot x = p.slot x :=
  Part.slot_of_columns (by simp) x

@[simp] theorem Part.answered_slot (p q : Part) (h : ReqHdr) (k : Byte) (r : Reply) (x : SlotId) :
    (p.answered q h k r).slot x = q.slot x :=
  Part.slot_of_columns (by simp) x

/-! ## Slot fields -/

/-- A slot field in its range names no slot exactly where it is 0 (R1, R173). -/
theorem slotField_eq_none {slot : BitVec 16} (h : slot.toNat ≤ 384) : slotField slot = none ↔ slot.toNat = 0 := by
  unfold slotField slotOfNumber
  split
  · simp; omega
  · simp; omega

/-! ## SET HOME SLOT -/

/-- Another vehicle names the slot of a slot field (R49). -/
theorem Part.homeTaken_iff {p : Part} {u : Nat} {slot : BitVec 16} (h : slot.toNat ≤ 384) :
    p.homeTaken u (slotField slot) = true ↔
      ∃ w ∈ p.fleet, slot.toNat ≠ 0 ∧ w.home = slotField slot ∧ w.unit ≠ u := by
  rw [ne_eq, ← slotField_eq_none h]
  cases slotField slot <;> simp [Part.homeTaken]

theorem exec_setHomeSlot {h : ReqHdr} {unit : BitVec 24} {slot : BitVec 16} {v : Vehicle} {s : State}
    (hc : s.part.commands h 5) (h1 : 1 ≤ unit.toNat) (h2 : unit.toNat ≤ 999999) (h3 : slot.toNat ≤ 384)
    (hv : s.part.findUnit unit.toNat = some v) :
    exec (.setHomeSlot h unit slot) s =
      if s.part.homeTaken unit.toNat (slotField slot) then
        .next (s.answering (.setHomeSlot h unit slot) h 0x14#8 .duplicate)
      else .next { s with
        part := s.part.answered ((s.part.received (.setHomeSlot h unit slot) h).updVehicle unit.toNat fun w =>
          { w with home := slotField slot }) h 0x14#8 (.done .bare) } := by
  have hrows : ∀ x ∈ [(!validUnit unit, Reply.badField 1), (decide (384 < slot.toNat), .badField 2)] ++
      (s.part.received (.setHomeSlot h unit slot) h).commandRows h.line, x.1 = false := by
    rw [Part.commandRows_of_commands hc]
    simpa [validUnit_of_range h1 h2] using h3
  have ht : (s.part.received (.setHomeSlot h unit slot) h).homeTaken unit.toNat (slotField slot) =
      s.part.homeTaken unit.toNat (slotField slot) := by simp [Part.homeTaken]
  change execSetHomeSlot h unit slot s = _
  unfold execSetHomeSlot
  rw [State.request_takes hc.1 rfl, Part.checked_taken hrows, Part.withVehicle_some (by simpa using hv),
    Part.unit_of_findUnit hv, ht]
  cases s.part.homeTaken unit.toNat (slotField slot) <;> rfl

/-! ## LOCATE -/

theorem Vehicle.slot_of_status {v : Vehicle} {x : SlotId} (h : v.status = .inSlot x) : v.slot = some x := by
  rw [Vehicle.slot, h]

theorem Vehicle.slot_eq_none {v : Vehicle} (h : ∀ x, v.status ≠ .inSlot x) : v.slot = none := by
  unfold Vehicle.slot
  split
  · exact absurd ‹_› (h _)
  all_goals rfl

/-- The slot that a LOCATE names: the slot of its field, or where its vehicle stands or should stand (R53). -/
def Part.locatedSlot (p : Part) (unit : BitVec 24) (slot : BitVec 16) : Option SlotId :=
  if unit.toNat = 0 then slotField slot else (p.findUnit unit.toNat).bind Vehicle.located

theorem Part.startLocate_engine (p : Part) (x : SlotId) :
    (p.startLocate x).engine x = { p.engine x with locateUntil := some (p.uptime + 30000) } :=
  Part.engine_updEngine_self ..

theorem exec_locate {h : ReqHdr} {unit : BitVec 24} {slot : BitVec 16} {s : State} (ht : s.part.takes h 5)
    (h1 : unit.toNat ≤ 999999) (h2 : slot.toNat ≤ 384)
    (ho : (unit.toNat = 0 ∧ slot.toNat ≠ 0) ∨ (unit.toNat ≠ 0 ∧ slot.toNat = 0))
    (hf : unit.toNat ≠ 0 → (s.part.findUnit unit.toNat).isSome = true) :
    exec (.locate h unit slot) s = .next { s with
      part := s.part.answered ((s.part.received (.locate h unit slot) h).locate (s.part.locatedSlot unit slot)).1 h
        0x18#8 ((s.part.received (.locate h unit slot) h).locate (s.part.locatedSlot unit slot)).2 } := by
  have hsel : oneSelector unit.toNat slot.toNat = true := by
    rcases ho with ⟨a, b⟩ | ⟨a, b⟩ <;> simp [oneSelector, a, b]
  change execLocate h unit slot s = _
  unfold execLocate
  rw [State.request_takes ht rfl, Part.checked_taken (by simpa [hsel] using ⟨h1, h2⟩), Part.locatedSlot]
  by_cases hu : unit.toNat = 0
  · rw [if_pos hu, if_pos hu]
    rfl
  · obtain ⟨v, hv⟩ := Option.isSome_iff_exists.mp (hf hu)
    rw [if_neg hu, if_neg hu, hv, Part.withVehicle_some (by simpa using hv)]
    rfl

/-- Settles O23: SET HOME SLOT by whether another vehicle names the slot, LOCATE by the slot that it finds. -/
theorem setHomeAndLocate : Obligations.SetHomeAndLocate := by
  refine ⟨fun h unit slot v s hc h1 h2 h3 hv => ⟨fun hfree => ?_, fun htaken => ?_⟩,
    fun h unit slot s ht h1 h2 ho => ⟨fun x hx => ?_, fun v hv hu hin hhome => ?_⟩⟩
  · have hn : ¬ s.part.homeTaken unit.toNat (slotField slot) = true := by
      rw [Part.homeTaken_iff h3]
      rintro ⟨w, hw, h0, hh, hne⟩
      exact hne (hfree w hw h0 hh)
    rw [exec_setHomeSlot hc h1 h2 h3 hv, if_neg hn]
    exact ⟨_, rfl, by simp [Part.updVehicle, Part.sameCabinet, Part.sameSupply]⟩
  · rw [exec_setHomeSlot hc h1 h2 h3 hv, if_pos ((Part.homeTaken_iff h3).mpr htaken)]
  · have hl : s.part.locatedSlot unit slot = some x := by
      rcases hx with ⟨hu, hs⟩ | ⟨v, hv, hu, hw⟩
      · rw [Part.locatedSlot, if_pos hu, hs]
      · rw [Part.locatedSlot, if_neg hu, hv]
        rcases hw with hw | ⟨hin, hh⟩
        · simp [Vehicle.located, Vehicle.slot_of_status hw]
        · simp [Vehicle.located, Vehicle.slot_eq_none hin, hh]
    have hf : unit.toNat ≠ 0 → (s.part.findUnit unit.toNat).isSome = true := by
      rcases hx with ⟨hu, -⟩ | ⟨v, hv, -⟩
      · exact fun h => absurd hu h
      · simp [hv]
    have hrec := Part.record_updEngine (s.part.received (.locate h unit slot) h) x x fun e =>
      { e with locateUntil := some (s.part.uptime + 30000) }
    rw [exec_locate ht h1 h2 ho hf, hl]
    refine ⟨_, rfl, rfl, by simp [Part.locate], ?_, ?_, fun y hy => ?_, ?_⟩
    · simp only [Part.locate, Part.engine, Part.answered_slot]
      simpa [Part.engine] using (s.part.received (.locate h unit slot) h).startLocate_engine x
    · simpa [Part.locate, Part.record, Part.startLocate] using hrec
    · simp [Part.locate, Part.startLocate, Part.slot_updEngine_of_ne _ _ hy.symm]
    · simp [Part.locate, Part.startLocate, Part.sameTables, Part.sameSupply]
  · have hl : s.part.locatedSlot unit slot = none := by
      simp [Part.locatedSlot, hu, hv, Vehicle.located, Vehicle.slot_eq_none hin, hhome]
    rw [exec_locate ht h1 h2 ho (fun _ => by simp [hv]), hl]
    rfl

end Sys2Proof.Machine
end

section
/-! PROOFS. RETIRE VEHICLE and ACCOUNT VEHICLE (RetireAndAccount): the one row of each, and what each changes. -/

namespace Sys2Proof.Machine

set_option Elab.async false

/-- A check by one row. -/
theorem Part.checked_row (p : Part) (b : Bool) (r : Reply) (effect : Part → Part × Reply) :
    p.checked [(!b, r)] effect = if b then effect p else (p, r) := by
  cases b <;> rfl

/-! ## RETIRE VEHICLE -/

theorem Vehicle.retirable_iff {v : Vehicle} : v.retirable = true ↔
    v.status = .away ∨ ((∃ x, v.status = .inSlot x) ∧ v.contract = none ∧ v.request = none) := by
  unfold Vehicle.retirable
  cases v.status <;> simp

theorem exec_retireVehicle {h : ReqHdr} {unit : BitVec 24} {v : Vehicle} {s : State} (hc : s.part.commands h 3)
    (h1 : 1 ≤ unit.toNat) (h2 : unit.toNat ≤ 999999) (hv : s.part.findUnit unit.toNat = some v) :
    exec (.retireVehicle h unit) s =
      if v.retirable then .next { s with
        part := s.part.answered ((s.part.received (.retireVehicle h unit) h).retire v) h 0x13#8 (.done .bare) }
      else .next (s.answering (.retireVehicle h unit) h 0x13#8 (.wrongState .none)) := by
  change execRetireVehicle h unit s = _
  unfold execRetireVehicle
  rw [State.request_vehicle hc rfl h1 h2 hv, Part.checked_row]
  cases v.retirable <;> rfl

/-- What a retirement leaves alone, and the table after it (R48). -/
@[simp] theorem Part.retire_frame (p : Part) (v : Vehicle) :
    (p.retire v).uptime = p.uptime ∧ (p.retire v).book = p.book ∧ (p.retire v).chute = p.chute ∧
    (p.retire v).late = p.late ∧ (p.retire v).sched = p.sched ∧ (p.retire v).alarm = p.alarm ∧
    (p.retire v).lines = p.lines ∧ (p.retire v).supply = p.supply ∧
    (p.retire v).fleet = p.fleet.filter fun w => w.unit != v.unit := by
  unfold Part.retire
  split <;> simp

/-- The record of the slot that a retired vehicle stands in (R48, R160). -/
theorem Part.retire_custody (p : Part) {v : Vehicle} {x : SlotId} (hx : v.status = .inSlot x) :
    (p.retire v).custody x = (p.custody x).retired := by
  have hr : (p.retire v).custody x = (p.setCustody x (p.custody x).retired).custody x := by
    unfold Part.retire
    rw [Vehicle.slot_of_status hx]
    rfl
  rw [hr, Part.custody_setCustody_self]

/-- A retirement changes no slot but the vehicle's. -/
theorem Part.retire_slot (p : Part) {v : Vehicle} {y : SlotId} (hy : v.status ≠ .inSlot y) :
    (p.retire v).slot y = p.slot y := by
  unfold Part.retire
  cases hs : v.slot with
  | none => rfl
  | some x =>
    have hx : x ≠ y := by
      rintro rfl
      unfold Vehicle.slot at hs
      split at hs
      · exact hy (Option.some.inj hs ▸ ‹_›)
      all_goals cases hs
    exact Part.setCustody_slot_of_ne _ _ hx

/-! ## ACCOUNT VEHICLE -/

theorem Vehicle.accountable_iff {v : Vehicle} : v.accountable = true ↔
    v.status = .stray ∨ v.status = .out .movement ∨ v.status = .out .staff := by
  unfold Vehicle.accountable
  split <;> simp_all

theorem exec_accountVehicle {h : ReqHdr} {unit : BitVec 24} {v : Vehicle} {s : State} (hc : s.part.commands h 3)
    (h1 : 1 ≤ unit.toNat) (h2 : unit.toNat ≤ 999999) (hv : s.part.findUnit unit.toNat = some v) :
    exec (.accountVehicle h unit) s =
      if v.accountable then .next { s with
        part := s.part.answered ((s.part.received (.accountVehicle h unit) h).account v).decideDrives h 0x17#8
          (.done .bare) }
      else .next (s.answering (.accountVehicle h unit) h 0x17#8 (.wrongState .none)) := by
  change execAccountVehicle h unit s = _
  unfold execAccountVehicle
  rw [State.request_vehicle hc rfl h1 h2 hv, Part.checked_row]
  cases v.accountable <;> rfl

/-- What the end of a condition makes of the alarm list depends on the list and the minute alone. -/
theorem Part.endCondition_list_congr {p q : Part} (hl : q.alarm.list = p.alarm.list) (hm : q.minute = p.minute)
    (k : AlarmKind) (x : Subject) : (q.endCondition k x).alarm.list = (p.endCondition k x).alarm.list := by
  have hf : q.findAlarm k x = p.findAlarm k x := by rw [Part.findAlarm, Part.findAlarm, hl]
  unfold Part.endCondition
  rw [hf]
  split
  · exact hl
  · split
    · simp [Part.updAlarm, hl, hm]
    · simp [Part.removeAlarm, hl]
    · exact hl

@[simp] theorem Part.setStatus_fleet (p : Part) (u : Nat) (st : VehicleStatus) : (p.setStatus u st).fleet =
    p.fleet.map fun w => if w.unit = u then { w with status := st, lastChange := p.minute } else w := rfl

/-- What accounting for a vehicle leaves alone, and the table after it (R52). -/
@[simp] theorem Part.account_frame (p : Part) (v : Vehicle) :
    (p.account v).uptime = p.uptime ∧ (p.account v).book = p.book ∧ (p.account v).chute = p.chute ∧
    (p.account v).late = p.late ∧ (p.account v).sched = p.sched ∧ (p.account v).columns = p.columns ∧
    (p.account v).supply = p.supply ∧ (p.account v).fleet =
      p.fleet.map fun w => if w.unit = v.unit then { w with status := .away, lastChange := p.minute } else w := by
  unfold Part.account
  dsimp only
  split <;> simp

/-- The FORCED_REMOVAL condition of a STRAY vehicle ends when it is accounted for (R52). -/
theorem Part.account_list (p : Part) (v : Vehicle) : (p.account v).alarm.list = if v.status = .stray
    then (p.endCondition .forcedRemoval (.vehicle v.unit)).alarm.list else p.alarm.list := by
  unfold Part.account
  dsimp only
  split
  · exact Part.endCondition_list_congr (by simp) (by simp [Part.minute]) _ _
  · simp

/-- Settles O22, by the row of each request. -/
theorem retireAndAccount : Obligations.RetireAndAccount := by
  intro h unit v s hc h1 h2 hv
  have hu := Part.unit_of_findUnit hv
  refine ⟨fun hr => ?_, fun hr => ?_, fun ha => ?_, fun ha => ?_⟩
  · rw [exec_retireVehicle hc h1 h2 hv, if_pos (Vehicle.retirable_iff.mpr hr)]
    have hcust : ∀ x, v.status = .inSlot x →
        (s.part.answered ((s.part.received (.retireVehicle h unit) h).retire v) h 0x13#8 (.done .bare)).custody x =
          (s.part.custody x).retired := fun x hx => by
      simpa [Part.custody, Part.record] using (s.part.received (.retireVehicle h unit) h).retire_custody hx
    refine ⟨_, rfl, rfl, by simp, by simp [hu], fun x hx tag u arrived f hk => ?_,
      fun x hx tag u arrived k f hk => ?_, fun y hy => ?_, by simp [Part.sameSupply]⟩
    · exact (hcust x hx).trans (by rw [hk]; rfl)
    · exact (hcust x hx).trans (by rw [hk]; rfl)
    · simp [Part.retire_slot _ hy]
  · rw [exec_retireVehicle hc h1 h2 hv, if_neg (mt Vehicle.retirable_iff.mp hr)]
  · rw [exec_accountVehicle hc h1 h2 hv, if_pos (Vehicle.accountable_iff.mpr ha)]
    have hl : ∀ q : Part, q.alarm.list = s.part.alarm.list → q.minute = s.part.minute →
        (q.account v).alarm.list = if v.status = .stray
          then (s.part.endCondition .forcedRemoval (.vehicle unit.toNat)).alarm.list else s.part.alarm.list :=
      fun q hq hm => by rw [Part.account_list, hu, hq, Part.endCondition_list_congr hq hm]
    refine ⟨_, rfl, rfl, by simp, by simp [hu], ?_, by simp [Part.sameCabinet, Part.sameSupply]⟩
    simpa using hl (s.part.received (.accountVehicle h unit) h) (by simp) (by simp)
  · rw [exec_accountVehicle hc h1 h2 hv, if_neg (mt Vehicle.accountable_iff.mp ha)]

end Sys2Proof.Machine
end

section
/-! PROOFS. HOLD VEHICLE and UNHOLD VEHICLE (HoldAndUnhold). -/

namespace Sys2Proof.Machine

set_option Elab.async false

theorem exec_holdVehicle {h : ReqHdr} {unit : BitVec 24} {v : Vehicle} {s : State} (hc : s.part.commands h 3)
    (h1 : 1 ≤ unit.toNat) (h2 : unit.toNat ≤ 999999) (hv : s.part.findUnit unit.toNat = some v) :
    exec (.holdVehicle h unit) s = .next { s with
      part := s.part.answered ((s.part.received (.holdVehicle h unit) h).holdVehicle unit.toNat).settle h 0x15#8
        (.done .bare) } := by
  change execHoldVehicle h unit s = _
  unfold execHoldVehicle
  rw [State.request_vehicle hc rfl h1 h2 hv, Part.unit_of_findUnit hv]
  rfl

theorem exec_unholdVehicle {h : ReqHdr} {unit : BitVec 24} {v : Vehicle} {s : State} (hc : s.part.commands h 3)
    (h1 : 1 ≤ unit.toNat) (h2 : unit.toNat ≤ 999999) (hv : s.part.findUnit unit.toNat = some v) :
    exec (.unholdVehicle h unit) s = .next { s with
      part := s.part.answered ((s.part.received (.unholdVehicle h unit) h).unholdVehicle unit.toNat).settle h 0x16#8
        (.done .bare) } := by
  change execUnholdVehicle h unit s = _
  unfold execUnholdVehicle
  rw [State.request_vehicle hc rfl h1 h2 hv, Part.unit_of_findUnit hv]
  rfl

/-! ## The hold -/

/-- The STAFF hold of a vehicle, before the ending of its live request (R50). -/
def Part.setHold (p : Part) (u : Nat) : Part := p.updVehicle u fun v => { v with hold := some .staff }

/-- What a STAFF hold leaves alone. -/
@[simp] theorem Part.setHold_frame (p : Part) (u : Nat) :
    (p.setHold u).uptime = p.uptime ∧ (p.setHold u).book = p.book ∧ (p.setHold u).chute = p.chute ∧
    (p.setHold u).late = p.late ∧ (p.setHold u).sched = p.sched ∧ (p.setHold u).supply = p.supply ∧
    (p.setHold u).liveNumbers = p.liveNumbers ∧
    (p.setHold u).fleet = p.fleet.map fun w => if w.unit = u then { w with hold := some .staff } else w := by
  simp [Part.setHold, Part.liveNumbers]

@[simp] theorem Part.setHold_statuses (p : Part) (u : Nat) : (p.setHold u).statuses = p.statuses :=
  p.updVehicle_statuses u fun _ => ⟨rfl, rfl⟩

theorem Part.liveOf_congr {p q : Part} (h : q.sched = p.sched) (u : Nat) : q.liveOf u = p.liveOf u := by
  rw [Part.liveOf, Part.liveOf, h]

theorem Part.holdVehicle_eq (p : Part) (u : Nat) :
    p.holdVehicle u = (p.liveOf u).foldl Part.endHeld (p.setHold u) := rfl

/-- A hold of a vehicle without a live request ends none. -/
theorem Part.holdVehicle_of_free {p : Part} {u : Nat} (h : p.liveOf u = []) : p.holdVehicle u = p.setHold u := by
  rw [Part.holdVehicle_eq, h]
  rfl

/-- A hold of a vehicle with one live request ends that request (R50). -/
theorem Part.holdVehicle_of_live {p : Part} {u : Nat} {r : Release} (h : p.liveOf u = [r]) (hn : p.liveNumbers.Nodup) :
    p.holdVehicle u = (p.setHold u).endRelease r r.heldOutcome := by
  have hr : r ∈ p.liveOf u := h ▸ List.mem_singleton_self r
  have hf : (p.setHold u).findRelease r.number = some r :=
    Part.findRelease_of_mem (by simpa using hn) (by simpa using (List.mem_filter.mp hr).1)
  rw [Part.holdVehicle_eq, h, List.foldl_cons, List.foldl_nil, Part.endHeld, hf]

/-! ## The vehicle of an ended request -/

/-- What an update of a vehicle keeps of every vehicle, it keeps of the table. -/
theorem Part.forall_updVehicle {P : Vehicle → Prop} {p : Part} (h : ∀ w ∈ p.fleet, P w) {u : Nat}
    {f : Vehicle → Vehicle} (hf : ∀ w, P w → P (f w)) : ∀ w ∈ (p.updVehicle u f).fleet, P w := by
  rw [Part.updVehicle_fleet, List.forall_mem_map]
  intro w hw
  split
  · exact hf w (h w hw)
  · exact h w hw

/-- The deletion of a contract touches the vehicles' links to contracts alone. -/
theorem Part.forall_deleteContract {P : Vehicle → Prop} {p : Part} (h : ∀ w ∈ p.fleet, P w)
    (hP : ∀ w, P w → P { w with contract := none }) (n : Nat) : ∀ w ∈ (p.deleteContract n).fleet, P w := by
  unfold Part.deleteContract Part.dropContractLink
  split
  · exact h
  · split
    · exact h
    · exact Part.forall_updVehicle (p := p.dropContract n) h hP

/-- The ending of a request drops its vehicle's request link, and no hold (R75). -/
theorem Part.endRelease_links {p : Part} {r : Release} {o : ReleaseOutcome} {u : Nat} {hold : Option HoldSource}
    (ht : r.target.unit = some u) (hp : ∀ w ∈ p.fleet, w.unit = u → w.hold = hold) :
    ∀ w ∈ (p.endRelease r o).fleet, w.unit = u → w.hold = hold ∧ w.request = none := by
  have hf : (p.endRelease r o).fleet = (((p.leaveQueue r o).leaveSlot r o).leaveLinks r o).fleet := by
    simp [Part.endRelease]
  have hl : ((p.leaveQueue r o).leaveSlot r o).fleet = p.fleet := by
    rw [((p.leaveQueue r o).leaveSlot_frame r o).2.1]
    rfl
  have hreq : ∀ w ∈ (((p.leaveQueue r o).leaveSlot r o).updVehicle u fun v => { v with request := none }).fleet,
      w.unit = u → w.hold = hold ∧ w.request = none := by
    rw [Part.updVehicle_fleet, hl, List.forall_mem_map]
    intro w hw
    split
    next hu => exact fun _ => ⟨hp w hw hu, rfl⟩
    next hu => exact fun h => absurd h hu
  rw [hf, Part.leaveLinks, ht]
  dsimp only
  split
  · split
    · exact hreq
    · exact Part.forall_deleteContract hreq (fun _ hw => hw) _
  · exact hreq

theorem Part.setHold_hold (p : Part) (u : Nat) : ∀ w ∈ (p.setHold u).fleet, w.unit = u → w.hold = some .staff := by
  rw [Part.setHold, Part.updVehicle_fleet, List.forall_mem_map]
  intro w _
  split
  next hu => exact fun _ => rfl
  next hu => exact fun h => absurd h hu

/-! ## The hold dropped -/

@[simp] theorem Part.updVehicle_liveNumbers (p : Part) (u : Nat) (f : Vehicle → Vehicle) :
    (p.updVehicle u f).liveNumbers = p.liveNumbers := rfl

/-- What dropping a hold leaves alone, and the table after it (R51). -/
@[simp] theorem Part.unholdVehicle_frame (p : Part) (u : Nat) :
    (p.unholdVehicle u).uptime = p.uptime ∧ (p.unholdVehicle u).book = p.book ∧
    (p.unholdVehicle u).chute = p.chute ∧ (p.unholdVehicle u).late = p.late ∧
    (p.unholdVehicle u).supply = p.supply ∧ (p.unholdVehicle u).liveNumbers = p.liveNumbers ∧
    (p.unholdVehicle u).fleet = p.fleet.map fun w => if w.unit = u then { w with hold := none } else w := by
  simp [Part.unholdVehicle]

theorem Part.answered_noneMayStart {p q : Part} {h : ReqHdr} {k : Byte} {r : Reply} (hq : q.noneMayStart) :
    (p.answered q h k r).noneMayStart :=
  Part.noneMayStart_congr (by simp) (by simp) (by simp) (by simp) (by simp) (by simp)
    (fun _ => by simp [Part.column]) (fun _ => Part.answered_slot ..) hq

/-- The selection after a hold is dropped leaves no request waiting that may be started (R51, R60). -/
theorem Part.unholdVehicle_noneMayStart {p : Part} (hr : p.isReady = true) (u : Nat) :
    (p.unholdVehicle u).settle.noneMayStart := by
  refine Part.settle_noneMayStart ?_ (Part.selection_noneMayStart ?_)
  · simpa [Part.isReady] using hr
  · simpa [Part.isReady] using hr

@[simp] theorem Part.answered_liveNumbers (p q : Part) (h : ReqHdr) (k : Byte) (r : Reply) :
    (p.answered q h k r).liveNumbers = q.liveNumbers := by
  simp [Part.liveNumbers]

@[simp] theorem Part.received_liveNumbers (p : Part) (c : Instr) (h : ReqHdr) :
    (p.received c h).liveNumbers = p.liveNumbers := by
  simp [Part.liveNumbers]

@[simp] theorem Part.answered_statuses (p q : Part) (h : ReqHdr) (k : Byte) (r : Reply) :
    (p.answered q h k r).statuses = q.statuses :=
  Part.statuses_congr (by simp)

@[simp] theorem Part.received_statuses (p : Part) (c : Instr) (h : ReqHdr) :
    (p.received c h).statuses = p.statuses :=
  Part.statuses_congr (by simp)

/-- Settles O24: the hold by whether its vehicle has a live request, and its drop by the selection after it. -/
theorem holdAndUnhold : Obligations.HoldAndUnhold := by
  intro h unit v s hc h1 h2 hv
  have hlive := Part.liveOf_congr (p := s.part) (q := s.part.received (.holdVehicle h unit) h) (by simp) unit.toNat
  refine ⟨fun hfree => ?_, fun r hr hn => ?_, ?_⟩
  · rw [exec_holdVehicle hc h1 h2 hv, Part.holdVehicle_of_free (hlive.trans hfree)]
    exact ⟨_, rfl, rfl, by simp, by simp [Part.sameSupply]⟩
  · have ht : r.target.unit = some unit.toNat := by
      have hm : r ∈ s.part.liveOf unit.toNat := hr ▸ List.mem_singleton_self r
      simpa using (List.mem_filter.mp hm).2
    rw [exec_holdVehicle hc h1 h2 hv, Part.holdVehicle_of_live (hlive.trans hr) (by simpa using hn)]
    refine ⟨_, rfl, rfl, by simp, ?_, ?_, ?_, ?_, by simp [Part.sameSupply]⟩
    · simp [Part.endRelease_liveNumbers]
    · simpa [Release.heldOutcome] using
        Part.endRelease_ended ((s.part.received (.holdVehicle h unit) h).setHold unit.toNat) r r.heldOutcome
    · simpa using Part.endRelease_links (o := r.heldOutcome) ht
        ((s.part.received (.holdVehicle h unit) h).setHold_hold unit.toNat)
    · exact Part.map_status_of_statuses (by simp)
  · rw [exec_unholdVehicle hc h1 h2 hv]
    refine ⟨_, rfl, rfl, by simp, by simp, Part.answered_noneMayStart (Part.unholdVehicle_noneMayStart ?_ _),
      by simp [Part.sameSupply]⟩
    simpa using hc.2.1

end Sys2Proof.Machine
end

section
/-! PROOFS. ENROL VEHICLE (EnrolVehicle): its refusals, and what the part has seen of the tag, in the slots and in the
chute log. -/

namespace Sys2Proof.Machine

set_option Elab.async false

/-! ## The slots in order -/

/-- The slots, by column and position. -/
def allSlots : List SlotId := allCols.flatMap fun c => allPos.map fun i => ⟨c, i⟩

theorem zip_finRange_toList {α : Type} {n : Nat} (v : Vector α n) :
    (List.finRange n).zip v.toList = (List.finRange n).map fun i => (i, v[i]) := by
  refine List.ext_getElem (by simp) fun i h1 h2 => ?_
  simp

/-- The list of the slots is every slot with what it holds. -/
theorem Part.slotList_eq (p : Part) : p.slotList = allSlots.map fun x => (x, p.slot x) := by
  rw [Part.slotList, allSlots, List.map_flatMap, allCols, allPos, zip_finRange_toList, List.flatMap_map]
  refine List.flatMap_congr fun c _ => ?_
  dsimp only
  rw [zip_finRange_toList, List.map_map, List.map_map]
  rfl

theorem allSlots_nodup : allSlots.Nodup := by
  refine List.nodup_flatMap.mpr ⟨fun c _ => ?_, ?_⟩
  · exact (List.nodup_finRange 24).map fun i j h => by simpa using h
  · refine (List.nodup_finRange 16).imp fun {c d} hne => ?_
    simp only [Function.onFun, List.disjoint_left, List.mem_map, not_exists, not_and]
    rintro _ ⟨i, -, rfl⟩ j - h
    exact hne (by simpa using (congrArg SlotId.col h).symm)

/-! ## The slots that hold an unknown tag -/

theorem Part.adoptable_eq (p : Part) (tag : Nat) : p.adoptable tag = allSlots.filter fun x =>
    (p.custody x).unknownTag tag && !(p.record x).unreachable && !(p.record x).outOfService := by
  rw [Part.adoptable, Part.slotList_eq, List.filter_map, List.map_map]
  exact List.map_id _

theorem Part.adoptable_nodup (p : Part) (tag : Nat) : (p.adoptable tag).Nodup := by
  rw [Part.adoptable_eq]
  exact allSlots_nodup.filter _

/-- A slot that an enrolment may adopt holds the tag, FOREIGN(UNKNOWN) (R45). -/
theorem Part.custody_of_adoptable {p : Part} {tag : Nat} {x : SlotId} (h : x ∈ p.adoptable tag) :
    ∃ arrived, p.custody x = .foreign tag .unknown arrived := by
  rw [Part.adoptable_eq, List.mem_filter, Bool.and_eq_true, Bool.and_eq_true] at h
  obtain ⟨-, ⟨hk, -⟩, -⟩ := h
  unfold Custody.unknownTag at hk
  split at hk
  next t arrived heq => exact ⟨arrived, by rw [heq, beq_iff_eq.mp hk]⟩
  all_goals cases hk

theorem Part.adoptable_congr {p q : Part} (h : q.columns = p.columns) (tag : Nat) :
    q.adoptable tag = p.adoptable tag := by
  rw [Part.adoptable, Part.adoptable, Part.slotList, Part.slotList, h]

/-! ## Duplicates and conflicts -/

/-- What finding a duplicate leaves alone. -/
@[simp] theorem Part.makeDuplicate_frame (p : Part) (x : SlotId) :
    (p.makeDuplicate x).uptime = p.uptime ∧ (p.makeDuplicate x).fleet = p.fleet ∧
    (p.makeDuplicate x).sched = p.sched ∧ (p.makeDuplicate x).book = p.book ∧
    (p.makeDuplicate x).chute = p.chute ∧ (p.makeDuplicate x).late = p.late ∧
    (p.makeDuplicate x).supply = p.supply := by
  simp [Part.makeDuplicate]

@[simp] theorem Part.foldl_makeDuplicate_frame (p : Part) (l : List SlotId) :
    (l.foldl Part.makeDuplicate p).uptime = p.uptime ∧ (l.foldl Part.makeDuplicate p).fleet = p.fleet ∧
    (l.foldl Part.makeDuplicate p).sched = p.sched ∧ (l.foldl Part.makeDuplicate p).book = p.book ∧
    (l.foldl Part.makeDuplicate p).chute = p.chute ∧ (l.foldl Part.makeDuplicate p).late = p.late ∧
    (l.foldl Part.makeDuplicate p).supply = p.supply := by
  have h := foldl_keeps (fun q : Part => (q.uptime, q.fleet, q.sched, q.book, q.chute, q.late, q.supply))
    Part.makeDuplicate (fun q x => by simp) l p
  simpa using h

theorem Part.makeDuplicate_slot_of_ne (p : Part) {x y : SlotId} (h : x ≠ y) :
    (p.makeDuplicate x).slot y = p.slot y :=
  (Part.slot_of_columns (p := p.setCustody x (p.custody x).duplicated) (by simp [Part.makeDuplicate]) y).trans
    (Part.setCustody_slot_of_ne _ _ h)

theorem Part.makeDuplicate_custody (p : Part) (x : SlotId) :
    (p.makeDuplicate x).custody x = (p.custody x).duplicated := by
  have hx : (p.makeDuplicate x).slot x = (p.setCustody x (p.custody x).duplicated).slot x :=
    Part.slot_of_columns (by simp [Part.makeDuplicate]) x
  rw [Part.custody_of_slot hx, Part.custody_setCustody_self]

/-- The other slots of a tag: those outside the list are as before. -/
theorem Part.foldl_makeDuplicate_slot (p : Part) {l : List SlotId} {y : SlotId} (hy : y ∉ l) :
    (l.foldl Part.makeDuplicate p).slot y = p.slot y := by
  induction l generalizing p with
  | nil => rfl
  | cons x l ih =>
    obtain ⟨hne, hy⟩ := not_or.mp (mt List.mem_cons.mpr hy)
    rw [List.foldl_cons, ih _ hy, Part.makeDuplicate_slot_of_ne p (Ne.symm hne)]

/-- The other slots of a tag: those in the list become DUPLICATE (R46). -/
theorem Part.foldl_makeDuplicate_custody (p : Part) {l : List SlotId} {y : SlotId} (hy : y ∈ l) (hn : l.Nodup) :
    (l.foldl Part.makeDuplicate p).custody y = (p.custody y).duplicated := by
  induction l generalizing p with
  | nil => cases hy
  | cons x l ih =>
    obtain ⟨hx, hn⟩ := List.nodup_cons.mp hn
    rw [List.foldl_cons]
    by_cases e : y = x
    · subst e
      rw [Part.custody_of_slot (Part.foldl_makeDuplicate_slot _ hx), Part.makeDuplicate_custody]
    · rw [ih _ ((List.mem_cons.mp hy).resolve_left e) hn,
        Part.custody_of_slot (Part.makeDuplicate_slot_of_ne p (Ne.symm e))]

theorem Part.quiet.setCustody {p : Part} (h : p.quiet) (x : SlotId) (k : Custody) : (p.setCustody x k).quiet :=
  h.updColumn fun _ => ⟨rfl, rfl⟩

theorem Part.quiet.makeDuplicate {p : Part} (h : p.quiet) (x : SlotId) : (p.makeDuplicate x).quiet :=
  (h.setCustody x (p.custody x).duplicated).congr (by simp [Part.makeDuplicate])

/-- What finding a conflict leaves alone. -/
@[simp] theorem Part.makeConflict_frame (t : Nat) (p : Part) (n : Nat) :
    (p.makeConflict t n).uptime = p.uptime ∧ (p.makeConflict t n).columns = p.columns ∧
    (p.makeConflict t n).fleet = p.fleet ∧ (p.makeConflict t n).sched = p.sched ∧
    (p.makeConflict t n).book = p.book ∧ (p.makeConflict t n).late = p.late ∧
    (p.makeConflict t n).supply = p.supply := by
  simp [Part.makeConflict]

@[simp] theorem Part.foldl_makeConflict_frame (t : Nat) (p : Part) (l : List Nat) :
    (l.foldl (Part.makeConflict t) p).uptime = p.uptime ∧ (l.foldl (Part.makeConflict t) p).columns = p.columns ∧
    (l.foldl (Part.makeConflict t) p).fleet = p.fleet ∧ (l.foldl (Part.makeConflict t) p).sched = p.sched ∧
    (l.foldl (Part.makeConflict t) p).book = p.book ∧ (l.foldl (Part.makeConflict t) p).late = p.late ∧
    (l.foldl (Part.makeConflict t) p).supply = p.supply := by
  have h := foldl_keeps (fun q : Part => (q.uptime, q.columns, q.fleet, q.sched, q.book, q.late, q.supply))
    (Part.makeConflict t) (fun q n => by simp) l p
  simpa using h

/-- An entry that becomes CONFLICT where its number is one of a list. -/
def ChuteEntry.conflictIn (t : Nat) (l : List Nat) (e : ChuteEntry) : ChuteEntry :=
  if e.number ∈ l then { e with kind := .conflict t } else e

/-- The entries of a list become CONFLICT (R46, R47). -/
theorem Part.foldl_makeConflict_log (t : Nat) (p : Part) (l : List Nat) :
    (l.foldl (Part.makeConflict t) p).chute.log = p.chute.log.map (ChuteEntry.conflictIn t l) := by
  induction l generalizing p with
  | nil => exact (List.map_id _).symm
  | cons n l ih =>
    have hn : (p.makeConflict t n).chute.log =
        p.chute.log.map fun e => if e.number = n then { e with kind := .conflict t } else e := by
      rw [Part.makeConflict, (Part.raise_frame ..).2.2.2.2.2.1]
      rfl
    rw [List.foldl_cons, ih, hn, List.map_map]
    refine List.map_congr_left fun e _ => ?_
    by_cases h1 : e.number = n <;> by_cases h2 : e.number ∈ l <;>
      simp [ChuteEntry.conflictIn, h1, h2]

/-! ## The enrolled vehicle -/

/-- The record that ENROL VEHICLE makes, with the status that follows from what the part has seen (R45). -/
def Part.newcomer (p : Part) (u t : Nat) (home : Option SlotId) (st : VehicleStatus) : Vehicle :=
  ⟨u, t, st, home, none, none, none, p.minute⟩

/-- The part with the record made, before the adoption (R45). -/
def Part.joined (p : Part) (u t : Nat) (home : Option SlotId) : Part :=
  { p with fleet := p.fleet ++ [p.newcomer u t home .away] }

/-- The status of a newcomer is set in its record alone. -/
theorem Part.joined_setStatus {p : Part} {u t : Nat} {home : Option SlotId} (hu : p.findUnit u = none)
    (st : VehicleStatus) : ((p.joined u t home).setStatus u st).fleet = p.fleet ++ [p.newcomer u t home st] := by
  have hne : ∀ w ∈ p.fleet, w.unit ≠ u := by simpa [Part.findUnit] using hu
  have hold : (p.fleet.map fun w => if w.unit = u then { w with status := st, lastChange := p.minute } else w) =
      p.fleet := (List.map_congr_left fun w hw => if_neg (hne w hw)).trans (List.map_id _)
  have hnew : ((p.joined u t home).setStatus u st).fleet = (p.fleet ++ [p.newcomer u t home .away]).map fun w =>
      if w.unit = u then { w with status := st, lastChange := p.minute } else w := rfl
  rw [hnew, List.map_append, hold]
  simp [Part.newcomer]

/-- An enrolment that leaves everything but its vehicle's record, the slots and the chute alone (R45 to R47). -/
structure Part.enrolsAs (p q : Part) (v : Vehicle) : Prop where
  fleet : q.fleet = p.fleet ++ [v]
  book : q.book = p.book
  late : q.late = p.late
  sched : q.sched = p.sched
  supply : q.supply = p.supply
  uptime : q.uptime = p.uptime
  quiet : q.quiet

/-- The status that the reply of ENROL VEHICLE names (R45). -/
theorem Part.enrolsAs.statusOf {p q : Part} {v : Vehicle} (h : p.enrolsAs q v) (hu : p.findUnit v.unit = none) :
    q.statusOf v.unit = v.status := by
  have hf : q.findUnit v.unit = some v := by
    rw [Part.findUnit, h.fleet, List.find?_append]
    have hn : p.fleet.find? (·.unit == v.unit) = none := hu
    simp [hn]
  simp [Part.statusOf, hf]

/-- The adoption of a slot before its notices of the chute: the slot is HELD, the others are DUPLICATE (R46). -/
def Part.adoptSlots (p : Part) (u : Nat) (x : SlotId) (others : List SlotId) : Part :=
  others.foldl Part.makeDuplicate
    (((p.setCustody x ((p.custody x).adopted u)).setStatus u (.inSlot x)).endCondition .fobUnknown (.slot x))

/-- An adoption of a slot that no request is for ends no request (R46, R69). -/
theorem Part.adoptSlot_eq {p : Part} {x : SlotId} (hq : ∀ r ∈ p.sched.queue, r.slot ≠ x) (u t : Nat)
    (others : List SlotId) : p.adoptSlot u t x others =
      ((p.chute.unknownEntries t).foldl (Part.makeConflict t) (p.adoptSlots u x others)).decideFlap := by
  have hc : (p.adoptSlots u x others).chute = p.chute := by simp [Part.adoptSlots]
  have hl : ((p.chute.unknownEntries t).foldl (Part.makeConflict t) (p.adoptSlots u x others)).decideFlap.staffLiveOn
      x = [] := by
    simp only [Part.staffLiveOn, List.filter_eq_nil_iff]
    intro r hr hs
    exact hq r (by simpa [Part.adoptSlots] using hr) (by simpa using (Bool.and_eq_true_iff.mp hs).2)
  rw [← hc] at hl ⊢
  exact (congrArg (Part.endAll _ · .mismatch) hl).trans rfl

/-- The slots after the adoption of one (R46). -/
theorem Part.adoptSlots_slots {p : Part} {x : SlotId} {others : List SlotId} (hn : (x :: others).Nodup) (u : Nat) :
    (p.adoptSlots u x others).custody x = (p.custody x).adopted u ∧
    (∀ y ∈ others, (p.adoptSlots u x others).custody y = (p.custody y).duplicated) ∧
    ∀ y, y ≠ x → y ∉ others → (p.adoptSlots u x others).slot y = p.slot y := by
  obtain ⟨hx, hn⟩ := List.nodup_cons.mp hn
  have hs : ∀ y, (((p.setCustody x ((p.custody x).adopted u)).setStatus u (.inSlot x)).endCondition .fobUnknown
      (.slot x)).slot y = (p.setCustody x ((p.custody x).adopted u)).slot y := Part.slot_of_columns (by simp)
  refine ⟨?_, fun y hy => ?_, fun y hne hy => ?_⟩
  · rw [Part.adoptSlots, Part.custody_of_slot (Part.foldl_makeDuplicate_slot _ hx), Part.custody_of_slot (hs x),
      Part.custody_setCustody_self]
  · have hne : x ≠ y := fun e => hx (e ▸ hy)
    rw [Part.adoptSlots, Part.foldl_makeDuplicate_custody _ hy hn, Part.custody_of_slot (hs y),
      Part.custody_of_slot (Part.setCustody_slot_of_ne _ _ hne)]
  · rw [Part.adoptSlots, Part.foldl_makeDuplicate_slot _ hy, hs y, Part.setCustody_slot_of_ne _ _ (Ne.symm hne)]

theorem Part.quiet.adoptSlots {p : Part} (h : p.quiet) (u : Nat) (x : SlotId) (others : List SlotId) :
    (p.adoptSlots u x others).quiet := by
  refine foldl_induct (P := Part.quiet) others (fun _ y hq => hq.makeDuplicate y) ?_
  exact (h.setCustody x ((p.custody x).adopted u)).congr (by simp)

section adoption

variable {p : Part} {u t : Nat} {home : Option SlotId}

theorem Part.enrol_of_unseen (ha : p.adoptable t = []) (hc : p.chute.unknownEntries t = []) :
    p.enrol u t home = p.joined u t home := by
  have hj : (p.joined u t home).adoptable t = [] := ha
  unfold Part.joined Part.newcomer at hj ⊢
  unfold Part.enrol
  dsimp only
  rw [hj, hc]

theorem Part.enrol_of_slot {x : SlotId} {others : List SlotId} (ha : p.adoptable t = x :: others) :
    p.enrol u t home = (p.joined u t home).adoptSlot u t x others := by
  have hj : (p.joined u t home).adoptable t = x :: others := ha
  unfold Part.joined Part.newcomer at hj ⊢
  unfold Part.enrol
  dsimp only
  rw [hj]

theorem Part.enrol_of_entry {n : Nat} {later : List Nat} (ha : p.adoptable t = [])
    (hc : p.chute.unknownEntries t = n :: later) :
    p.enrol u t home = (p.joined u t home).adoptEntry u t n later := by
  have hj : (p.joined u t home).adoptable t = [] := ha
  unfold Part.joined Part.newcomer at hj ⊢
  unfold Part.enrol
  dsimp only
  rw [hj, hc]

/-- A vehicle whose tag the part has not seen (R45). -/
theorem Part.enrolsAs_away (hq : p.quiet) (ha : p.adoptable t = []) (hc : p.chute.unknownEntries t = []) :
    p.enrolsAs (p.enrol u t home) (p.newcomer u t home .away) := by
  rw [Part.enrol_of_unseen ha hc]
  exact ⟨rfl, rfl, rfl, rfl, rfl, rfl, hq⟩

/-- A vehicle whose tag stands in slots: the first of them is adopted (R46). -/
theorem Part.enrolsAs_slot (hu : p.findUnit u = none) (hq : p.quiet) {x : SlotId} {others : List SlotId}
    (ha : p.adoptable t = x :: others) (hr : ∀ r ∈ p.sched.queue, r.slot ≠ x) :
    p.enrolsAs (p.enrol u t home) (p.newcomer u t home (.inSlot x)) := by
  have hj : (p.joined u t home).quiet := hq
  have hquiet : ((p.joined u t home).adoptSlots u x others).quiet := hj.adoptSlots u x others
  have hfleet := Part.joined_setStatus (t := t) (home := home) hu (.inSlot x)
  rw [Part.enrol_of_slot ha, Part.adoptSlot_eq (p := p.joined u t home) hr]
  refine ⟨?_, ?_, ?_, ?_, ?_, ?_, hquiet.congr (by simp)⟩
  · rw [← hfleet]
    simp [Part.adoptSlots, Part.minute]
  all_goals simp [Part.adoptSlots, Part.joined]

/-- A vehicle whose tag stands in chute entries alone: the earliest of them is adopted (R47). -/
theorem Part.enrolsAs_entry (hu : p.findUnit u = none) (hq : p.quiet) {n : Nat} {later : List Nat}
    (ha : p.adoptable t = []) (hc : p.chute.unknownEntries t = n :: later) :
    p.enrolsAs (p.enrol u t home) (p.newcomer u t home (.dropped n)) := by
  have hfleet := Part.joined_setStatus (t := t) (home := home) hu (.dropped n)
  rw [Part.enrol_of_entry ha hc]
  refine ⟨?_, ?_, ?_, ?_, ?_, ?_, hq.congr (by simp [Part.adoptEntry, Part.joined])⟩
  · rw [← hfleet]
    simp [Part.adoptEntry, Part.minute]
  all_goals simp [Part.adoptEntry, Part.joined]

/-- The slots and the chute log after the adoption of a slot (R46). -/
theorem Part.enrol_slot_effects {x : SlotId} {others : List SlotId} (ha : p.adoptable t = x :: others)
    (hr : ∀ r ∈ p.sched.queue, r.slot ≠ x) :
    (p.enrol u t home).custody x = (p.custody x).adopted u ∧
    (∀ y ∈ others, (p.enrol u t home).custody y = (p.custody y).duplicated) ∧
    (∀ y, y ≠ x → y ∉ others → (p.enrol u t home).slot y = p.slot y) ∧
    (p.enrol u t home).chute.log = p.chute.log.map (ChuteEntry.conflictIn t (p.chute.unknownEntries t)) := by
  have hn : (x :: others).Nodup := ha ▸ p.adoptable_nodup t
  obtain ⟨hx, ho, hy⟩ := Part.adoptSlots_slots (p := p.joined u t home) hn u
  rw [Part.enrol_of_slot ha, Part.adoptSlot_eq (p := p.joined u t home) hr]
  have hs : ∀ y, (((p.joined u t home).chute.unknownEntries t).foldl (Part.makeConflict t)
      ((p.joined u t home).adoptSlots u x others)).decideFlap.slot y =
        ((p.joined u t home).adoptSlots u x others).slot y := Part.slot_of_columns (by simp)
  refine ⟨(Part.custody_of_slot (hs x)).trans hx, fun y hm => (Part.custody_of_slot (hs y)).trans (ho y hm),
    fun y hne hm => (hs y).trans (hy y hne hm), ?_⟩
  rw [Part.decideFlap_log, Part.foldl_makeConflict_log]
  simp [Part.adoptSlots, Part.joined]

/-- The slots and the chute log after the adoption of a chute entry (R47). -/
theorem Part.enrol_entry_effects {n : Nat} {later : List Nat} (ha : p.adoptable t = [])
    (hc : p.chute.unknownEntries t = n :: later) :
    (p.enrol u t home).columns = p.columns ∧
    (p.enrol u t home).chute.log = p.chute.log.map fun e =>
      if e.number ∈ later then { e with kind := .conflict t }
      else if e.number = n then { e with kind := .named t u } else e := by
  rw [Part.enrol_of_entry ha hc]
  refine ⟨by simp [Part.adoptEntry, Part.joined], ?_⟩
  have hlog : (((p.joined u t home).updEntry n fun e => { e with kind := .named t u }).setStatus u
      (.dropped n)).chute.log = p.chute.log.map fun e =>
        if e.number = n then { e with kind := .named t u } else e := rfl
  rw [Part.adoptEntry, Part.decideFlap_log, Part.foldl_makeConflict_log, hlog, List.map_map]
  refine List.map_congr_left fun e _ => ?_
  by_cases h1 : e.number ∈ later
  · by_cases h2 : e.number = n
    · simp [ChuteEntry.conflictIn, h2, h2 ▸ h1]
    · simp [ChuteEntry.conflictIn, h1, h2]
  · by_cases h2 : e.number = n
    · simp [ChuteEntry.conflictIn, h2, h2 ▸ h1]
    · simp [ChuteEntry.conflictIn, h1, h2]

end adoption

/-! ## The refusals -/

/-- The rows of R45 after the common ones, in words. -/
theorem Part.firstRefusal_enrolRows (p : Part) (u t : Nat) (home : Option SlotId) :
    firstRefusal (p.enrolRows u t home) =
      if (p.findUnit u).isSome || (p.findTag t).isSome || home.any (fun x => (p.findHome x).isSome) then some .duplicate
      else if 512 ≤ p.fleet.length then some .tableFull else none := by
  rw [Part.enrolRows, Config.fleetCapacity]
  cases (p.findUnit u).isSome
  · cases (p.findTag t).isSome
    · cases home.any fun x => (p.findHome x).isSome
      · by_cases h : 512 ≤ p.fleet.length <;> simp [h]
      · rfl
    · rfl
  · rfl

/-- Rows that none applies before. -/
theorem firstRefusal_append {l l' : List (Bool × Reply)} (h : ∀ x ∈ l, x.1 = false) :
    firstRefusal (l ++ l') = firstRefusal l' := by
  induction l with
  | nil => rfl
  | cons x l ih =>
    obtain ⟨b, r⟩ := x
    obtain ⟨rfl, hl⟩ := List.forall_mem_cons.mp h
    rw [List.cons_append, firstRefusal_false, ih hl]

@[simp] theorem Part.received_adoptable (p : Part) (c : Instr) (h : ReqHdr) (tag : Nat) :
    (p.received c h).adoptable tag = p.adoptable tag :=
  Part.adoptable_congr (by simp) tag

@[simp] theorem Part.received_newcomer (p : Part) (c : Instr) (h : ReqHdr) (u t : Nat) (home : Option SlotId)
    (st : VehicleStatus) : (p.received c h).newcomer u t home st = p.newcomer u t home st := by
  simp [Part.newcomer]

theorem Part.received_quiet {p : Part} (hq : p.quiet) (c : Instr) (h : ReqHdr) : (p.received c h).quiet :=
  hq.congr (by simp)

/-- The outcome of an ENROL VEHICLE that is taken, the slots, the chute and the alarms aside: the record `v` joins the
table, and the reply names its status (R45). -/
def State.enrolledAs (s : State) (c : Instr) (h : ReqHdr) (v : Vehicle) (t : State) : Prop :=
  exec c s = .next t ∧ t.pending = s.pending ∧ t.part.replyOn h = some (.done (.enrolled v.status)) ∧
  t.part.fleet = s.part.fleet ++ [v] ∧ t.part.book = s.part.book ∧ t.part.late = s.part.late ∧
  t.part.sched = s.part.sched ∧ s.part.sameSupply t.part

section requests

variable {h : ReqHdr} {unit : BitVec 24} {tag : BitVec 32} {home : BitVec 16} {s : State} (hc : s.part.commands h 9)
  (h1 : 1 ≤ unit.toNat) (h2 : unit.toNat ≤ 999999) (h3 : 1 ≤ tag.toNat) (h4 : tag.toNat ≤ 4294967294)
  (h5 : home.toNat ≤ 384)
include hc h1 h2 h3 h4 h5

/-- ENROL VEHICLE in range, while commands are taken, is refused by the rows of R45 alone. -/
theorem enrolVehicle_rows (c : Instr) : firstRefusal ([(!validUnit unit, .badField 1), (!validTag tag.toNat, .badField 2),
      (decide (384 < home.toNat), .badField 3)] ++ (s.part.received c h).commandRows h.line ++
      (s.part.received c h).enrolRows unit.toNat tag.toNat (slotField home)) =
    firstRefusal (s.part.enrolRows unit.toNat tag.toNat (slotField home)) := by
  rw [firstRefusal_append]
  · simp [Part.enrolRows, Part.findHome]
  · rw [Part.commandRows_of_commands hc]
    simpa [validUnit_of_range h1 h2, validTag, h3, h4] using h5

theorem exec_enrolVehicle_refused {r : Reply}
    (hr : firstRefusal (s.part.enrolRows unit.toNat tag.toNat (slotField home)) = some r) :
    exec (.enrolVehicle h unit tag home) s = .next (s.answering (.enrolVehicle h unit tag home) h 0x12#8 r) := by
  change execEnrolVehicle h unit tag home s = _
  unfold execEnrolVehicle
  rw [State.request_takes hc.1 rfl, Part.checked, enrolVehicle_rows hc h1 h2 h3 h4 h5, hr]
  rfl

/-- ENROL VEHICLE that no row refuses, and whose enrolment disturbs nothing else: what stands after it (R45). -/
theorem exec_enrolVehicle_taken {st : VehicleStatus}
    (hr : firstRefusal (s.part.enrolRows unit.toNat tag.toNat (slotField home)) = none)
    (hu : s.part.findUnit unit.toNat = none) {q : Part}
    (hq : (s.part.received (.enrolVehicle h unit tag home) h).enrol unit.toNat tag.toNat (slotField home) = q)
    (he : (s.part.received (.enrolVehicle h unit tag home) h).enrolsAs q
      (s.part.newcomer unit.toNat tag.toNat (slotField home) st)) :
    ∃ t, s.enrolledAs (.enrolVehicle h unit tag home) h
        (s.part.newcomer unit.toNat tag.toNat (slotField home) st) t ∧
      (∀ y, t.part.slot y = q.slot y) ∧ t.part.chute = q.chute ∧ t.part.alarm.list = q.alarm.list ∧
      t.part.lines.notices = q.lines.notices := by
  have hst : q.statusOf unit.toNat = st :=
    he.statusOf (v := s.part.newcomer unit.toNat tag.toNat (slotField home) st) (by simpa [Part.newcomer] using hu)
  have hh : q.halted = false := by
    have hs : q.supply = s.part.supply := by simpa using he.supply
    simpa [Part.halted, hs] using hc.1.1.1
  have hexec : exec (.enrolVehicle h unit tag home) s = .next { s with
      part := s.part.answered q.settle h 0x12#8 (.done (.enrolled st)) } := by
    change execEnrolVehicle h unit tag home s = _
    unfold execEnrolVehicle
    rw [State.request_takes hc.1 rfl, Part.checked, enrolVehicle_rows hc h1 h2 h3 h4 h5, hr]
    dsimp only [settled]
    rw [hq, hst]
    rfl
  obtain ⟨hfleet, hbook, hlate, hsched, hsupply, huptime, hquiet⟩ := he
  refine ⟨_, ⟨hexec, rfl, by simp [Part.newcomer], ?_⟩, fun y => ?_, ?_⟩
  · rw [Part.settle_of_quiet hh hquiet]
    simp [Part.sameSupply, hfleet, hbook, hlate, hsched, hsupply, huptime]
  · rw [Part.answered_slot, Part.settle_quiet_slot hh hquiet]
  · rw [Part.settle_of_quiet hh hquiet]
    simp

/-- Enrolment of a vehicle whose tag the part has not seen (R45). -/
theorem enrolVehicle_away (hrows : firstRefusal (s.part.enrolRows unit.toNat tag.toNat (slotField home)) = none)
    (hu : s.part.findUnit unit.toNat = none) (hq : s.part.quiet) (ha : s.part.adoptable tag.toNat = [])
    (he : s.part.chute.unknownEntries tag.toNat = []) :
    ∃ t, s.enrolledAs (.enrolVehicle h unit tag home) h
        (s.part.newcomer unit.toNat tag.toNat (slotField home) .away) t ∧
      s.part.sameSlots t.part ∧ t.part.chute = s.part.chute ∧ t.part.alarm.list = s.part.alarm.list ∧
      t.part.lines.notices = s.part.lines.notices := by
  have ha' : (s.part.received (.enrolVehicle h unit tag home) h).adoptable tag.toNat = [] := by simpa using ha
  have he' : (s.part.received (.enrolVehicle h unit tag home) h).chute.unknownEntries tag.toNat = [] := by simpa using he
  obtain ⟨t, hen, hslot, hchute, hlist, hnotices⟩ := exec_enrolVehicle_taken hc h1 h2 h3 h4 h5 hrows hu rfl
    (by simpa using Part.enrolsAs_away (u := unit.toNat) (home := slotField home) (Part.received_quiet hq _ h) ha' he')
  rw [Part.enrol_of_unseen ha' he'] at hslot hchute hlist hnotices
  exact ⟨t, hen, fun y => (hslot y).trans (Part.received_slot ..), hchute.trans (by simp [Part.joined]),
    hlist.trans (by simp [Part.joined]), hnotices.trans (by simp [Part.joined])⟩

/-- Enrolment of a vehicle whose tag stands in slots (R46). -/
theorem enrolVehicle_slot (hrows : firstRefusal (s.part.enrolRows unit.toNat tag.toNat (slotField home)) = none)
    (hu : s.part.findUnit unit.toNat = none) (hq : s.part.quiet) {x : SlotId} {others : List SlotId}
    (ha : s.part.adoptable tag.toNat = x :: others) (hr : ∀ r ∈ s.part.sched.queue, r.slot ≠ x) :
    ∃ t, s.enrolledAs (.enrolVehicle h unit tag home) h
        (s.part.newcomer unit.toNat tag.toNat (slotField home) (.inSlot x)) t ∧
      (∃ reason arrived, s.part.custody x = .foreign tag.toNat reason arrived ∧
        t.part.custody x = .held tag.toNat unit.toNat arrived false) ∧
      (∀ y ∈ others, ∃ reason arrived, s.part.custody y = .foreign tag.toNat reason arrived ∧
        t.part.custody y = .foreign tag.toNat .duplicate arrived) ∧
      (∀ y, y ≠ x → y ∉ others → t.part.slot y = s.part.slot y) ∧
      t.part.chute.log =
        s.part.chute.log.map (ChuteEntry.conflictIn tag.toNat (s.part.chute.unknownEntries tag.toNat)) := by
  have ha' : (s.part.received (.enrolVehicle h unit tag home) h).adoptable tag.toNat = x :: others := by simpa using ha
  have hr' : ∀ r ∈ (s.part.received (.enrolVehicle h unit tag home) h).sched.queue, r.slot ≠ x := by simpa using hr
  obtain ⟨t, hen, hslot, hchute, -⟩ := exec_enrolVehicle_taken hc h1 h2 h3 h4 h5 hrows hu rfl
    (by simpa using Part.enrolsAs_slot (home := slotField home) (by simpa using hu) (Part.received_quiet hq _ h) ha' hr')
  obtain ⟨hx, ho, hy, hlog⟩ := Part.enrol_slot_effects (u := unit.toNat) (home := slotField home) ha' hr'
  have hadopt : ∀ y ∈ x :: others, ∃ m, s.part.custody y = .foreign tag.toNat .unknown m :=
    fun y hm => Part.custody_of_adoptable (ha ▸ hm)
  refine ⟨t, hen, ?_, fun y hm => ?_, fun y hne hm => ?_, ?_⟩
  · obtain ⟨m, hm⟩ := hadopt x List.mem_cons_self
    refine ⟨.unknown, m, hm, ?_⟩
    rw [Part.custody_of_slot (hslot x), hx, Part.custody_of_slot (Part.received_slot ..), hm]
    rfl
  · obtain ⟨m, hmy⟩ := hadopt y (List.mem_cons_of_mem x hm)
    refine ⟨.unknown, m, hmy, ?_⟩
    rw [Part.custody_of_slot (hslot y), ho y hm, Part.custody_of_slot (Part.received_slot ..), hmy]
    rfl
  · rw [hslot y, hy y hne hm, Part.received_slot]
  · rw [hchute, hlog]
    simp

/-- Enrolment of a vehicle whose tag stands in chute entries alone (R47). -/
theorem enrolVehicle_entry (hrows : firstRefusal (s.part.enrolRows unit.toNat tag.toNat (slotField home)) = none)
    (hu : s.part.findUnit unit.toNat = none) (hq : s.part.quiet) {n : Nat} {later : List Nat}
    (ha : s.part.adoptable tag.toNat = []) (he : s.part.chute.unknownEntries tag.toNat = n :: later) :
    ∃ t, s.enrolledAs (.enrolVehicle h unit tag home) h
        (s.part.newcomer unit.toNat tag.toNat (slotField home) (.dropped n)) t ∧
      s.part.sameSlots t.part ∧ t.part.chute.log = s.part.chute.log.map fun e =>
        if e.number ∈ later then { e with kind := .conflict tag.toNat }
        else if e.number = n then { e with kind := .named tag.toNat unit.toNat } else e := by
  have ha' : (s.part.received (.enrolVehicle h unit tag home) h).adoptable tag.toNat = [] := by simpa using ha
  have he' : (s.part.received (.enrolVehicle h unit tag home) h).chute.unknownEntries tag.toNat = n :: later := by
    simpa using he
  obtain ⟨t, hen, hslot, hchute, -⟩ := exec_enrolVehicle_taken hc h1 h2 h3 h4 h5 hrows hu rfl
    (by simpa using Part.enrolsAs_entry (home := slotField home) (by simpa using hu) (Part.received_quiet hq _ h) ha' he')
  obtain ⟨hcol, hlog⟩ := Part.enrol_entry_effects (u := unit.toNat) (home := slotField home) ha' he'
  refine ⟨t, hen, fun y => ?_, ?_⟩
  · rw [hslot y, Part.slot_of_columns hcol, Part.received_slot]
  · rw [hchute, hlog]
    simp

end requests

/-- An enrolment that R45 does not refuse. -/
theorem Part.enrolRows_none {p : Part} {u t : Nat} {home : Option SlotId} (hu : p.findUnit u = none)
    (ht : p.findTag t = none) (hh : ∀ x, home = some x → p.findHome x = none) (hl : p.fleet.length < 512) :
    firstRefusal (p.enrolRows u t home) = none := by
  have hhome : home.any (fun x => (p.findHome x).isSome) = false := by
    cases home with
    | none => rfl
    | some x => simp [hh x rfl]
  rw [Part.firstRefusal_enrolRows, hu, ht, hhome]
  simpa using hl

/-- What R45 refuses as DUPLICATE, in words. -/
theorem Part.enrolTaken_iff {p : Part} {u t : Nat} {home : BitVec 16} (h : home.toNat ≤ 384) :
    ((p.findUnit u).isSome || (p.findTag t).isSome || (slotField home).any (fun x => (p.findHome x).isSome)) = true ↔
      (∃ v ∈ p.fleet, v.unit = u) ∨ (∃ v ∈ p.fleet, v.tag = t) ∨
        ∃ v ∈ p.fleet, home.toNat ≠ 0 ∧ v.home = slotField home := by
  rw [ne_eq, ← slotField_eq_none h]
  cases slotField home <;> simp [Part.findUnit, Part.findTag, Part.findHome, or_assoc]

/-- Settles O21: the refusals by their rows, and the enrolment by what the part has seen of the tag. -/
theorem enrolVehicle : Obligations.EnrolVehicle := by
  refine ⟨fun h unit tag home s hc h1 h2 h3 h4 h5 => ⟨fun hd => ?_, fun hd hl => ?_⟩,
    fun h unit tag home s hc h1 h2 h3 h4 h5 hu ht hh hl hquiet => ?_⟩
  · refine exec_enrolVehicle_refused hc h1 h2 h3 h4 h5 ?_
    rw [Part.firstRefusal_enrolRows, if_pos ((Part.enrolTaken_iff h5).mpr hd)]
  · refine exec_enrolVehicle_refused hc h1 h2 h3 h4 h5 ?_
    rw [Part.firstRefusal_enrolRows, if_neg (mt (Part.enrolTaken_iff h5).mp hd), if_pos hl]
  · have hrows := Part.enrolRows_none hu ht hh hl
    exact ⟨enrolVehicle_away hc h1 h2 h3 h4 h5 hrows hu hquiet,
      fun _ _ => enrolVehicle_slot hc h1 h2 h3 h4 h5 hrows hu hquiet,
      fun _ _ => enrolVehicle_entry hc h1 h2 h3 h4 h5 hrows hu hquiet⟩

end Sys2Proof.Machine
end

section
/-! PROOFS. CANCEL RELEASE (R72, R75). -/
namespace Sys2Proof.Machine
set_option Elab.async false

/-! ## What a lookup of a request finds, and the link that an ending takes -/

theorem Part.findRelease_some {p : Part} {n : Nat} {r : Release} (h : p.findRelease n = some r) :
    r ∈ p.sched.queue ∧ r.number = n :=
  ⟨List.mem_of_find?_eq_some h, by simpa using List.find?_some h⟩

theorem Part.findRelease_eq_none {p : Part} {n : Nat} : p.findRelease n = none ↔ n ∉ p.liveNumbers := by
  simp [Part.findRelease, Part.liveNumbers]

/-- The ending of a release takes the request link of its vehicle (R57). -/
theorem Part.endRelease_request_none {p : Part} {r : Release} {o : ReleaseOutcome} {u : Nat} (ht : r.target.unit = some u) :
    ∀ w ∈ (p.endRelease r o).fleet, w.unit = u → w.request = none := by
  have hfleet : (p.endRelease r o).fleet = (((p.leaveQueue r o).leaveSlot r o).leaveLinks r o).fleet := by
    simp [Part.endRelease]
  have hcut : ∀ w ∈ (((p.leaveQueue r o).leaveSlot r o).updVehicle u fun v => { v with request := none }).fleet,
      w.unit = u → w.request = none := by
    rw [Part.updVehicle_fleet, List.forall_mem_map]
    intro w _
    split
    next => exact fun _ => rfl
    next hne => exact fun h => absurd h hne
  rw [hfleet, Part.leaveLinks, ht]
  dsimp only
  split
  · split
    · exact hcut
    · exact Part.forall_deleteContract hcut (fun _ hw => hw) _
  · exact hcut

/-! ## The request -/

/-- CANCEL RELEASE of a number that is not 0, while commands are taken, is answered by its lookup alone (R72). -/
theorem exec_cancelRelease {h : ReqHdr} {number : Byte} {s : State} (hc : s.part.commands h 1) (hn : number.toNat ≠ 0) :
    exec (.cancelRelease h number) s = .next { s with
      part := s.part.answered ((s.part.received (.cancelRelease h number) h).cancelRelease number.toNat).1 h 0x24#8
        ((s.part.received (.cancelRelease h number) h).cancelRelease number.toNat).2 } := by
  have hrows : ∀ x ∈ (decide (number.toNat = 0), Reply.badField 1) ::
      (s.part.received (.cancelRelease h number) h).commandRows h.line, x.1 = false := by
    simp [Part.commandRows_of_commands hc, hn]
  change execCancelRelease h number s = _
  unfold execCancelRelease
  rw [State.request_takes hc.1 rfl, Part.checked_taken hrows]
  rfl

theorem Part.received_findRelease (p : Part) (c : Instr) (h : ReqHdr) (n : Nat) :
    (p.received c h).findRelease n = p.findRelease n := by
  simp [Part.findRelease]

/-- Settles O29, by what the number is found to name: a live request, one that has ended, or none. -/
theorem cancelRelease : Obligations.CancelRelease := by
  intro h number s hc hn
  have hexec := exec_cancelRelease hc hn
  refine ⟨fun r hr => ?_, fun o hlive he => ?_, fun hlive he => ?_⟩
  · obtain ⟨-, hnum⟩ := Part.findRelease_some hr
    rw [Part.cancelRelease, Part.received_findRelease, hr] at hexec
    refine ⟨_, hexec, rfl, by simp [settled], ?_, ?_, fun u hu => ?_, fun n c hcn hfc ha => ?_, ?_, ?_⟩
    · simp [settled, Part.endRelease_liveNumbers, hnum]
    · have he := (s.part.received (.cancelRelease h number) h).endRelease_ended r .cancelled
      simpa [settled, hnum] using he
    · simpa [settled] using Part.endRelease_request_none hu
    · cases ht : r.target with
      | contract u m =>
        obtain rfl : m = n := by simpa [ht, Target.contractNumber] using hcn
        have hfc' : (s.part.received (.cancelRelease h number) h).findContract m = some c := by
          simpa [Part.findContract] using hfc
        simpa [settled] using Part.endRelease_pending (o := .cancelled) ht (by decide) hfc' ha
      | movement u => simp [ht, Target.contractNumber] at hcn
      | staffVehicle u => simp [ht, Target.contractNumber] at hcn
      | staffSlot => simp [ht, Target.contractNumber] at hcn
    · refine Part.map_status_of_statuses ?_
      simp [settled]
    · simp [settled, Part.sameSupply]
  · rw [Part.cancelRelease, Part.received_findRelease, Part.findRelease_eq_none.mpr hlive] at hexec
    have he' : (s.part.received (.cancelRelease h number) h).sched.ended.find? (fun e => e.1 == number.toNat) =
        some (number.toNat, o) := by simpa using he
    rw [hexec, he']
    rfl
  · rw [Part.cancelRelease, Part.received_findRelease, Part.findRelease_eq_none.mpr hlive] at hexec
    have he' : (s.part.received (.cancelRelease h number) h).sched.ended.find? (fun e => e.1 == number.toNat) = none := by
      simpa using he
    rw [hexec, he']
    rfl

end Sys2Proof.Machine
end

section
/-! PROOFS. What a selection leaves of the request it starts, and that the selections and the settling after it keep it
(R60 to R66, R69). -/

namespace Sys2Proof.Machine
set_option Elab.async false

/-! ## The request that a selection starts -/

/-- The phase in which a selection leaves its request: VERIFYING for a vehicle, OPEN at once for a slot (R65, R69). -/
def Part.startPhase (p : Part) (r : Release) : ReleasePhase :=
  if r.target = .staffSlot then .opened p.uptime p.uptime (p.uptime + p.late.settings.window * 1000) false
  else .verifying p.uptime

/-- A request as a selection leaves it. -/
def Part.startedBy (p : Part) (r : Release) : Release := { r with phase := p.startPhase r }

theorem Part.startedBy_vehicle {p : Part} {r : Release} {kind : VehicleKind} (h : r.target.vehicleKind = some kind) :
    p.startedBy r = { r with phase := .verifying p.uptime } := by
  have hne : r.target ≠ .staffSlot := fun e => by simp [e, Target.vehicleKind] at h
  simp [Part.startedBy, Part.startPhase, hne]

theorem Part.startedBy_staffSlot {p : Part} {r : Release} (h : r.target = .staffSlot) : p.startedBy r =
    { r with phase := .opened p.uptime p.uptime (p.uptime + p.late.settings.window * 1000) false } := by
  simp [Part.startedBy, Part.startPhase, h]

/-- A selection gives its request that phase and changes no other. -/
theorem Part.selectOne_queue_eq (p : Part) (r : Release) :
    (p.selectOne r).sched.queue = p.sched.queue.map (Release.startIn r.number (p.startPhase r)) := by
  cases hk : r.target.vehicleKind with
  | some kind =>
    have ht : r.target ≠ .staffSlot := fun e => by simp [e, Target.vehicleKind] at hk
    rw [Part.selectOne_vehicle p hk, Part.startPhase, if_neg ht]
    rfl
  | none =>
    rw [Part.selectOne_staffSlot p hk, Part.startPhase, if_pos ((Target.vehicleKind_eq_none_iff _).mp hk)]
    exact Release.startIn_startIn r.number (.verifying p.uptime) _ _

/-- A selection leaves its request in flight. -/
theorem Part.selectOne_flies {p : Part} {r : Release} (hn : p.liveNumbers.Nodup) (hm : r ∈ p.sched.queue) :
    (p.selectOne r).flies (p.startedBy r) := by
  refine Part.flies.of_queue (p := p.updRelease r.number fun q => { q with phase := p.startPhase r }) ⟨?_, ?_, ?_⟩
    (p.selectOne_queue_eq r)
  · rw [Part.findRelease_updRelease (by exact fun _ => rfl)]
    show Option.map _ (p.findRelease r.number) = _
    rw [Part.findRelease_of_mem hn hm]
    simp [Part.startedBy]
  · unfold Part.startedBy Part.startPhase
    split <;> rfl
  · rwa [Part.liveNumbers_of_requests (Part.updRelease_requests _ _ (by exact fun _ => rfl))]

/-! ## The column of a release in flight -/

theorem Part.flies.mem {p : Part} {r : Release} (h : p.flies r) : r ∈ p.sched.queue := List.mem_of_find?_eq_some h.1

/-- A selection changes the column of its request alone. -/
theorem Part.selectOne_column_of_ne (p : Part) {r : Release} {c : ColId} (h : r.slot.col ≠ c) :
    (p.selectOne r).column c = p.column c := by
  cases hk : r.target.vehicleKind with
  | some kind =>
    rw [Part.selectOne_vehicle p hk, Part.placeRead, Part.column_updColumn_of_ne _ _ h]
    exact Part.column_updColumn_of_ne _ _ h
  | none =>
    rw [Part.selectOne_staffSlot p hk]
    show (((p.charged r).requeueRead r.slot).strike r.slot).column c = _
    refine (Part.column_updColumn_of_ne _ _ h).trans ?_
    exact Part.column_updColumn_of_ne _ _ h

/-- A release in flight whose column is RUNNING and as given: no selection is made in that column (R61). -/
def Part.flyingIn (p : Part) (r : Release) (col : Column) : Prop :=
  p.flies r ∧ p.column r.slot.col = col ∧ col.engine = .running

section flyingIn

variable {p : Part} {r : Release} {col : Column} (h : p.flyingIn r col)
include h

theorem Part.flyingIn.selectOne {w : Release} (hw : p.winner = some w) : (p.selectOne w).flyingIn r col := by
  obtain ⟨hf, hc, hrun⟩ := h
  have hne : w.slot.col ≠ r.slot.col := by
    obtain ⟨-, -, hfree, -⟩ := (p.eligible_iff w).mp (Part.winner_mem hw).2
    refine (hfree r hf.mem fun e => ?_).symm
    simpa [Release.isWaiting, e] using hf.2.1
  exact ⟨hf.selectOne hw, (p.selectOne_column_of_ne hne).trans hc, hrun⟩

theorem Part.flyingIn.selectAll (n : Nat) : (selectAll n p).flyingIn r col :=
  selectAll_induct (P := fun q => q.flyingIn r col) (fun _ _ hq hw => hq.selectOne hw) n h

theorem Part.flyingIn.runColumn {c : ColId} (hm : p.mayRun c) : (p.runColumn c).flyingIn r col := by
  obtain ⟨hf, hc, hrun⟩ := h
  have hne : c ≠ r.slot.col := by
    rintro rfl
    have := hm.1
    simp [hc, hrun] at this
  exact ⟨hf.of_queue (by simp), (p.runColumn_column_of_ne hne).trans hc, hrun⟩

theorem Part.flyingIn.enterRunning (c : ColId) : (p.enterRunning c).flyingIn r col :=
  Part.enterRunning_induct (P := fun q : Part => q.flyingIn r col) (fun _ _ hq hm => hq.runColumn hm)
    (fun _ _ hq hw => hq.selectOne hw) c h

theorem Part.flyingIn.enterAll : (allCols.foldl Part.enterRunning p).flyingIn r col :=
  foldl_induct (P := fun q : Part => q.flyingIn r col) _ (fun _ c hq => hq.enterRunning c) h

end flyingIn

/-! ## The readers after a selection -/

/-- No request of a better precedence is startable than the one a reader starts (R27). -/
theorem chooseRequest_precedence {l : List ReadRequest} {x y : ReadRequest} (h : chooseRequest l = some x) (hy : y ∈ l) :
    y.purpose.precedence ≤ x.purpose.precedence := by
  have none_of {k : Nat} (hn : l.find? (fun r => r.purpose.precedence == k) = none) : y.purpose.precedence ≠ k := by
    simpa using List.find?_eq_none.mp hn y hy
  have some_of {k : Nat} (hs : l.find? (fun r => r.purpose.precedence == k) = some x) : x.purpose.precedence = k := by
    simpa using List.find?_some hs
  have htop : y.purpose.precedence ≤ 2 := by cases y.purpose <;> decide
  unfold chooseRequest at h
  rcases Option.or_eq_some_iff.mp h with h2 | ⟨n2, h⟩
  · have := some_of h2
    omega
  · rcases Option.or_eq_some_iff.mp h with h1 | ⟨n1, h0⟩
    · have := some_of h1
      have := none_of n2
      omega
    · have := some_of h0
      have := none_of n2
      have := none_of n1
      omega

/-- A reader starts nothing, or in an idle column the best request that no release of its slot keeps waiting (R27). -/
theorem Part.startReader_chosen (p : Part) (c : ColId) : p.startReader c = p ∨ ∃ x, (p.column c).reader = none ∧
    chooseRequest ((p.column c).readList.filter fun y => !p.staffSlotOn ⟨c, y.pos⟩) = some x ∧
    p.startReader c = p.updColumn c fun col => col.started x p.uptime := by
  unfold Part.startReader
  dsimp only
  split
  next hc =>
    split
    · exact .inl rfl
    next x hx => exact .inr ⟨x, by simp_all, hx, rfl⟩
  · exact .inl rfl

/-- What a column keeps when it starts the best request that `busy` positions leave, it keeps while the readers of a part
whose releases make those positions busy start. -/
theorem Part.startReaders_keeps_chosen {p : Part} {c : ColId} {busy : PosId → Bool} {K : Column → Prop}
    (hb : ∀ i, p.staffSlotOn ⟨c, i⟩ = busy i)
    (hK : ∀ col x now, col.reader = none → chooseRequest (col.readList.filter fun y => !busy y.pos) = some x → K col →
      K (col.started x now)) (h : K (p.column c)) : K (p.startReaders.column c) := by
  refine (foldl_induct (P := fun q : Part => q.sched.queue = p.sched.queue ∧ K (q.column c)) _ (fun q d hq => ?_)
    ⟨rfl, h⟩).2
  obtain ⟨hqueue, hk⟩ := hq
  refine ⟨by simpa using hqueue, ?_⟩
  rcases eq_or_ne d c with rfl | hne
  · have hbusy : ∀ i, q.staffSlotOn ⟨d, i⟩ = busy i := fun i => by rw [← hb i, Part.staffSlotOn, Part.staffSlotOn, hqueue]
    rcases q.startReader_chosen d with e | ⟨x, hnone, hx, e⟩
    · rwa [e]
    · simp only [hbusy] at hx
      rw [e, Part.column_updColumn_self]
      exact hK _ x _ hnone hx hk
  · rwa [q.startReader_column_of_ne hne]

/-- What the column of a release in flight keeps when it starts a read, the settling keeps. Where the release is of a slot
(STAFF_SLOT), its position is busy (R27). -/
theorem Part.flyingIn.settle_keeps {p : Part} {r : Release} {col : Column} (h : p.flyingIn r col)
    (hh : p.halted = false) {K : Column → Prop} (hcol : K col)
    (hK : ∀ busy : PosId → Bool, (r.target = .staffSlot → busy r.slot.pos = true) → ∀ col x now, col.reader = none →
      chooseRequest (col.readList.filter fun y => !busy y.pos) = some x → K col → K (col.started x now)) :
    K (p.settle.column r.slot.col) := by
  have hsettle : p.settle = ((allCols.foldl Part.enterRunning p).startReaders).decideDrives := by simp [Part.settle, hh]
  have hq := h.enterAll
  rw [hsettle, Part.decideDrives_column]
  generalize allCols.foldl Part.enterRunning p = q at hq
  obtain ⟨hf, hc, -⟩ := hq
  refine Part.startReaders_keeps_chosen (busy := fun i => q.staffSlotOn ⟨r.slot.col, i⟩) (fun _ => rfl)
    (hK (fun i => q.staffSlotOn ⟨r.slot.col, i⟩) fun ht => ?_) (by rwa [hc])
  have hin : r.inFlight = true := by
    rw [Release.inFlight_iff]
    intro e
    simpa [Release.isWaiting, e] using hf.2.1
  exact List.any_eq_true.mpr ⟨r, hf.mem, by simp [ht, hin]⟩

/-- The slots of the column of a release in flight are through a settling as they were. -/
theorem Part.flyingIn.settle_slot {p : Part} {r : Release} {col : Column} (h : p.flyingIn r col)
    (hh : p.halted = false) : p.settle.slot r.slot = col.slots[r.slot.pos] := by
  have hs : (p.settle.column r.slot.col).slots = col.slots :=
    h.settle_keeps hh (K := fun k => k.slots = col.slots) rfl fun _ _ _ _ _ _ _ e => e
  rw [Part.slot, hs]

/-! ## The read of a release that is VERIFYING -/

theorem Column.readStands.started {col : Column} {i : PosId} (h : col.readStands i) (hn : col.reader = none)
    {x : ReadRequest} (now : Ms) : (col.started x now).readStands i := by
  rcases h with ⟨y, hy, rfl⟩ | ⟨rd, hrd, -⟩
  · rcases eq_or_ne x.pos y.pos with e | hne
    · exact .inr ⟨_, rfl, e⟩
    · exact .inl ⟨y, List.mem_filter.mpr ⟨hy, by simpa using hne.symm⟩, rfl⟩
  · simp [hn] at hrd

/-- A request that is placed leaves the engine state of its column. -/
theorem Column.place_engine (col : Column) (i : PosId) (x : Purpose) : (col.place i x).engine = col.engine := by
  unfold Column.place
  repeat' split
  all_goals rfl

/-- A read of a position serves VERIFY and goes on doing so: the one in progress serves it, or it is on the list and only
an AUDIT stands beside it (R26, R27). -/
def Column.verifies (col : Column) (i : PosId) : Prop :=
  (∃ rd, col.reader = some rd ∧ rd.pos = i ∧ (rd.purpose = .verify ∨ .verify ∈ rd.also)) ∨
  ⟨i, .verify⟩ ∈ col.readList ∧ ∀ x ∈ col.readList, x.pos = i → x.purpose = .verify ∨ x.purpose = .audit

theorem Column.verifies.readServes {col : Column} {i : PosId} (h : col.verifies i) : col.readServes i .verify := by
  rcases h with h | ⟨hm, -⟩
  · exact .inr h
  · exact .inl ⟨_, hm, rfl, rfl⟩

theorem Column.verifies.started {col : Column} {i : PosId} (h : col.verifies i) {busy : PosId → Bool} {x : ReadRequest}
    (hn : col.reader = none) (hx : chooseRequest (col.readList.filter fun y => !busy y.pos) = some x) (now : Ms) :
    (col.started x now).verifies i := by
  rcases h with ⟨rd, hrd, -⟩ | ⟨hm, hclean⟩
  · simp [hn] at hrd
  · obtain ⟨hxl, hxb⟩ := List.mem_filter.mp (chooseRequest_mem hx)
    rcases eq_or_ne x.pos i with rfl | hne
    · have hp := chooseRequest_precedence hx (List.mem_filter.mpr ⟨hm, hxb⟩)
      rcases hclean x hxl rfl with hv | ha
      · exact .inl ⟨_, rfl, rfl, .inl hv⟩
      · simp [ha, Purpose.precedence] at hp
    · refine .inr ⟨List.mem_filter.mpr ⟨hm, by simpa using hne.symm⟩, fun y hy => hclean y (List.mem_filter.mp hy).1⟩

/-- VERIFY placed for a position where no ARRIVAL or RECHECK stands is served (R26). -/
theorem Column.place_verifies {col : Column} {i : PosId} (hw : col.engine.watches = true)
    (hc : ∀ x ∈ col.readList, x.pos = i → x.purpose = .verify ∨ x.purpose = .audit) : (col.place i .verify).verifies i := by
  have hlist : ⟨i, .verify⟩ ∈ enterRequest col.readList i .verify ∧
      ∀ x ∈ enterRequest col.readList i .verify, x.pos = i → x.purpose = .verify ∨ x.purpose = .audit := by
    unfold enterRequest
    split
    next hnone => exact ⟨by simp, by simpa [or_imp, forall_and] using hc⟩
    next y hy =>
      have hm := List.mem_of_find?_eq_some hy
      have hi : y.pos = i := by simpa using List.find?_some hy
      split
      next =>
        refine ⟨by simp, fun x hx hxi => ?_⟩
        have : x = ⟨i, .verify⟩ := by simpa [hxi] using hx
        exact .inl (by rw [this])
      next hge =>
        have hv : y.purpose = .verify := (hc y hm hi).resolve_right fun ha => hge (by rw [ha]; decide)
        exact ⟨by rwa [← hi, ← hv], hc⟩
  unfold Column.place
  rw [if_pos hw]
  split
  next rd hrd =>
    split
    next hi => exact .inl ⟨_, rfl, hi, .inr (by simp)⟩
    next => exact .inr hlist
  next => exact .inr hlist

/-! ## The read of a slot whose release is OPEN -/

/-- A request is on the list of a column whose reader does not read its position. -/
def Column.parks (col : Column) (x : ReadRequest) : Prop :=
  x ∈ col.readList ∧ ∀ rd, col.reader = some rd → rd.pos ≠ x.pos

theorem Column.parks.started {col : Column} {x y : ReadRequest} (h : col.parks x) {busy : PosId → Bool}
    (hb : busy x.pos = true) (hy : chooseRequest (col.readList.filter fun z => !busy z.pos) = some y) (now : Ms) :
    (col.started y now).parks x := by
  have hne : y.pos ≠ x.pos := by
    have := (List.mem_filter.mp (chooseRequest_mem hy)).2
    intro e
    simp [e, hb] at this
  refine ⟨List.mem_filter.mpr ⟨h.1, by simpa using hne.symm⟩, fun rd hrd => ?_⟩
  obtain rfl : _ = rd := Option.some.inj hrd
  exact hne

theorem Column.requeue_parks {col : Column} {i : PosId} {rd : Read} (h : col.reader = some rd) (hi : rd.pos = i) :
    (col.requeue i).parks ⟨rd.pos, rd.purpose⟩ := by
  subst hi
  simp [Column.requeue, h, Column.parks]

/-! ## The charges -/

theorem Part.selectOne_strikes (p : Part) (r : Release) :
    (p.selectOne r).sched.strikes = p.sched.strikes ++ [⟨p.uptime, false⟩] := by
  cases hk : r.target.vehicleKind with
  | some kind =>
    rw [Part.selectOne_vehicle p hk]
    rfl
  | none =>
    rw [Part.selectOne_staffSlot p hk]
    rfl

/-- One request more is in flight. -/
theorem countP_startIn {l : List Release} {r : Release} {ph : ReleasePhase} (hn : (l.map (·.number)).Nodup) (hr : r ∈ l)
    (hw : r.inFlight = false) (hph : ph ≠ .waiting) :
    (l.map (Release.startIn r.number ph)).countP Release.inFlight = l.countP Release.inFlight + 1 := by
  have hsame : ∀ q ∈ l.erase r, q.startIn r.number ph = q := by
    intro q hq
    obtain ⟨hne, hq⟩ := hn.of_map.mem_erase_iff.mp hq
    exact Release.startIn_of_ne fun e => hne (List.inj_on_of_nodup_map hn hq hr e)
  have hself : (r.startIn r.number ph).inFlight = true := by simpa [Release.startIn, Release.inFlight_iff] using hph
  have hp := List.perm_cons_erase hr
  rw [(hp.map _).countP_eq, hp.countP_eq, List.map_cons, (List.map_congr_left hsame).trans (List.map_id _),
    List.countP_cons_of_pos hself, List.countP_cons_of_neg (by simp [hw])]

/-- Since a number `i` of releases was in flight and the charges were `l`, every selection has charged one strike at the
current uptime for the one request that it started (R62, R63). -/
def Part.chargedSince (p : Part) (l : List Strike) (i : Nat) : Prop :=
  ∃ k, p.sched.strikes = l ++ List.replicate k ⟨p.uptime, false⟩ ∧ (p.liveNumbers.Nodup → p.sched.inFlight = i + k)

section chargedSince

variable {p : Part} {l : List Strike} {i : Nat}

theorem Part.chargedSince_self (p : Part) : p.chargedSince p.sched.strikes p.sched.inFlight := ⟨0, by simp, by simp⟩

theorem Part.chargedSince.of_sched {q : Part} (h : p.chargedSince l i) (hs : q.sched = p.sched) (hu : q.uptime = p.uptime) :
    q.chargedSince l i := by
  rwa [Part.chargedSince, Part.liveNumbers, hs, hu]

theorem Part.chargedSince.selectOne (h : p.chargedSince l i) {r : Release} (hw : p.winner = some r) :
    (p.selectOne r).chargedSince l i := by
  obtain ⟨k, hs, hf⟩ := h
  obtain ⟨hm, he⟩ := Part.winner_mem hw
  have hlive : (p.selectOne r).liveNumbers = p.liveNumbers := Part.liveNumbers_of_requests (p.selectOne_sched r).1
  have hwait : r.inFlight = false := by
    obtain ⟨hph, -⟩ := (p.eligible_iff r).mp he
    simp [Release.inFlight, hph]
  have hph : p.startPhase r ≠ .waiting := by
    unfold Part.startPhase
    split <;> simp
  refine ⟨k + 1, ?_, fun hn => ?_⟩
  · rw [Part.selectOne_strikes, hs, (p.selectOne_frame r).1, List.replicate_succ', List.append_assoc]
  · rw [hlive] at hn
    have hf := hf hn
    rw [Scheduler.inFlight_eq] at hf ⊢
    rw [Part.selectOne_queue_eq, countP_startIn hn hm hwait hph, hf, Nat.add_assoc]

theorem Part.chargedSince.selection (h : p.chargedSince l i) : p.selection.chargedSince l i :=
  Part.selection_induct (P := fun q : Part => q.chargedSince l i) (fun _ _ hq hw => hq.selectOne hw) h

theorem Part.chargedSince.settle (h : p.chargedSince l i) : p.settle.chargedSince l i := by
  refine Part.settle_induct (P := fun q : Part => q.chargedSince l i) ?_ (fun _ _ hq hw => hq.selectOne hw) ?_ ?_ h
  · exact fun q c hq _ => hq.of_sched (by simp) (by simp)
  · exact fun q c hq => hq.of_sched (by simp) (by simp)
  · exact fun q hq => hq.of_sched rfl rfl

theorem Part.chargedSince.strike_mem (h : p.chargedSince l i) {k : Strike} (hk : k ∈ l) : k ∈ p.sched.strikes := by
  obtain ⟨n, hs, -⟩ := h
  exact hs ▸ List.mem_append_left _ hk

end chargedSince

/-! ## The slot and the reads of the request that a selection starts -/

section started

variable {p : Part} {r : Release}

theorem Part.selectOne_vehicle_column {kind : VehicleKind} (hk : r.target.vehicleKind = some kind) :
    (p.selectOne r).column r.slot.col = ((p.column r.slot.col).updSlot r.slot.pos fun x =>
      { x with record := { x.record with custody := (p.custody r.slot).released kind } }).place r.slot.pos .verify := by
  rw [Part.selectOne_vehicle p hk, Part.placeRead, Part.column_updColumn_self]
  congr 1
  exact Part.column_updColumn_self ..

theorem Part.selectOne_staffSlot_column (ht : r.target = .staffSlot) :
    (p.selectOne r).column r.slot.col = ((p.column r.slot.col).requeue r.slot.pos).updSlot r.slot.pos fun x =>
      { x with engine := { x.engine with latch := x.engine.latch.map (Latch.struck p.uptime) } } := by
  rw [Part.selectOne_staffSlot p ((Target.vehicleKind_eq_none_iff _).mpr ht)]
  show (((p.charged r).requeueRead r.slot).strike r.slot).column r.slot.col = _
  rw [Part.strike, Part.updLatch, Part.updEngine, Part.updSlot, Part.column_updColumn_self, Part.requeueRead,
    Part.column_updColumn_self]
  rfl

theorem Part.selectOne_flyingIn (hn : p.liveNumbers.Nodup) (hm : r ∈ p.sched.queue) (hs : p.mayStart r) :
    (p.selectOne r).flyingIn (p.startedBy r) ((p.selectOne r).column r.slot.col) := by
  obtain ⟨-, hrun, -⟩ := hs
  exact ⟨Part.selectOne_flies hn hm, rfl, (Part.engineState_of_bases (Part.selectOne_bases p r) _).trans hrun⟩

variable {q : Part} (h : q.flyingIn (p.startedBy r) ((p.selectOne r).column r.slot.col)) (hh : q.halted = false)
include h

theorem Part.started_findRelease : q.settle.findRelease r.number = some (p.startedBy r) := h.1.settle.1

include hh

theorem Part.started_slot : q.settle.slot r.slot = (p.selectOne r).slot r.slot := h.settle_slot hh

theorem Part.started_vehicle_custody {kind : VehicleKind} (hk : r.target.vehicleKind = some kind) :
    q.settle.custody r.slot = (p.custody r.slot).released kind := by
  rw [Part.custody_of_slot (Part.started_slot h hh), Part.selectOne_vehicle p hk, Part.custody_of_slot (Part.placeRead_slot ..)]
  exact Part.custody_setCustody_self ..

/-- A read of the slot stands, and serves VERIFY where no ARRIVAL or RECHECK stood (R26, R65). -/
theorem Part.started_vehicle_reads {kind : VehicleKind} (hk : r.target.vehicleKind = some kind) :
    (q.settle.column r.slot.col).readStands r.slot.pos ∧
    ((∀ x ∈ (p.column r.slot.col).readList, x.pos = r.slot.pos → x.purpose = .verify ∨ x.purpose = .audit) →
      (q.settle.column r.slot.col).readServes r.slot.pos .verify) := by
  have hcol := Part.selectOne_vehicle_column (p := p) hk
  generalize hset : (p.column r.slot.col).updSlot r.slot.pos _ = set at hcol
  have hwatch : set.engine.watches = true := by
    rw [← Column.place_engine set r.slot.pos .verify, ← hcol, h.2.2]
    rfl
  have hlist : set.readList = (p.column r.slot.col).readList := by rw [← hset, Column.updSlot_readList]
  refine ⟨h.settle_keeps hh (K := fun col => col.readStands r.slot.pos) ?_ fun _ _ _ _ now hn _ hk => hk.started hn now,
    fun hc => (h.settle_keeps hh (K := fun col => col.verifies r.slot.pos) ?_
      fun _ _ _ _ now hn hx hk => hk.started hn hx now).readServes⟩
  · rw [hcol]
    exact Column.place_readStands hwatch ..
  · rw [hcol]
    exact Column.place_verifies hwatch (hlist ▸ hc)

theorem Part.started_staffSlot_latch (ht : r.target = .staffSlot) {since : Option Ms}
    (hl : (p.engine r.slot).latch = some (.closed since)) : (q.settle.engine r.slot).latch = some (.striking p.uptime) := by
  rw [Part.engine_of_slot (Part.started_slot h hh),
    Part.selectOne_staffSlot p ((Target.vehicleKind_eq_none_iff _).mpr ht)]
  exact Part.openRelease_latch (p := (p.charged r).requeueRead r.slot) (r := { r with phase := .verifying p.uptime })
    ((congrArg SlotEngine.latch (Part.engine_of_slot (Part.requeueRead_slot ..))).trans hl)

theorem Part.started_staffSlot_custody (ht : r.target = .staffSlot) : q.settle.custody r.slot = p.custody r.slot := by
  rw [Part.custody_of_slot (Part.started_slot h hh),
    Part.selectOne_staffSlot p ((Target.vehicleKind_eq_none_iff _).mpr ht), Part.custody, Part.record_openRelease]
  exact Part.custody_of_slot (Part.requeueRead_slot ..)

/-- A read of the slot in progress is back on the list, and none starts while the release stands (R27, R28). -/
theorem Part.started_staffSlot_reads (ht : r.target = .staffSlot) {rd : Read}
    (hr : (p.column r.slot.col).reader = some rd) (hp : rd.pos = r.slot.pos) :
    (q.settle.column r.slot.col).parks ⟨rd.pos, rd.purpose⟩ := by
  refine h.settle_keeps hh (K := fun col => col.parks ⟨rd.pos, rd.purpose⟩) ?_
    fun busy hb col x now _ hx hk => hk.started (by rw [← hb ht]; exact congrArg busy hp) hx now
  rw [Part.selectOne_staffSlot_column ht]
  exact Column.requeue_parks hr hp

end started

/-! ## The request that comes first -/

/-- The selection that a part makes starts the request that comes first, and the settling after it keeps what it did for
that request (R60, R64, R65, R66, R69). -/
theorem Part.isBest.selected {p : Part} {r : Release} (hb : p.isBest r) (hn : p.liveNumbers.Nodup)
    (hr : p.isReady = true) : p.selected p.selection.settle r := by
  have hm : r ∈ p.sched.queue := by
    obtain ⟨-, pre, post, hq, -⟩ := hb
    simp [hq]
  have hstrike : ⟨p.uptime, false⟩ ∈ p.selection.settle.sched.strikes := by
    rw [Part.selection_of_isBest p r hr hb]
    refine Part.chargedSince.strike_mem (l := (p.selectOne r).sched.strikes) (i := (p.selectOne r).sched.inFlight) ?_
      (by simp [Part.selectOne_strikes])
    exact (selectAll_induct (P := fun q : Part => q.chargedSince _ _) (fun _ _ hq hw => hq.selectOne hw) _
      (Part.chargedSince_self _)).settle
  have hu : p.selection.settle.uptime = p.uptime := by simp
  have hh : p.selection.halted = false := by
    have hphase : p.supply.phase = .ready := by simpa [Part.isReady] using hr
    simp [Part.halted, hphase]
  have hfly : p.selection.flyingIn (p.startedBy r) ((p.selectOne r).column r.slot.col) := by
    rw [Part.selection_of_isBest p r hr hb]
    exact (Part.selectOne_flyingIn hn hm hb.1).selectAll _
  rw [Part.selected, hu]
  refine ⟨hstrike, fun kind hk => ⟨?_, fun tag unit m f hc => ?_, Part.started_vehicle_reads hfly hh hk⟩,
    fun ht => ⟨?_, fun since hl => Part.started_staffSlot_latch hfly hh ht hl, Part.started_staffSlot_custody hfly hh ht,
      fun rd hrd hp => Part.started_staffSlot_reads hfly hh ht hrd hp⟩⟩
  · rw [Part.started_findRelease hfly, Part.startedBy_vehicle hk]
    rfl
  · rw [Part.started_vehicle_custody hfly hh hk, hc]
    rfl
  · rw [Part.started_findRelease hfly, Part.startedBy_staffSlot ht]
    rfl

/-! ## Parts that select alike -/

/-- Two parts whose selections agree: the requests of the second are those of the first but for the mark of the aging time,
and what R61 to R64 weigh is the same. -/
structure Part.sameRivals (p q : Part) (mark : Release → Release) : Prop where
  queue : q.sched.queue = p.sched.queue.map mark
  marked : ∀ r, mark r = { r with aged := (mark r).aged }
  columns : q.columns = p.columns
  charges : q.charges = p.charges
  uptime : q.uptime = p.uptime
  settings : q.late.settings = p.late.settings
  supply : q.supply = p.supply
  held : ∀ u, q.unitHeld u = p.unitHeld u
  hold : q.lines.holdUntil.isNone = p.lines.holdUntil.isNone

section sameRivals

variable {p q : Part} {mark : Release → Release} (h : p.sameRivals q mark)
include h

theorem Part.sameRivals.fields (r : Release) : (mark r).number = r.number ∧ (mark r).target = r.target ∧
    (mark r).slot = r.slot ∧ (mark r).cls = r.cls ∧ (mark r).origin = r.origin ∧ (mark r).submit = r.submit ∧
    (mark r).phase = r.phase := by
  rw [h.marked r]
  simp

theorem Part.sameRivals.rank (r : Release) : q.rank (mark r) = p.rank r ∧ q.selectionRank (mark r) = p.selectionRank r := by
  obtain ⟨-, -, -, hcls, -, hsubmit, -⟩ := h.fields r
  simp [Part.rank, Part.selectionRank, hcls, hsubmit, h.settings, h.uptime]

theorem Part.sameRivals.columnFree (c : ColId) : q.columnFree c = p.columnFree c := by
  have hany : (q.sched.queue.any fun r => r.inFlight && r.slot.col == c) =
      p.sched.queue.any fun r => r.inFlight && r.slot.col == c := by
    rw [h.queue, List.any_map]
    congr 1
    funext r
    obtain ⟨-, -, hslot, -, -, -, hphase⟩ := h.fields r
    simp [Release.inFlight, hslot, hphase]
  rw [Part.columnFree, Part.columnFree, hany, Part.column_congr h.columns]

theorem Part.sameRivals.inFlight : q.sched.inFlight = p.sched.inFlight := by
  rw [Scheduler.inFlight_eq, Scheduler.inFlight_eq, h.queue, List.countP_map]
  congr 1
  funext r
  obtain ⟨-, -, -, -, -, -, hphase⟩ := h.fields r
  simp [Release.inFlight, hphase]

theorem Part.sameRivals.mayStart (r : Release) : q.mayStart (mark r) ↔ p.mayStart r := by
  obtain ⟨-, htarget, hslot, -, horigin, -, hphase⟩ := h.fields r
  have hheld : q.unitHeld = p.unitHeld := funext h.held
  rw [← Part.eligible_iff, ← Part.eligible_iff]
  simp only [Part.eligible, Release.isWaiting, htarget, hslot, horigin, hphase, hheld, h.columnFree, h.inFlight, h.charges,
    h.supply, h.hold, (h.rank r).1]

/-- The request that comes first is the same. -/
theorem Part.sameRivals.isBest {r : Release} (hb : p.isBest r) : q.isBest (mark r) := by
  obtain ⟨hs, pre, post, hq, hpre, hpost⟩ := hb
  have hsubmit (r : Release) : (mark r).submit = r.submit := by
    obtain ⟨-, -, -, -, -, hsubmit, -⟩ := h.fields r
    exact hsubmit
  refine ⟨(h.mayStart r).mpr hs, pre.map mark, post.map mark, by rw [h.queue, hq, List.map_append, List.map_cons], ?_, ?_⟩
  · simpa only [List.forall_mem_map, h.mayStart, (h.rank _).2, hsubmit] using hpre
  · simpa only [List.forall_mem_map, h.mayStart, (h.rank _).2, hsubmit] using hpost

theorem Part.sameRivals.liveNumbers : q.liveNumbers = p.liveNumbers := by
  rw [Part.liveNumbers, h.queue, List.map_map]
  exact List.map_congr_left fun r _ => (h.fields r).1

/-- What the second part does for its request, it does for the first part's. -/
theorem Part.sameRivals.selected {t : Part} {r : Release} (hs : q.selected t (mark r)) : p.selected t r := by
  obtain ⟨hnumber, htarget, hslot, -⟩ := h.fields r
  have hslots (x : SlotId) : q.slot x = p.slot x := Part.slot_congr h.columns x
  simpa only [Part.selected, hnumber, htarget, hslot, Part.column_congr h.columns, Part.custody_of_slot (hslots _),
    Part.engine_of_slot (hslots _), h.settings] using hs

end sameRivals

end Sys2Proof.Machine
end

section
/-! PROOFS. The timers of the scheduler: strike charges, aging and take deadlines (R60, R63, R64, R71). -/

namespace Sys2Proof.Machine
set_option Elab.async false

/-! ## The charges within the window as time passes (R63) -/

theorem Mode.window_le (m : Mode) : m.window ≤ 5000 := by cases m <;> decide

/-- The charges that a count leaves out are within no window. -/
theorem filter_within_filter {l : List Strike} {g : Strike → Bool} {w now : Ms}
    (hg : ∀ k : Strike, now < k.charged + w → g k = true) :
    (l.filter g).filter (fun k => k.within w now) = l.filter fun k => k.within w now := by
  rw [List.filter_filter]
  refine List.filter_congr fun k _ => ?_
  by_cases h : now < k.charged + w
  · simp [Strike.within, h, hg k h]
  · simp [Strike.within, h]

/-- Time that passes leaves the history enough to count the charges of every window (R63). -/
theorem Part.advanceTo_charges {p : Part} (hh : p.halted = false) (t : Ms) :
    (p.advanceTo t).charges = { p with uptime := (p.advanceTo t).uptime }.charges := by
  unfold Part.advanceTo
  split
  · rfl
  · have hw := p.supply.mode.window_le
    simp only [Part.charges, Part.elapse, hh, Bool.false_eq_true, if_false]
    refine congrArg List.length (filter_within_filter fun k hk => ?_)
    have : p.uptime + (t - p.uptime) < k.charged + Config.historyTime := hk.trans_le (Nat.add_le_add_left hw _)
    simp [this]

theorem Part.markCharges_charges (p : Part) : p.markCharges.charges = p.charges := by
  rw [Part.charges, Part.markCharges, List.filter_map, List.length_map]
  rfl

theorem Part.dropOldCharges_charges (p : Part) : p.dropOldCharges.charges = p.charges :=
  congrArg List.length (filter_within_filter fun _ hk =>
    decide_eq_true (hk.trans_le (Nat.add_le_add_left p.supply.mode.window_le _)))

theorem Part.advanceTo_settings (p : Part) (t : Ms) : (p.advanceTo t).late.settings = p.late.settings := by
  unfold Part.advanceTo
  split <;> simp

/-! ## A charge leaves the window -/

/-- The part at a moment at which the charges are counted afresh. -/
def Part.recounted (p : Part) (t : Ms) : Part := (p.advanceTo t).markCharges.dropOldCharges

theorem Part.recounted_frame (p : Part) (t : Ms) :
    (p.recounted t).columns = p.columns ∧ (p.recounted t).fleet = p.fleet ∧ (p.recounted t).book = p.book ∧
    (p.recounted t).chute = p.chute ∧ (p.recounted t).supply = p.supply ∧ (p.recounted t).lines = p.lines ∧
    (p.recounted t).sched.queue = p.sched.queue ∧ (p.recounted t).late.settings = p.late.settings ∧
    (p.recounted t).uptime = (p.advanceTo t).uptime := by
  simp [Part.recounted, Part.markCharges, Part.dropOldCharges, Part.advanceTo_settings]

theorem Part.recounted_sameRivals {p : Part} (hh : p.halted = false) (t : Ms) :
    Part.sameRivals { p with uptime := (p.recounted t).uptime } (p.recounted t) id := by
  obtain ⟨hcolumns, hfleet, -, -, hsupply, hlines, hqueue, hsettings, huptime⟩ := p.recounted_frame t
  have hcharges : (p.recounted t).charges = { p with uptime := (p.advanceTo t).uptime }.charges := by
    rw [Part.recounted, Part.dropOldCharges_charges, Part.markCharges_charges, Part.advanceTo_charges hh]
  exact {
    queue := by rw [hqueue, List.map_id]
    marked := fun _ => rfl
    columns := hcolumns
    charges := by rw [hcharges, huptime]
    uptime := rfl
    settings := hsettings
    supply := hsupply
    held := fun u => by simp [Part.unitHeld, Part.findUnit, hfleet]
    hold := by rw [hlines] }

/-- No charge older than the longest window is kept (R63). -/
theorem Part.recounted_recent (p : Part) (t : Ms) : ∀ k ∈ (p.recounted t).sched.strikes,
    (p.recounted t).uptime < k.charged + 5000 :=
  fun _ hk => of_decide_eq_true (List.mem_filter.mp hk).2

/-- What the selection and the settling charge is charged now. -/
theorem Part.chargedSince.recent {p : Part} {l : List Strike} {i : Nat} (h : p.chargedSince l i)
    (hl : ∀ k ∈ l, p.uptime < k.charged + 5000) : ∀ k ∈ p.sched.strikes, p.uptime < k.charged + 5000 := by
  obtain ⟨n, hs, -⟩ := h
  intro k hk
  rw [hs, List.mem_append] at hk
  rcases hk with hk | hk
  · exact hl k hk
  · rw [List.eq_of_mem_replicate hk]
    exact Nat.lt_add_of_pos_right (by decide)

/-! ## The selection that follows a timer -/

section timed

variable {p q : Part} {mark : Release → Release}

/-- A selection of a part whose rivals are those of the part at the moment of the timer: no request that may be started
waits after it, and the one that comes first has been selected (R60, R61, R64, R65). -/
theorem Part.sameRivals.settled (h : Part.sameRivals { p with uptime := q.uptime } q mark) :
    p.isReady = true → q.selection.settle.noneMayStart ∧ (p.liveNumbers.Nodup →
      ∀ r, { p with uptime := q.selection.settle.uptime }.isBest r → p.selected q.selection.settle r) := by
  intro hr
  have hready : q.isReady = true := by simpa [Part.isReady, h.supply] using hr
  have huptime : q.selection.settle.uptime = q.uptime := by simp
  refine ⟨Part.settle_noneMayStart (by simpa [Part.isReady] using hready) (Part.selection_noneMayStart hready),
    fun hn r hb => ?_⟩
  rw [huptime] at hb
  have hs := h.selected ((h.isBest hb).selected (h.liveNumbers.symm ▸ hn) hready)
  exact hs

theorem Part.sameRivals.settled_liveNumbers (h : Part.sameRivals { p with uptime := q.uptime } q mark) :
    q.selection.settle.liveNumbers = p.liveNumbers := by
  rw [Part.settle_liveNumbers, Part.selection_liveNumbers, h.liveNumbers]
  rfl

end timed

/-- The window of a mode, in milliseconds (R62). -/
theorem Mode.window_eq (m : Mode) : m.window = if m = .mains then 2000 else 5000 := by cases m <;> rfl

theorem exec_strikeChargeExpiry {k : Strike} {s : State} (hh : s.part.halted = false)
    (hk : s.part.sched.strikes.find? (fun k => !k.left) = some k) : exec .strikeChargeExpiry s = .next
      { s with part := (s.part.recounted (k.charged + s.part.supply.mode.window)).selection.settle } := by
  change execStrikeChargeExpiry s = _
  exact State.liveHandle_some hh (by rw [Part.expireCharge, hk]; rfl)

/-! ## A request reaches the aging time -/

/-- The mark of the aging time, for the request of a number (R64). -/
def Release.markAged (n : Nat) (r : Release) : Release := if r.number = n then { r with aged := true } else r

/-- The part at the moment at which the request of a number has waited the aging time. -/
def Part.agedAt (p : Part) (n : Nat) (t : Ms) : Part := (p.advanceTo t).updRelease n fun r => { r with aged := true }

theorem Part.agedAt_frame (p : Part) (n : Nat) (t : Ms) :
    (p.agedAt n t).columns = p.columns ∧ (p.agedAt n t).fleet = p.fleet ∧ (p.agedAt n t).book = p.book ∧
    (p.agedAt n t).chute = p.chute ∧ (p.agedAt n t).supply = p.supply ∧ (p.agedAt n t).lines = p.lines ∧
    (p.agedAt n t).sched.queue = p.sched.queue.map (Release.markAged n) ∧
    (p.agedAt n t).late.settings = p.late.settings ∧ (p.agedAt n t).uptime = (p.advanceTo t).uptime := by
  have hqueue : (p.advanceTo t).sched.queue = p.sched.queue := by simp
  have hmap : (p.agedAt n t).sched.queue = p.sched.queue.map (Release.markAged n) := by
    rw [Part.agedAt, Part.updRelease_queue, hqueue]
    rfl
  refine ⟨?_, ?_, ?_, ?_, ?_, ?_, hmap, p.advanceTo_settings t, rfl⟩ <;> simp [Part.agedAt]

theorem Part.agedAt_sameRivals {p : Part} (hh : p.halted = false) (n : Nat) (t : Ms) :
    Part.sameRivals { p with uptime := (p.agedAt n t).uptime } (p.agedAt n t) (Release.markAged n) := by
  obtain ⟨hcolumns, hfleet, -, -, hsupply, hlines, hqueue, hsettings, -⟩ := p.agedAt_frame n t
  exact {
    queue := hqueue
    marked := fun r => by
      unfold Release.markAged
      split <;> rfl
    columns := hcolumns
    charges := Part.advanceTo_charges hh t
    uptime := rfl
    settings := hsettings
    supply := hsupply
    held := fun u => by simp [Part.unitHeld, Part.findUnit, hfleet]
    hold := by rw [hlines] }

/-- The request has its mark, whatever is selected then. -/
theorem Part.agedAt_marked (p : Part) (n : Nat) (t : Ms) :
    ∀ q ∈ (p.agedAt n t).selection.settle.sched.queue, q.number = n → q.aged = true := by
  intro q hq hn
  have hreq : (p.agedAt n t).selection.settle.requests = (p.agedAt n t).requests := by
    rw [(Part.settle_requests _).1, (Part.selection_requests _).1]
  obtain ⟨x, hx, hxq⟩ := List.mem_map.mp (hreq ▸ List.mem_map_of_mem hq : q.bare ∈ (p.agedAt n t).requests)
  have hxn : x.number = n := (congrArg Release.number hxq).trans hn
  obtain ⟨-, -, -, -, -, -, hqueue, -⟩ := p.agedAt_frame n t
  rw [hqueue] at hx
  obtain ⟨y, -, rfl⟩ := List.mem_map.mp hx
  have hxa : (y.markAged n).bare.aged = q.bare.aged := by rw [hxq]
  change (y.markAged n).aged = q.aged at hxa
  rw [← hxa, Release.markAged]
  split
  next => rfl
  next hne =>
    rw [Release.markAged, if_neg hne] at hxn
    exact absurd hxn hne

theorem exec_agingReached {n : Nat} {r : Release} {s : State} (hh : s.part.halted = false)
    (hr : s.part.findRelease n = some r) (hp : r.phase = .waiting) (hc : r.cls = .standard) (ha : r.aged = false) :
    exec (.agingReached n) s = .next
      { s with part := (s.part.agedAt n (r.submit + s.part.late.settings.aging * 1000)).selection.settle } := by
  have hmay : r.mayAge = true := by simp [Release.mayAge, Release.isWaiting, hp, hc, ha]
  change execAgingReached n s = _
  exact State.liveHandle_some hh (by simp only [Part.age, hr, hmay, if_true]; rfl)

/-- Once the aging time is over a STANDARD request ranks as PRIORITY (R64). -/
theorem Part.rank_of_aged {p : Part} {r : Release} (hc : r.cls = .standard)
    (h : r.submit + p.late.settings.aging * 1000 ≤ p.uptime) : p.rank r = 1 := by
  simp [Part.rank, hc, h]

/-! ## A take deadline -/

/-- The record of an OPEN release that ends goes back where the outcome returns it (R10, R75). -/
theorem Part.leave_custody_of_open {p : Part} {r : Release} (ho : r.isOpen = true) {o : ReleaseOutcome}
    (hr : o.returnsRecord = true) : (p.leave r o).custody r.slot =
      if r.target = .staffSlot then p.custody r.slot else (p.custody r.slot).returned := by
  have hstop : ((p.leaveQueue r o).stopLatch r.slot).custody r.slot = p.custody r.slot :=
    congrArg SlotRecord.custody (Part.record_updLatch (p.leaveQueue r o) ..)
  rw [Part.custody_of_slot (Part.slot_congr (Part.leave_columns ..) _), Part.leaveSlot]
  cases hp : r.phase with
  | opened a b c d =>
    have hf : r.inFlight = true := by simp [Release.inFlight, hp]
    have hk : r.target.vehicleKind.isSome = decide (r.target ≠ .staffSlot) := by cases r.target <;> rfl
    simp only [hf, hr, hk, Bool.true_and, Bool.and_true]
    by_cases ht : r.target = .staffSlot
    · simp [ht, hstop]
    · simp [ht, hstop]
  | waiting => simp [Release.isOpen, hp] at ho
  | verifying t => simp [Release.isOpen, hp] at ho

/-- A slot as it was, whose latch is on its way: no selection is made in its column (R61). -/
def Part.busySlot (p : Part) (x : SlotId) (k : Slot) : Prop := p.slot x = k ∧ k.engine.latch.any Latch.busy = true

section busySlot

variable {p : Part} {x : SlotId} {k : Slot} (h : p.busySlot x k)
include h

theorem Part.busySlot.selectOne {r : Release} (hw : p.winner = some r) : (p.selectOne r).busySlot x k := by
  obtain ⟨hx, hb⟩ := h
  have hne : r.slot ≠ x := by
    rintro rfl
    obtain ⟨-, -, -, hlatch, -⟩ := (p.eligible_iff r).mp (Part.winner_mem hw).2
    obtain ⟨l, hl, hbusy⟩ := (Option.any_eq_true ..).mp (hx ▸ hb)
    obtain ⟨since, rfl⟩ := hlatch r.slot.pos l hl
    cases hbusy
  exact ⟨(Part.selectOne_slot_of_ne p hne).trans hx, hb⟩

theorem Part.busySlot.selection : p.selection.busySlot x k :=
  Part.selection_induct (P := fun q : Part => q.busySlot x k) (fun _ _ hq hw => hq.selectOne hw) h

theorem Part.busySlot.settle : p.settle.busySlot x k := by
  refine Part.settle_induct (P := fun q : Part => q.busySlot x k) ?_ (fun _ _ hq hw => hq.selectOne hw) ?_ ?_ h
  · exact fun q c hq _ => ⟨(Part.runColumn_slot q c x).trans hq.1, hq.2⟩
  · exact fun q c hq => ⟨(Part.startReader_slot q c x).trans hq.1, hq.2⟩
  · exact fun q hq => hq

end busySlot

/-- The latch and the record of an OPEN release that ends while its latch is driven (R12, R75). -/
theorem Part.endRelease_open_slot {p : Part} {r : Release} (ho : r.isOpen = true) {o : ReleaseOutcome}
    (hr : o.returnsRecord = true) {l : Latch} (hl : (p.engine r.slot).latch = some l) (hd : l.driven = true) :
    ((p.endRelease r o).settle.engine r.slot).latch = some (.closing p.uptime) ∧
    (p.endRelease r o).settle.custody r.slot =
      if r.target = .staffSlot then p.custody r.slot else (p.custody r.slot).returned := by
  have hlatch : ((p.leave r o).engine r.slot).latch = some (.closing p.uptime) := by
    rw [Part.leave_latch ho, hl, Option.map_some, Latch.stopped_of_driven hd]
  have hbusy : (p.leave r o).busySlot r.slot ((p.leave r o).slot r.slot) :=
    ⟨rfl, (Option.any_eq_true ..).mpr ⟨_, hlatch, rfl⟩⟩
  have hslot : (p.endRelease r o).settle.slot r.slot = (p.leave r o).slot r.slot := hbusy.selection.settle.1
  exact ⟨by rw [Part.engine_of_slot hslot, hlatch],
    (Part.custody_of_slot hslot).trans (Part.leave_custody_of_open ho hr)⟩

/-- The part at the take deadline of a release (R71). -/
def Part.atDeadline (p : Part) (n : Nat) (r : Release) (t : Ms) : Part :=
  if (p.engine r.slot).removing then (p.advanceTo t).updRelease n fun r => { r with phase := r.phase.passDeadline }
  else (p.advanceTo t).endRelease r .notTaken

section deadline

variable {n : Nat} {r : Release} {a b deadline : Ms} {s : State} (hh : s.part.halted = false)
  (hr : s.part.findRelease n = some r) (hp : r.phase = .opened a b deadline false)
include hh hr hp

theorem exec_takeDeadline :
    exec (.takeDeadline n) s = .next { s with part := (s.part.atDeadline n r deadline).settle } := by
  have hd : r.phase.deadline = some deadline := by rw [hp]; rfl
  have he : (s.part.advanceTo deadline).engine r.slot = s.part.engine r.slot := Part.engine_of_slot (Part.advanceTo_slot ..)
  change execTakeDeadline n s = _
  refine State.liveHandle_some hh ?_
  rw [Part.atDeadline, ← he, Part.passDeadline, hr, Option.bind_some, hd]
  rfl

/-- The release whose deadline passes while no removal candidate is in progress ends NOT_TAKEN (R71). -/
theorem takeDeadline_ends (hrem : (s.part.engine r.slot).removing = false) : ∃ t,
    exec (.takeDeadline n) s = .next t ∧ t.pending = s.pending ∧ t.part.uptime = s.part.timeAt deadline ∧
    t.part.liveNumbers = s.part.liveNumbers.filter (fun m => m != n) ∧
    (n, ReleaseOutcome.notTaken) ∈ t.part.sched.ended ∧
    (∀ l, (s.part.engine r.slot).latch = some l → l.driven = true →
      (t.part.engine r.slot).latch = some (.closing t.part.uptime) ∧
      t.part.custody r.slot = if r.target = .staffSlot then s.part.custody r.slot
        else (s.part.custody r.slot).returned) ∧
    t.part.fleet.map (·.status) = s.part.fleet.map (·.status) ∧ t.part.book.ring = s.part.book.ring ∧
    t.part.chute = s.part.chute ∧ t.part.supply = s.part.supply := by
  obtain ⟨-, rfl⟩ := Part.findRelease_some hr
  have hexec := exec_takeDeadline hh hr hp
  rw [Part.atDeadline, if_neg (by simp [hrem])] at hexec
  generalize hq : s.part.advanceTo deadline = q at hexec
  have hslot : q.slot r.slot = s.part.slot r.slot := hq ▸ Part.advanceTo_slot ..
  have hqueue : q.liveNumbers = s.part.liveNumbers := by simp [Part.liveNumbers, ← hq]
  have huptime : q.uptime = s.part.timeAt deadline := hq ▸ Part.advanceTo_uptime hh deadline
  refine ⟨_, hexec, rfl, ?_, ?_, ?_, fun l hl hd => ?_, Part.map_status_of_statuses ?_, ?_, ?_, ?_⟩
  · simpa using huptime
  · rw [Part.settle_liveNumbers, Part.endRelease_liveNumbers, hqueue]
  · rw [(Part.settle_requests _).2]
    exact Part.endRelease_ended ..
  · have ho : r.isOpen = true := by simp [Release.isOpen, hp]
    rw [← Part.engine_of_slot hslot] at hl
    have hends := Part.endRelease_open_slot ho (o := .notTaken) rfl hl hd
    rw [Part.custody_of_slot hslot] at hends
    simpa using hends
  · rw [Part.statuses_congr (Part.settle_frame _).2.1, (Part.endRelease_tables ..).1]
    exact Part.statuses_congr (by simp [← hq])
  · simp [← hq]
  · simp [← hq]
  · simp [← hq]

/-- With a removal candidate in progress the release takes the deadline passed mark alone (R71). -/
theorem takeDeadline_passes (hrem : (s.part.engine r.slot).removing = true) (hquiet : s.part.quiet) : ∃ t,
    exec (.takeDeadline n) s = .next t ∧ t.pending = s.pending ∧ t.part.uptime = s.part.timeAt deadline ∧
    t.part.findRelease n = some { r with phase := .opened a b deadline true } ∧
    t.part.liveNumbers = s.part.liveNumbers ∧ t.part.sched.ended = s.part.sched.ended ∧ s.part.sameSlots t.part ∧
    t.part.fleet = s.part.fleet ∧ t.part.book = s.part.book ∧ t.part.chute = s.part.chute ∧
    t.part.supply = s.part.supply := by
  obtain ⟨-, hnum⟩ := Part.findRelease_some hr
  have hexec := exec_takeDeadline hh hr hp
  rw [Part.atDeadline, if_pos hrem] at hexec
  generalize hq : (s.part.advanceTo deadline).updRelease n (fun r => { r with phase := r.phase.passDeadline }) = q at hexec
  have hhalt : q.halted = false := by simpa [Part.halted, ← hq] using hh
  have hqq : q.quiet := hquiet.congr (by simp [← hq])
  have hreq : q.requests = s.part.requests := by
    rw [← hq, Part.updRelease_requests _ _ (by exact fun _ => rfl)]
    exact Part.requests_congr (by simp)
  refine ⟨_, hexec, rfl, ?_, ?_, ?_, ?_, fun x => ?_, ?_, ?_, ?_, ?_⟩
  · simpa [← hq] using Part.advanceTo_uptime hh deadline
  · have hfind : (s.part.advanceTo deadline).findRelease n = some r := by simpa [Part.findRelease] using hr
    rw [Part.findRelease, Part.settle_quiet_queue hhalt hqq, ← hq]
    refine (Part.findRelease_updRelease (by exact fun _ => rfl) n n).trans ?_
    rw [hfind, Option.map_some, if_pos hnum, hp]
    rfl
  · rw [Part.settle_liveNumbers, Part.liveNumbers_of_requests hreq]
  · rw [(Part.settle_requests _).2, ← hq]
    simp
  · rw [Part.settle_quiet_slot hhalt hqq, ← hq]
    exact Part.slot_congr (by simp) x
  all_goals simp [← hq]

end deadline

/-- Settles O46: a charge that leaves its window and a request that ages change nothing else that a selection weighs, so
the selection after them is the one of the part at that moment; at a deadline by whether a removal candidate is in
progress. -/
theorem releaseTimers : Obligations.ReleaseTimers := by
  refine ⟨fun k s hh hk => ?_, fun n r s hh hr hp hc ha => ?_, fun n r a b deadline s hh hr hp =>
    ⟨takeDeadline_ends hh hr hp, takeDeadline_passes hh hr hp⟩⟩
  · rw [← Mode.window_eq]
    generalize hm : k.charged + s.part.supply.mode.window = moment
    have hexec := hm ▸ exec_strikeChargeExpiry hh hk
    obtain ⟨-, hfleet, hbook, hchute, hsupply, -, -, -, huptime⟩ := s.part.recounted_frame moment
    have hsame := Part.recounted_sameRivals hh moment
    have hcharged := (s.part.recounted moment).chargedSince_self.selection.settle
    have hu : (s.part.recounted moment).selection.settle.uptime = (s.part.recounted moment).uptime := by simp
    refine ⟨_, hexec, rfl, ?_, hcharged.recent (hu ▸ s.part.recounted_recent moment), hsame.settled,
      hsame.settled_liveNumbers, by simpa using hfleet, by simpa using hbook, by simpa using hchute,
      by simpa using hsupply⟩
    exact hu.trans (huptime.trans (Part.advanceTo_uptime hh moment))
  · have hexec := exec_agingReached hh hr hp hc ha
    generalize hm : r.submit + s.part.late.settings.aging * 1000 = moment at hexec
    obtain ⟨-, hfleet, hbook, hchute, hsupply, -, -, hsettings, huptime⟩ := s.part.agedAt_frame n moment
    have hsame := Part.agedAt_sameRivals hh n moment
    have hu : (s.part.agedAt n moment).selection.settle.uptime = s.part.timeAt moment := by
      simpa using huptime.trans (Part.advanceTo_uptime hh moment)
    refine ⟨_, hexec, rfl, hu, Part.rank_of_aged hc ?_, s.part.agedAt_marked n moment, hsame.settled,
      hsame.settled_liveNumbers, by simpa using hfleet, by simpa using hbook, by simpa using hchute,
      by simpa using hsupply⟩
    have hlate : (s.part.agedAt n moment).selection.settle.late.settings = s.part.late.settings := by simpa using hsettings
    rw [hu, hlate, hm]
    exact le_max_right ..

end Sys2Proof.Machine
end

section
/-! PROOFS. RELEASE: the request that is accepted, with the selection that follows, and the refusals (R55, R57 to R65,
R69). -/

namespace Sys2Proof.Machine
set_option Elab.async false

/-! ## Numbers given in turn -/

/-- The search for a free number goes through used numbers up to the one it ends at. -/
theorem freeNumber_steps (g : Nat) (used : List Nat) (fuel last : Nat) : ∃ k,
    freeNumber g used fuel last = (wrapNext g)^[k + 1] last ∧ ∀ j < k, (wrapNext g)^[j + 1] last ∈ used := by
  induction fuel generalizing last with
  | zero => exact ⟨0, rfl, by simp⟩
  | succ fuel ih =>
    unfold freeNumber
    dsimp only
    split
    next hu =>
      obtain ⟨k, hk, hused⟩ := ih (wrapNext g last)
      refine ⟨k + 1, hk, ?_⟩
      rintro (_ | j) hj
      · exact hu
      · exact hused j (by omega)
    next => exact ⟨0, rfl, by simp⟩

theorem freeNumber_range {g : Nat} (hg : 0 < g) (used : List Nat) (fuel last : Nat) :
    1 ≤ freeNumber g used fuel last ∧ freeNumber g used fuel last ≤ g := by
  obtain ⟨k, hk, -⟩ := freeNumber_steps g used fuel last
  have := Nat.mod_lt (wrapNext g last - 1 + k) hg
  rw [hk, wrapNext_iterate hg]
  omega

/-- The number given is the next free one after the last given, cyclically (R57). -/
theorem freeNumber_nextFree {g : Nat} {used : List Nat} (h : used.length < g) {last : Nat} (hl : last ≤ g) :
    nextFree g last used (freeNumber g used used.length last) := by
  have hg : 0 < g := by omega
  have hstep : ∀ k, (wrapNext g)^[k + 1] last = (last + k) % g + 1 := by
    intro k
    rw [wrapNext_iterate hg, wrapNext]
    split
    next hle =>
      obtain rfl : last = g := by omega
      simp
    next => rfl
  obtain ⟨k, hk, hused⟩ := freeNumber_steps g used used.length last
  exact ⟨k, hk.trans (hstep k), freeNumber_not_mem h last, fun j hj => hstep j ▸ hused j hj⟩

/-! ## The acceptance of a request -/

/-- The number that the next request is given (R57). -/
def Part.nextNumber (p : Part) : Nat := freeNumber 255 p.liveNumbers p.liveNumbers.length p.sched.lastNumber

/-- The request that an acceptance adds to the queue (R55, R57, R59). -/
def Part.newRequest (p : Part) (target : Target) (x : SlotId) (cls : ReleaseClass) (origin : Line) : Release :=
  ⟨p.nextNumber, target, x, cls, origin, p.uptime, .waiting, false⟩

/-- A vehicle of the unit number is linked to a request; the others stay (R42). -/
def Vehicle.linked (u n : Nat) (w : Vehicle) : Vehicle := if w.unit = u then { w with request := some n } else w

theorem Vehicle.linked_frame (u n : Nat) (w : Vehicle) : (w.linked u n).unit = w.unit ∧ (w.linked u n).hold = w.hold := by
  unfold Vehicle.linked
  split <;> exact ⟨rfl, rfl⟩

section accept

variable (p : Part) (target : Target) (x : SlotId) (cls : ReleaseClass) (origin : Line)

theorem Part.accept_effects :
    (p.accept target x cls origin).2 = p.nextNumber ∧
    (p.accept target x cls origin).1.sched.queue = p.sched.queue ++ [p.newRequest target x cls origin] ∧
    (p.accept target x cls origin).1.sched.strikes = p.sched.strikes ∧
    (p.accept target x cls origin).1.columns = p.columns ∧ (p.accept target x cls origin).1.uptime = p.uptime ∧
    (p.accept target x cls origin).1.supply = p.supply ∧ (p.accept target x cls origin).1.lines = p.lines ∧
    (p.accept target x cls origin).1.chute = p.chute := by
  unfold Part.accept
  dsimp only
  split <;> exact ⟨rfl, rfl, rfl, rfl, rfl, rfl, rfl, rfl⟩

/-- The vehicle of a request is linked to it (R42, R59). -/
theorem Part.accept_fleet_vehicle {u : Nat} (h : target.unit = some u) :
    (p.accept target x cls origin).1.fleet = p.fleet.map (Vehicle.linked u p.nextNumber) := by
  simp only [Part.accept, h]
  rfl

theorem Part.accept_fleet_slot (h : target.unit = none) : (p.accept target x cls origin).1.fleet = p.fleet := by
  simp only [Part.accept, h]

theorem Part.accept_unitHeld (u : Nat) : (p.accept target x cls origin).1.unitHeld u = p.unitHeld u := by
  cases ht : target.unit with
  | none => rw [Part.unitHeld, Part.findUnit, Part.accept_fleet_slot _ _ _ _ _ ht, Part.unitHeld, Part.findUnit]
  | some v =>
    have hunit : (fun w : Vehicle => w.unit == u) ∘ Vehicle.linked v p.nextNumber = fun w => w.unit == u :=
      funext fun w => congrArg (· == u) (w.linked_frame v p.nextNumber).1
    have hhold : (fun w => (Vehicle.linked v p.nextNumber w).hold.isSome) = fun w => w.hold.isSome :=
      funext fun w => congrArg Option.isSome (w.linked_frame v p.nextNumber).2
    rw [Part.unitHeld, Part.findUnit, Part.accept_fleet_vehicle _ _ _ _ _ ht, List.find?_map, hunit, Option.any_map, hhold,
      Part.unitHeld, Part.findUnit]

theorem Part.accept_inFlight : (p.accept target x cls origin).1.sched.inFlight = p.sched.inFlight := by
  obtain ⟨-, hqueue, -⟩ := p.accept_effects target x cls origin
  rw [Scheduler.inFlight_eq, Scheduler.inFlight_eq, hqueue, List.countP_append]
  rfl

end accept

theorem Part.nextNumber_not_mem {p : Part} (h : p.sched.queue.length < 16) : p.nextNumber ∉ p.liveNumbers :=
  freeNumber_not_mem (by simp [Part.liveNumbers]; omega) _

theorem Part.selected.of_same {p q q' : Part} {r : Release} (h : p.selected q r) (hc : q'.columns = q.columns)
    (hs : q'.sched = q.sched) (hu : q'.uptime = q.uptime) : p.selected q' r := by
  have hslot (x : SlotId) : q'.slot x = q.slot x := Part.slot_congr hc x
  simpa only [Part.selected, Part.findRelease, Part.column_congr hc, Part.custody_of_slot (hslot _),
    Part.engine_of_slot (hslot _), hs, hu] using h

/-! ## The outcome of a RELEASE that is accepted -/

section received

variable (s : State) (c : Instr) (h : ReqHdr) (target : Target) (x : SlotId) (cls : ReleaseClass)

/-- The part whose line has received the request, the request accepted, before the selection. -/
def State.accepting : Part := ((s.part.received c h).accept target x cls h.line).1

/-- The state after a RELEASE that is accepted: the selection, the settling and the reply with the number (R59, R60). -/
def State.accepted : State :=
  { s with part := s.part.answered (s.accepting c h target x cls).selection.settle h 0x23#8 (.accepted s.part.nextNumber) }

theorem State.accepting_effects : (s.accepting c h target x cls).sched.queue =
      s.part.sched.queue ++ [s.part.newRequest target x cls h.line] ∧
    (s.accepting c h target x cls).sched.strikes = s.part.sched.strikes ∧
    (s.accepting c h target x cls).columns = s.part.columns ∧ (s.accepting c h target x cls).uptime = s.part.uptime ∧
    (s.accepting c h target x cls).supply = s.part.supply ∧ (s.accepting c h target x cls).chute = s.part.chute ∧
    (s.accepting c h target x cls).book = s.part.book ∧ (s.accepting c h target x cls).late = s.part.late := by
  obtain ⟨-, hqueue, hstrikes, hcolumns, huptime, hsupply, -, hchute⟩ :=
    (s.part.received c h).accept_effects target x cls h.line
  have hnew : (s.part.received c h).newRequest target x cls h.line = s.part.newRequest target x cls h.line := by
    simp [Part.newRequest, Part.nextNumber]
  unfold State.accepting
  refine ⟨?_, ?_, ?_, ?_, ?_, ?_, ?_, ?_⟩
  · simpa [hnew] using hqueue
  · simpa using hstrikes
  · simpa using hcolumns
  · simpa using huptime
  · simpa using hsupply
  · simpa using hchute
  · simp
  · simp

theorem State.accepting_sameRivals : Part.sameRivals
    { s.part with sched := { s.part.sched with
      queue := s.part.sched.queue ++ [s.part.newRequest target x cls h.line] } } (s.accepting c h target x cls) id := by
  obtain ⟨hqueue, hstrikes, hcolumns, huptime, hsupply, -, -, hlate⟩ := s.accepting_effects c h target x cls
  exact {
    queue := hqueue.trans (List.map_id _).symm
    marked := fun _ => rfl
    columns := hcolumns
    charges := by rw [Part.charges, hstrikes, hsupply, huptime, Part.charges]
    uptime := huptime
    settings := congrArg _ hlate
    supply := hsupply
    held := fun u => ((s.part.received c h).accept_unitHeld target x cls h.line u).trans (by simp [Part.unitHeld, Part.findUnit])
    hold := by
      obtain ⟨-, -, -, -, -, -, hlines, -⟩ := (s.part.received c h).accept_effects target x cls h.line
      rw [State.accepting, hlines, ← Option.not_isSome, ← Option.not_isSome, Part.received_hold] }

theorem State.accepted_liveNumbers :
    (s.accepted c h target x cls).part.liveNumbers = s.part.liveNumbers ++ [s.part.nextNumber] := by
  have hlive : (s.accepting c h target x cls).liveNumbers = s.part.liveNumbers ++ [s.part.nextNumber] := by
    rw [(s.accepting_sameRivals c h target x cls).liveNumbers, Part.liveNumbers, List.map_append]
    rfl
  rw [State.accepted, Part.answered_liveNumbers, Part.settle_liveNumbers, Part.selection_liveNumbers, hlive]

/-- The request stands in the queue, whatever became of it in the selection (R59). -/
theorem State.accepted_queue : ∃ r ∈ (s.accepted c h target x cls).part.sched.queue, r.number = s.part.nextNumber ∧
    r.target = target ∧ r.slot = x ∧ r.cls = cls ∧ r.origin = h.line ∧ r.submit = s.part.uptime := by
  obtain ⟨hqueue, -⟩ := s.accepting_effects c h target x cls
  have hreq : (s.accepted c h target x cls).part.requests = (s.accepting c h target x cls).requests := by
    have hsched : (s.accepted c h target x cls).part.sched = (s.accepting c h target x cls).selection.settle.sched := by
      simp [State.accepted]
    rw [Part.requests, hsched, ← Part.requests, (Part.settle_requests _).1, (Part.selection_requests _).1]
  have hmem : (s.part.newRequest target x cls h.line).bare ∈ (s.accepted c h target x cls).part.requests := by
    rw [hreq, Part.requests, hqueue]
    exact List.mem_map_of_mem (by simp)
  obtain ⟨r, hr, he⟩ := List.mem_map.mp hmem
  injection he with hnumber htarget hslot hcls horigin hsubmit
  exact ⟨r, hr, hnumber, htarget, hslot, hcls, horigin, hsubmit⟩

theorem State.accepted_fleet_vehicle {u : Nat} (ht : target.unit = some u) :
    (s.accepted c h target x cls).part.fleet = s.part.fleet.map (Vehicle.linked u s.part.nextNumber) := by
  have hfleet := (s.part.received c h).accept_fleet_vehicle target x cls h.line ht
  simpa [State.accepted, State.accepting, Part.nextNumber] using hfleet

theorem State.accepted_fleet_slot (ht : target.unit = none) :
    (s.accepted c h target x cls).part.fleet = s.part.fleet := by
  have hfleet := (s.part.received c h).accept_fleet_slot target x cls h.line ht
  simpa [State.accepted, State.accepting] using hfleet

variable {s}

theorem State.accepted_noneMayStart (hr : s.part.isReady = true) :
    (s.accepted c h target x cls).part.noneMayStart := by
  have hready : (s.accepting c h target x cls).isReady = true := by
    rw [Part.isReady, (s.accepting_sameRivals c h target x cls).supply]
    exact hr
  exact Part.answered_noneMayStart
    (Part.settle_noneMayStart (by simpa [Part.isReady] using hready) (Part.selection_noneMayStart hready))

/-- The request that comes first has been selected (R60, R64). -/
theorem State.accepted_selected (hr : s.part.isReady = true) (hl : s.part.sched.queue.length < 16)
    (hn : s.part.liveNumbers.Nodup) {r : Release}
    (hb : Part.isBest { s.part with sched := { s.part.sched with
      queue := s.part.sched.queue ++ [s.part.newRequest target x cls h.line] } } r) :
    s.part.selected (s.accepted c h target x cls).part r := by
  have hsame := s.accepting_sameRivals c h target x cls
  have hnodup : (s.accepting c h target x cls).liveNumbers.Nodup := by
    rw [hsame.liveNumbers, Part.liveNumbers, List.map_append]
    exact List.nodup_append_comm.mp (List.nodup_cons.mpr ⟨Part.nextNumber_not_mem hl, hn⟩)
  have hready : (s.accepting c h target x cls).isReady = true := by
    rw [Part.isReady, hsame.supply]
    exact hr
  have hs : s.part.selected (s.accepting c h target x cls).selection.settle r :=
    hsame.selected ((hsame.isBest hb).selected hnodup hready)
  exact hs.of_same (by simp [State.accepted]) (by simp [State.accepted]) (by simp [State.accepted])

/-- Each selection charges one strike (R62, R63). -/
theorem State.accepted_strikes (hl : s.part.sched.queue.length < 16) (hn : s.part.liveNumbers.Nodup) :
    (s.accepted c h target x cls).part.sched.strikes = s.part.sched.strikes ++ List.replicate
      ((s.accepted c h target x cls).part.sched.inFlight - s.part.sched.inFlight) ⟨s.part.uptime, false⟩ := by
  obtain ⟨-, hstrikes, -, huptime, -⟩ := s.accepting_effects c h target x cls
  obtain ⟨k, hk, hf⟩ : (s.accepted c h target x cls).part.chargedSince _ _ :=
    (s.accepting c h target x cls).chargedSince_self.selection.settle.of_sched (by simp [State.accepted])
      (by simp [State.accepted])
  have hnodup : (s.accepted c h target x cls).part.liveNumbers.Nodup := by
    rw [State.accepted_liveNumbers]
    exact List.nodup_append_comm.mp (List.nodup_cons.mpr ⟨Part.nextNumber_not_mem hl, hn⟩)
  have hflight : (s.accepting c h target x cls).sched.inFlight = s.part.sched.inFlight :=
    ((s.part.received c h).accept_inFlight target x cls h.line).trans (by simp [Scheduler.inFlight])
  rw [hk, hf hnodup, hstrikes, hflight, Nat.add_sub_cancel_left]
  simp [State.accepted, huptime]

end received

/-! ## The rows of R58 -/

theorem firstRefusal_append_of_some {l : List (Bool × Reply)} {r : Reply} (h : firstRefusal l = some r)
    (l' : List (Bool × Reply)) : firstRefusal (l ++ l') = some r := by
  induction l with
  | nil => cases h
  | cons a l ih =>
    obtain ⟨b, q⟩ := a
    cases b
    · exact ih h
    · exact h

theorem Part.checked_refused {p : Part} {rows : List (Bool × Reply)} {r : Reply} (h : firstRefusal rows = some r)
    (effect : Part → Part × Reply) : p.checked rows effect = (p, r) := by
  rw [Part.checked, h]

/-- The rows of a vehicle release after that of the second request, for a vehicle that is in a slot (R58). -/
theorem Part.firstRefusal_vehicleRows {p : Part} {v : Vehicle} {x : SlotId} (hv : v.status = .inSlot x)
    (hr : v.request = none) (reserved : Bool) : firstRefusal (p.vehicleRows v v.request.isSome reserved) =
      if v.hold ≠ none then some .onHold
      else if (p.record x).outOfService = true then some (.wrongState .slotOutOfService)
      else if (p.record x).unreachable = true then some (.wrongState .slotUnreachable)
      else if reserved = true ∧ p.supply.mode = .lowReserve then some .reservePower
      else if 16 ≤ p.sched.queue.length then some .queueFull else none := by
  have hslot := Vehicle.slot_of_status hv
  simp only [Part.vehicleRows, Part.slotRows, Part.queueRow, Vehicle.isIn, hslot, hr, Config.queueCapacity]
  cases hhold : v.hold with
  | some _ => rfl
  | none =>
    cases (p.record x).outOfService
    · cases (p.record x).unreachable
      · by_cases hm : reserved = true ∧ p.supply.mode = .lowReserve
        · simp [hm]
        · have hrow : (reserved && p.supply.mode == .lowReserve) = false := by simpa using hm
          by_cases hq : 16 ≤ p.sched.queue.length <;> simp [hm, hrow, hq]
      · rfl
    · rfl

section staffSlotRows

variable {p : Part} {x : SlotId}

theorem Part.firstRefusal_staffSlotRows_live (h : p.staffLiveOn x ≠ []) :
    firstRefusal (p.staffSlotRows x) = some .duplicate := by
  have hrow : (p.staffLiveOn x).isEmpty = false := by simpa using h
  simp [Part.staffSlotRows, hrow]

variable (h : p.staffLiveOn x = [])
include h

theorem Part.firstRefusal_staffSlotRows_empty (hx : p.custody x = .empty) :
    firstRefusal (p.staffSlotRows x) = some (.wrongState .slotEmpty) := by
  simp [Part.staffSlotRows, h, hx]

theorem Part.firstRefusal_staffSlotRows_bound {tag unit : Nat} {m : Minute} {f : Bool}
    (hx : p.custody x = .held tag unit m f ∨ ∃ k, p.custody x = .releasing tag unit m k f) :
    firstRefusal (p.staffSlotRows x) = some (.wrongState .slotBound) := by
  rw [Part.staffSlotRows, h]
  rcases hx with hx | ⟨k, hx⟩ <;> rw [hx] <;> rfl

theorem Part.firstRefusal_staffSlotRows_fob
    (hx : (∃ m, p.custody x = .unread m) ∨ ∃ tag reason m, p.custody x = .foreign tag reason m) :
    firstRefusal (p.staffSlotRows x) =
      if (p.record x).outOfService = true then some (.wrongState .slotOutOfService)
      else if (p.record x).unreachable = true then some (.wrongState .slotUnreachable)
      else if 16 ≤ p.sched.queue.length then some .queueFull else none := by
  have hrows : firstRefusal (p.staffSlotRows x) = firstRefusal (p.slotRows x ++ [p.queueRow]) := by
    rw [Part.staffSlotRows, h]
    rcases hx with ⟨m, hx⟩ | ⟨tag, reason, m, hx⟩ <;> rw [hx] <;> rfl
  rw [hrows, Part.slotRows, Part.queueRow, Config.queueCapacity]
  cases (p.record x).outOfService
  · cases (p.record x).unreachable
    · by_cases hq : 16 ≤ p.sched.queue.length <;> simp [hq]
    · rfl
  · rfl

omit h in
/-- What the rows for a slot refuse is refused by the first row that applies (R58). -/
theorem Part.staffSlotRows_refusals {refused : Reply → Prop}
    (hrow : ∀ {r}, firstRefusal (p.staffSlotRows x) = some r → refused r) :
    ((∃ r ∈ p.sched.queue, r.target = .staffSlot ∧ r.slot = x) → refused .duplicate) ∧
    ((∀ r ∈ p.sched.queue, r.target = .staffSlot → r.slot ≠ x) →
      (p.custody x = .empty → refused (.wrongState .slotEmpty)) ∧
      (∀ tag u m f, (p.custody x = .held tag u m f ∨ ∃ k, p.custody x = .releasing tag u m k f) →
        refused (.wrongState .slotBound)) ∧
      ((∃ m, p.custody x = .unread m) ∨ (∃ tag reason m, p.custody x = .foreign tag reason m) →
        ((p.record x).outOfService = true → refused (.wrongState .slotOutOfService)) ∧
        ((p.record x).outOfService = false →
          ((p.record x).unreachable = true → refused (.wrongState .slotUnreachable)) ∧
          ((p.record x).unreachable = false → 16 ≤ p.sched.queue.length → refused .queueFull)))) := by
  refine ⟨fun ⟨r, hr, ht, hslot⟩ => hrow (Part.firstRefusal_staffSlotRows_live ?_), fun hno => ?_⟩
  · exact List.ne_nil_of_mem (List.mem_filter.mpr ⟨hr, by simp [ht, hslot]⟩)
  · have hlive : p.staffLiveOn x = [] := by simpa [Part.staffLiveOn] using hno
    refine ⟨fun he => hrow (Part.firstRefusal_staffSlotRows_empty hlive he),
      fun tag u m f hb => hrow (Part.firstRefusal_staffSlotRows_bound hlive hb), fun hfob => ?_⟩
    rw [Part.firstRefusal_staffSlotRows_fob hlive hfob] at hrow
    refine ⟨fun hoos => hrow ?_, fun hoos => ⟨fun hunr => hrow ?_, fun hunr hfull => hrow ?_⟩⟩
    · simp [hoos]
    · simp [hoos, hunr]
    · simp [hoos, hunr, hfull]

end staffSlotRows

/-! ## The request -/

/-- A release of a kind is submitted (R58, R59). -/
def Part.submit (p : Part) (k : ReleaseKind) (unit : BitVec 24) (slot : BitVec 16) (origin : Line) : Part × Reply :=
  match k with
  | .movement => p.submitVehicle unit (.movement unit.toNat) .standard origin true
  | .staffVehicle => p.submitVehicle unit (.staffVehicle unit.toNat) .staff origin false
  | .staffSlot => p.submitSlot slot origin

section release

variable {h : ReqHdr} {kind : Byte} {unit : BitVec 24} {slot : BitVec 16} {s : State}

/-- A field that is wrong is refused before anything else (R58 row 1). -/
theorem exec_release_badField {r : Reply} (ht : s.part.takes h 6) (hr : firstRefusal (releaseRows kind unit slot) = some r) :
    exec (.release h kind unit slot) s = .next (s.answering (.release h kind unit slot) h 0x23#8 r) := by
  change execRelease h kind unit slot s = _
  unfold execRelease
  rw [State.request_takes ht rfl, Part.checked_refused (firstRefusal_append_of_some hr _)]
  rfl

/-- A RELEASE with its fields right, while commands are taken, is submitted. -/
theorem exec_release {k : ReleaseKind} (hc : s.part.commands h 6) (hk : releaseKind kind = some k)
    (hr : ∀ x ∈ releaseRows kind unit slot, x.1 = false) : exec (.release h kind unit slot) s = .next { s with
      part := s.part.answered ((s.part.received (.release h kind unit slot) h).submit k unit slot h.line).1 h 0x23#8
        ((s.part.received (.release h kind unit slot) h).submit k unit slot h.line).2 } := by
  have hrows : ∀ x ∈ releaseRows kind unit slot ++ (s.part.received (.release h kind unit slot) h).commandRows h.line,
      x.1 = false := by
    rw [Part.commandRows_of_commands hc]
    simpa [or_imp, forall_and] using hr
  change execRelease h kind unit slot s = _
  unfold execRelease
  rw [State.request_takes hc.1 rfl, Part.checked_taken hrows, hk]
  cases k <;> rfl

theorem Part.received_vehicleRows (p : Part) (c : Instr) (v : Vehicle) (second reserved : Bool) :
    (p.received c h).vehicleRows v second reserved = p.vehicleRows v second reserved := by
  have hslot (x : SlotId) : (p.received c h).record x = p.record x := Part.record_of_slot (Part.received_slot ..)
  simp [Part.vehicleRows, Part.slotRows, Part.queueRow, hslot]

theorem Part.received_staffSlotRows (p : Part) (c : Instr) (x : SlotId) :
    (p.received c h).staffSlotRows x = p.staffSlotRows x := by
  have hslot : (p.received c h).slot x = p.slot x := Part.received_slot ..
  simp [Part.staffSlotRows, Part.slotRows, Part.queueRow, Part.staffLiveOn, Part.record_of_slot hslot,
    Part.custody_of_slot hslot]

/-! ## A release of a vehicle -/

/-- The kind of a vehicle release, its target, its class, and whether LOW_RESERVE refuses it (R55, R58). -/
inductive VehicleRelease (kind : Byte) (unit : Nat) : ReleaseKind → Target → ReleaseClass → Bool → Prop
  | movement : kind = 2#8 → VehicleRelease kind unit .movement (.movement unit) .standard true
  | staffVehicle : kind = 3#8 → VehicleRelease kind unit .staffVehicle (.staffVehicle unit) .staff false

section vehicle

variable {k : ReleaseKind} {target : Target} {cls : ReleaseClass} {reserved : Bool}
  (hk : VehicleRelease kind unit.toNat k target cls reserved)
include hk

theorem VehicleRelease.reserved_iff : reserved = true ↔ kind = 2#8 := by
  cases hk
  case movement h => simp [h]
  case staffVehicle h => simp [h]

/-- What the rows for a vehicle refuse is refused by the first row that applies (R58). -/
theorem VehicleRelease.refusals {p : Part} {v : Vehicle} {refused : Reply → Prop}
    (hrow : ∀ {r}, firstRefusal (p.vehicleRows v v.request.isSome reserved) = some r → refused r) :
    (v.request ≠ none → refused .duplicate) ∧ (v.request = none →
      ((∀ x, v.status ≠ .inSlot x) → refused (.wrongState .notIn)) ∧ ∀ x, v.status = .inSlot x →
        (v.hold ≠ none → refused .onHold) ∧ (v.hold = none →
          ((p.record x).outOfService = true → refused (.wrongState .slotOutOfService)) ∧
          ((p.record x).outOfService = false →
            ((p.record x).unreachable = true → refused (.wrongState .slotUnreachable)) ∧
            ((p.record x).unreachable = false →
              (kind = 2#8 → p.supply.mode = .lowReserve → refused .reservePower) ∧
              (kind = 3#8 ∨ p.supply.mode ≠ .lowReserve → 16 ≤ p.sched.queue.length → refused .queueFull))))) := by
  refine ⟨fun hreq => hrow ?_, fun hreq => ⟨fun hout => hrow ?_, fun x hx => ?_⟩⟩
  · simp [Part.vehicleRows, Option.isSome_iff_ne_none.mpr hreq]
  · simp [Part.vehicleRows, Vehicle.isIn, Vehicle.slot_eq_none hout, hreq]
  · rw [Part.firstRefusal_vehicleRows hx hreq] at hrow
    refine ⟨fun hhold => hrow ?_, fun hhold => ⟨fun hoos => hrow ?_, fun hoos => ⟨fun hunr => hrow ?_, fun hunr =>
      ⟨fun hk2 hmode => hrow ?_, fun hk3 hfull => hrow ?_⟩⟩⟩⟩
    · simp [hhold]
    · simp [hhold, hoos]
    · simp [hhold, hoos, hunr]
    · simp [hhold, hoos, hunr, hk.reserved_iff.mpr hk2, hmode]
    · have hfree : ¬ (reserved = true ∧ p.supply.mode = .lowReserve) := by
        rintro ⟨hr, hm⟩
        rw [hk.reserved_iff.mp hr] at hk3
        exact hk3.elim (by decide) fun hne => hne hm
      simp [hhold, hoos, hunr, hfree, hfull]

theorem VehicleRelease.target_unit : target.unit = some unit.toNat := by
  cases hk <;> rfl

theorem VehicleRelease.releaseKind : releaseKind kind = some k := by
  cases hk
  case movement h => rw [h]; rfl
  case staffVehicle h => rw [h]; rfl

theorem VehicleRelease.releaseRows : releaseRows kind unit slot =
    [(!validUnit unit, .badField 2), (decide (slot.toNat ≠ 0), .badField 3)] := by
  rw [Machine.releaseRows, hk.releaseKind]
  cases hk <;> rfl

variable (hc : s.part.commands h 6) (h1 : 1 ≤ unit.toNat) (h2 : unit.toNat ≤ 999999) (hs : slot.toNat = 0)
include hc h1 h2 hs

theorem VehicleRelease.exec : exec (.release h kind unit slot) s = .next { s with
    part := s.part.answered
      ((s.part.received (.release h kind unit slot) h).submitVehicle unit target cls h.line reserved).1 h 0x23#8
      ((s.part.received (.release h kind unit slot) h).submitVehicle unit target cls h.line reserved).2 } := by
  rw [exec_release hc hk.releaseKind (by simp [hk.releaseRows, validUnit_of_range h1 h2, hs])]
  cases hk <;> rfl

theorem VehicleRelease.exec_notFound (hv : s.part.findUnit unit.toNat = none) : Machine.exec (.release h kind unit slot) s =
    .next (s.answering (.release h kind unit slot) h 0x23#8 .notFound) := by
  rw [hk.exec hc h1 h2 hs, Part.submitVehicle, Part.received_findUnit, hv]
  rfl

variable {v : Vehicle} (hv : s.part.findUnit unit.toNat = some v)
include hv

theorem VehicleRelease.exec_refused {r : Reply}
    (hr : firstRefusal (s.part.vehicleRows v v.request.isSome reserved) = some r) :
    Machine.exec (.release h kind unit slot) s = .next (s.answering (.release h kind unit slot) h 0x23#8 r) := by
  rw [hk.exec hc h1 h2 hs, Part.submitVehicle, Part.received_findUnit, hv]
  dsimp only
  rw [Part.checked_refused (by rwa [Part.received_vehicleRows])]
  rfl

theorem VehicleRelease.exec_accepted {x : SlotId} (hx : v.status = .inSlot x)
    (hr : firstRefusal (s.part.vehicleRows v v.request.isSome reserved) = none) :
    Machine.exec (.release h kind unit slot) s = .next (s.accepted (.release h kind unit slot) h target x cls) := by
  rw [hk.exec hc h1 h2 hs, Part.submitVehicle, Part.received_findUnit, hv]
  dsimp only
  have hnumber : (s.part.received (.release h kind unit slot) h).nextNumber = s.part.nextNumber := by
    simp [Part.nextNumber]
  rw [Part.checked_taken (by rwa [Part.received_vehicleRows, ← firstRefusal_eq_none])]
  simp only [settled, Part.acceptVehicle, Vehicle.slot_of_status hx]
  rw [((s.part.received (.release h kind unit slot) h).accept_effects target x cls h.line).1, hnumber]
  rfl

end vehicle

/-! ## A release of a slot -/

theorem validSlot_of_slotField {slot : BitVec 16} {x : SlotId} (h : slotField slot = some x) : validSlot slot = true := by
  unfold slotField slotOfNumber at h
  split at h
  next hs => simpa [validSlot] using hs
  next => cases h

section staffSlot

variable {x : SlotId} (hc : s.part.commands h 6) (hk : kind = 4#8) (hu : unit.toNat = 0) (hx : slotField slot = some x)
include hc hk hu hx

theorem exec_release_staffSlot : exec (.release h kind unit slot) s = .next { s with
    part := s.part.answered ((s.part.received (.release h kind unit slot) h).submitSlot slot h.line).1 h 0x23#8
      ((s.part.received (.release h kind unit slot) h).submitSlot slot h.line).2 } := by
  have hkind : releaseKind kind = some .staffSlot := by rw [hk]; rfl
  refine (exec_release hc hkind ?_).trans rfl
  simp [releaseRows, hkind, hu, validSlot_of_slotField hx]

theorem exec_release_staffSlot_refused {r : Reply} (hr : firstRefusal (s.part.staffSlotRows x) = some r) :
    exec (.release h kind unit slot) s = .next (s.answering (.release h kind unit slot) h 0x23#8 r) := by
  rw [exec_release_staffSlot hc hk hu hx, Part.submitSlot, hx]
  dsimp only
  rw [Part.checked_refused (by rwa [Part.received_staffSlotRows])]
  rfl

theorem exec_release_staffSlot_accepted (hr : firstRefusal (s.part.staffSlotRows x) = none) :
    exec (.release h kind unit slot) s = .next (s.accepted (.release h kind unit slot) h .staffSlot x .staff) := by
  have hnumber : (s.part.received (.release h kind unit slot) h).nextNumber = s.part.nextNumber := by
    simp [Part.nextNumber]
  rw [exec_release_staffSlot hc hk hu hx, Part.submitSlot, hx]
  dsimp only
  rw [Part.checked_taken (by rwa [Part.received_staffSlotRows, ← firstRefusal_eq_none])]
  simp only [settled]
  rw [((s.part.received (.release h kind unit slot) h).accept_effects .staffSlot x .staff h.line).1, hnumber]
  rfl

end staffSlot

/-! ## The first row: the fields -/

section fields

variable (ht : s.part.takes h 6)
include ht

theorem exec_release_kind (h2 : kind ≠ 2#8) (h3 : kind ≠ 3#8) (h4 : kind ≠ 4#8) : exec (.release h kind unit slot) s =
    .next (s.answering (.release h kind unit slot) h 0x23#8 (.badField 1)) := by
  refine exec_release_badField ht ?_
  simp [releaseRows, releaseKind, h2, h3, h4]

theorem exec_release_vehicle_fields (hk : kind = 2#8 ∨ kind = 3#8) :
    (unit.toNat = 0 ∨ 999999 < unit.toNat → exec (.release h kind unit slot) s =
      .next (s.answering (.release h kind unit slot) h 0x23#8 (.badField 2))) ∧
    (1 ≤ unit.toNat → unit.toNat ≤ 999999 → slot.toNat ≠ 0 → exec (.release h kind unit slot) s =
      .next (s.answering (.release h kind unit slot) h 0x23#8 (.badField 3))) := by
  have hrows : releaseRows kind unit slot = [(!validUnit unit, .badField 2), (decide (slot.toNat ≠ 0), .badField 3)] := by
    rcases hk with hk | hk
    · exact (VehicleRelease.movement (unit := unit.toNat) hk).releaseRows
    · exact (VehicleRelease.staffVehicle (unit := unit.toNat) hk).releaseRows
  refine ⟨fun hu => exec_release_badField ht ?_, fun h1 h2 hs => exec_release_badField ht ?_⟩
  · have hvalid : validUnit unit = false := decide_eq_false (by omega)
    simp [hrows, hvalid]
  · simp [hrows, validUnit_of_range h1 h2, hs]

theorem exec_release_slot_fields (hk : kind = 4#8) :
    (unit.toNat ≠ 0 → exec (.release h kind unit slot) s =
      .next (s.answering (.release h kind unit slot) h 0x23#8 (.badField 2))) ∧
    (unit.toNat = 0 → slot.toNat = 0 ∨ 384 < slot.toNat → exec (.release h kind unit slot) s =
      .next (s.answering (.release h kind unit slot) h 0x23#8 (.badField 3))) := by
  have hrows : releaseRows kind unit slot = [(decide (unit.toNat ≠ 0), .badField 2), (!validSlot slot, .badField 3)] := by
    rw [hk]
    rfl
  refine ⟨fun hu => exec_release_badField ht ?_, fun hu hs => exec_release_badField ht ?_⟩
  · simp [hrows, hu]
  · have hvalid : validSlot slot = false := decide_eq_false (by omega)
    simp [hrows, hu, hvalid]

end fields

end release

/-- A request of a vehicle kind is of MOVEMENT or of STAFF_VEHICLE. -/
theorem vehicleRelease_of_kind {kind : Byte} (h : kind = 2#8 ∨ kind = 3#8) (unit : Nat) : ∃ k target cls reserved,
    VehicleRelease kind unit k target cls reserved := by
  rcases h with h | h
  · exact ⟨_, _, _, _, .movement h⟩
  · exact ⟨_, _, _, _, .staffVehicle h⟩

/-- Settles O28: a request that the rows of R58 let through is accepted, and the selection of the part in which it stands
is that of the part before with the request at the end of its queue; the refusals by the first row that applies. -/
theorem releaseAccepted : Obligations.ReleaseAccepted := by
  constructor
  · intro h kind unit slot x s hc hoos hunr hlen accepted linked
    have hr : s.part.isReady = true := hc.2.1
    have key (target : Target) (cls : ReleaseClass)
        (hexec : exec (.release h kind unit slot) s = .next (s.accepted (.release h kind unit slot) h target x cls)) :
        accepted target cls (s.accepted (.release h kind unit slot) h target x cls) s.part.nextNumber := by
      obtain ⟨-, -, -, huptime, hsupply, hchute, hbook, hlate⟩ :=
        s.accepting_effects (.release h kind unit slot) h target x cls
      obtain ⟨hlow, hhigh⟩ := freeNumber_range (by decide : 0 < 255) s.part.liveNumbers s.part.liveNumbers.length
        s.part.sched.lastNumber
      refine ⟨hexec, rfl, by simp [State.accepted], hlow, hhigh, Part.nextNumber_not_mem hlen,
        s.accepted_liveNumbers _ h target x cls, freeNumber_nextFree (by simp [Part.liveNumbers]; omega),
        s.accepted_queue _ h target x cls,
        fun hn => ⟨fun r hb => State.accepted_selected _ h target x cls hr hlen hn hb,
          State.accepted_strikes _ h target x cls hlen hn⟩,
        State.accepted_noneMayStart _ h target x cls hr, ?_, ?_, ?_, ?_⟩
      · simpa [State.accepted] using hbook
      · simpa [State.accepted] using hchute
      · simpa [State.accepted] using hlate
      · simpa [State.accepted, Part.sameSupply] using ⟨hsupply, huptime⟩
    have vehicle {k : ReleaseKind} {target : Target} {cls : ReleaseClass} {reserved : Bool}
        (hk : VehicleRelease kind unit.toNat k target cls reserved) {v : Vehicle} (h1 : 1 ≤ unit.toNat)
        (h2 : unit.toNat ≤ 999999) (hs : slot.toNat = 0) (hv : s.part.findUnit unit.toNat = some v)
        (hreq : v.request = none) (hx : v.status = .inSlot x) (hhold : v.hold = none)
        (hmode : reserved = true → s.part.supply.mode ≠ .lowReserve) : ∃ t n, accepted target cls t n ∧ linked t n := by
      refine ⟨_, _, key target cls (hk.exec_accepted hc h1 h2 hs hv hx ?_),
        s.accepted_fleet_vehicle _ h target x cls hk.target_unit⟩
      have hfree : ¬ (reserved = true ∧ s.part.supply.mode = .lowReserve) := fun ⟨hr, hm⟩ => hmode hr hm
      simp [Part.firstRefusal_vehicleRows hx hreq, hhold, hoos, hunr, hfree, hlen]
    refine ⟨fun v h1 h2 hs hv hreq hx hhold =>
      ⟨fun hk hmode => vehicle (.movement hk) h1 h2 hs hv hreq hx hhold fun _ => hmode,
        fun hk => vehicle (.staffVehicle hk) h1 h2 hs hv hreq hx hhold nofun⟩, fun hk hu hx hlive hfob => ?_⟩
    refine ⟨_, _, key .staffSlot .staff (exec_release_staffSlot_accepted hc hk hu hx ?_),
      s.accepted_fleet_slot _ h .staffSlot x .staff rfl⟩
    rw [Part.firstRefusal_staffSlotRows_fob hlive hfob]
    simp [hoos, hunr, hlen]
  · intro h kind unit slot s refused vehicleKind full
    refine ⟨fun ht => ⟨exec_release_kind ht, fun hk hu _ => (exec_release_vehicle_fields ht hk).1 hu,
      fun hk => (exec_release_vehicle_fields ht hk).2, fun hk hu _ _ => (exec_release_slot_fields ht hk).1 hu,
      fun hk => (exec_release_slot_fields ht hk).2⟩, fun hc hk h1 h2 hs => ?_, fun x hc hk hu hx => ?_⟩
    · obtain ⟨k, target, cls, reserved, hkind⟩ := vehicleRelease_of_kind hk unit.toNat
      exact ⟨fun hn => hkind.exec_notFound hc h1 h2 hs (Part.findUnit_eq_none hn),
        fun v hv => hkind.refusals (hkind.exec_refused hc h1 h2 hs hv)⟩
    · exact Part.staffSlotRows_refusals (exec_release_staffSlot_refused hc hk hu hx)

end Sys2Proof.Machine
end
